-- ==== Sys2Proof/Word.lean ====
section
/-! DEFINITION. The word types of the Korlan 6420: the bytes that cross its ports and the audio samples of its lanes.
Everything that turns numbers into bytes and back stands in Sys2Proof/Decode.lean. -/

namespace Sys2Proof

/-- One byte of a port or a link (R198). -/
abbrev Byte := BitVec 8

/-- One 24-bit audio sample, a signed value in two's complement (R95). -/
abbrev Sample := BitVec 24

end Sys2Proof
end

