-- ==== Sys2Proof/Config.lean ====
section
/-! DEFINITION. What is fixed for the part: the constants the manual gives, and the free values, which are opaque:
nothing in Lean can say which value one of them has. -/

namespace Sys2Proof.Config

/-- Station time runs 0 .. 2^40-1 (5.2, R191). -/
def stationModulus : Nat := 2 ^ 40

/-- The ms of one day (5.2). -/
def dayMs : Nat := 86400000

/-- The longest planned length, in ms (section 1.2). -/
def maxLength : Nat := 10800000

/-- The part code that IDENT reports (R192). -/
def partCode : Nat := 6420

/-- The revision code of the revision the manual describes (R192). -/
def revisionCode : Nat := 1

/-- The largest request frame length (R200). -/
def maxRequest : Nat := 62

/-- Free value (log entry 3): which of several due events is taken next. The manual says that either order is
possible; the argument is the model's counter of free values used. -/
opaque tieChoice : Nat → Nat

/-- Free value (log entry 4): whether a mix-minus send, or the monitored programme of a dead-air fill, is rounded up
where taking away an unrounded contribution leaves no whole sample value (R96, R98). -/
opaque roundUp : Nat → Bool

/-- Free value (log entry 5): the request code that the response to a WRITE carries when the frame was too short to
hold one (R188). -/
opaque missingCode : Nat → Byte

end Sys2Proof.Config
end

