-- ==== Sys2Proof/Syntax.lean ====
section
/-! DEFINITION. The commands of the Korlan 6420: one constructor of Instr for each row of spec/opcode_table.json.
A request carries the role it is sent for and its fields as the numbers its frame holds (R201), so that a field out of
range can be sent and refused. A frame of the alert port or the site link carries its payload fields as received
(R204, R205). An input edge or a timer's expiry carries the line, player, slot or channel it concerns. -/

namespace Sys2Proof

/-- The four roles (5.6), in the order of their codes (R200). -/
inductive Role where
  | automation | presenter | screener | engineer
deriving DecidableEq, Repr

/-- The three cue inputs (section 3). -/
inductive CueInput where
  | go | netA | netB
deriving DecidableEq, Repr

/-- The six transmitter parameters, in parameter order (R170). -/
inductive Param where
  | carrier | power | txSelect | siteAudio | alertFlag | modLimit
deriving DecidableEq, Repr

/-- The 38 bytes of an entry body as numbers (R202). A yes/no field is its byte. -/
structure RawEntry where
  list : Nat
  kind : Nat
  cart : Nat
  planned : Nat
  segue : Nat
  timing : Nat
  stretchMin : Nat
  stretchMax : Nat
  postTime : Nat
  postKind : Nat
  waitForGo : Nat
  breakAfter : Nat
  oneShot : Nat
  timed : Nat
  cueStart : Nat
  spanCount : Nat
  breakNumber : Nat
  callers : Nat
  endAction : Nat
  endOnLast : Nat
deriving DecidableEq, Repr

/-- The payload of an ISSUE frame (R204). -/
structure IssueFrame where
  origin : Nat
  number : Nat
  revision : Nat
  cls : Nat
  validFrom : Nat
  expires : Nat
  declared : Nat
  required : Nat
  interval : Nat
  test : Nat
deriving DecidableEq, Repr

/-- The levels of the inputs whose last level the part holds, as they stand when a power-on reset ends (R66, R125). -/
structure PinLevels where
  go : Bool
  netA : Bool
  netB : Bool
  ring : Vector Bool 6
  loop : Vector Bool 6
deriving DecidableEq, Repr

/-- The commands, in the order of spec/opcode_table.json. -/
inductive Instr where
  -- the command port (chapter 10)
  | writeTransactionBad (first : Byte) (bytes : List Byte)
  | portOverrun (bytes : List Byte)
  | read (clocked : Nat)
  -- the running order (chapter 1)
  | roInsert (role : Role) (anchor : Nat) (body : RawEntry)
  | roChange (role : Role) (handle : Nat) (body : RawEntry)
  | roMove (role : Role) (handle list anchor : Nat)
  | roDelete (role : Role) (handle : Nat)
  | breakClear (role : Role) (brk : Nat)
  | roRead (role : Role) (handle : Nat)
  | roList (role : Role) (list start : Nat)
  -- air control (chapter 3)
  | airMode (role : Role) (mode : Nat)
  | airGo (role : Role)
  | airEndSegment (role : Role)
  | airHold (role : Role)
  | airResume (role : Role)
  | airStep (role : Role)
  | airHoldAtPoint (role : Role) (value : Nat)
  | airStop (role : Role)
  | airStart (role : Role)
  | airCueTo (role : Role) (handle : Nat)
  | airStatus (role : Role)
  | playerCue (role : Role) (player cart length : Nat)
  | playerClear (role : Role) (player : Nat)
  | playerRead (role : Role) (player : Nat)
  -- the lookahead and the timing (chapters 2 and 4)
  | lookaheadRead (role : Role) (start : Nat)
  | timingRead (role : Role)
  -- the programme bus (chapter 5)
  | busFader (role : Role) (source : Nat) (value : Int)
  | busTrim (role : Role) (source : Nat) (value : Int)
  | micSwitch (role : Role) (source value : Nat)
  | busRead (role : Role)
  -- caller lines (chapter 6)
  | lineAnswer (role : Role) (line : Nat)
  | lineAccept (role : Role) (line : Nat) (name : List Byte) (topic priority : Nat)
  | lineReject (role : Role) (line : Nat)
  | lineRelease (role : Role) (line : Nat)
  | lineTake (role : Role) (line : Nat)
  | lineDrop (role : Role) (line : Nat)
  | lineService (role : Role) (line value : Nat)
  | queueMove (role : Role) (line position : Nat)
  | linePin (role : Role) (line : Nat)
  | lineNotes (role : Role) (line : Nat) (name : List Byte) (topic : Nat)
  | callerRead (role : Role) (line : Nat)
  | queueRead (role : Role)
  -- alerts (chapters 7 and 8)
  | classRead (role : Role) (cls : Nat)
  | classWrite (role : Role) (cls action deadline required : Nat)
  | classProbe (role : Role) (cls action deadline required : Nat)
  | complianceLock (role : Role)
  | alertCarry (role : Role) (origin number : Nat)
  | alertDismiss (role : Role) (origin number : Nat)
  | alertRead (role : Role) (origin number : Nat)
  | alertList (role : Role)
  | carriageRead (role : Role)
  -- the site link (chapter 9)
  | siteSet (role : Role) (param value : Nat)
  | siteRead (role : Role)
  -- configuration, the clock and the part as a whole (chapter 10)
  | configWriteTolerance (role : Role) (value : Int)
  | configWriteCueGrace (role : Role) (value : Int)
  | configWriteFillPlayer (role : Role) (value : Int)
  | configWriteThreshold (role : Role) (value : Int)
  | configWriteDeadAirLimit (role : Role) (value : Int)
  | configWriteDuckDepth (role : Role) (value : Int)
  | configWriteHoldLimit (role : Role) (value : Int)
  | configWriteFoldBackLimit (role : Role) (value : Int)
  | configWriteCalibration (role : Role) (item : Nat) (value : Int)
  | configRead (role : Role)
  | clockSet (role : Role) (time : Nat)
  | clockRead (role : Role)
  | ident (role : Role)
  | controllerReset (role : Role)
  | eventsRead (role : Role)
  | eventsClear (role : Role) (pairs : List (Nat × Nat))
  | eventsMask (role : Role) (mask : Vector Byte 24)
  | powerOnReset (levels : PinLevels)
  -- cue inputs, player inputs and the sequencer's timers
  | goEdge
  | netAEdge
  | netBEdge
  | endInput (player : Fin 4)
  | endTimer
  | seguePoint
  | outgoingEnd
  | graceDeadline
  | postInstant
  | cutInstant
  | cutCompletion (player : Fin 4)
  | fillWithdrawalEnd (player : Fin 4)
  | gainUpdate
  | deadAirWindow
  | periodicTimer
  -- line inputs and the caller-line unit's timers
  | ringEvent (line : Fin 6)
  | loopEdge (line : Fin 6) (level : Bool)
  | loopDrop (line : Fin 6)
  | ringTimer (line : Fin 6)
  | clearingTimer (line : Fin 6)
  | holdTimer (line : Fin 6)
  -- the alert port, the alert table's instants and the carriage's timers
  | issue (frame : IssueFrame)
  | cancel (origin number : Nat)
  | audioEnd
  | audioFail
  | alertFrameAbandoned (bytes : List Byte)
  | alertFrameGap
  | alertFrameSent
  | validFrom (slot : Fin 8)
  | expiry (slot : Fin 8)
  | nextEligible (slot : Fin 8)
  | deadlineExpiry (slot : Fin 8)
  | guardExpiry
  -- the site link's frames and timers
  | ack (sequence param value : Nat)
  | nak (sequence reason : Nat)
  | reading (sequence channel code : Nat)
  | siteState (active carrier audio fallback : Nat)
  | siteFrameAbandoned (bytes : List Byte)
  | siteFrameGap
  | siteFrameSent
  | keepTimer
  | pollTimer
  | ackTimeout (sequence : Nat)
  | retryTimer (param : Param)
  | silenceTimerDegrade
  | silenceTimerLoss
  | changeoverTimer
  | readingStale (channel : Fin 8)
  -- falls of the held inputs, and the bus's sample clock
  | cueInputFall (input : CueInput)
  | ringFall (line : Fin 6)
  | samplePeriod (lanes : Vector Sample 14) (talkback : Sample)
deriving DecidableEq, Repr

/-- What the bytes of a WRITE transaction hold (R188, stages 1 to 3): a frame error, a check error, or a request. -/
inductive WriteContent where
  | badRequest | badCheck
  | request (i : Instr)
deriving DecidableEq, Repr

end Sys2Proof
end

