-- ==== Sys2Proof/WellFormed.lean ====
section
/-! DEFINITION. Well-formed commands: every number fits the bytes that its frame gives it (R201, R202, R204, R205),
and a request is no longer than the longest request frame (R200). A field that fits its bytes and is out of its RANGE
is well formed: the part receives it and refuses it. -/

namespace Sys2Proof

/-- `n` fits `k` bytes. -/
def fits (k n : Nat) : Bool := decide (n < 256 ^ k)

/-- `v` fits two bytes in two's complement. -/
def fitsSigned (v : Int) : Bool := decide (-32768 ≤ v) && decide (v ≤ 32767)

/-- Every number of an entry body fits its bytes (R202). -/
def RawEntry.wf (e : RawEntry) : Bool :=
  fits 1 e.list && fits 1 e.kind && fits 4 e.cart && fits 4 e.planned && fits 4 e.segue && fits 1 e.timing &&
  fits 4 e.stretchMin && fits 4 e.stretchMax && fits 4 e.postTime && fits 1 e.postKind && fits 1 e.waitForGo &&
  fits 1 e.breakAfter && fits 1 e.oneShot && fits 1 e.timed && fits 1 e.cueStart && fits 1 e.spanCount &&
  fits 1 e.breakNumber && fits 1 e.callers && fits 1 e.endAction && fits 1 e.endOnLast

/-- Every number of an ISSUE payload fits its bytes (R204). -/
def IssueFrame.wf (f : IssueFrame) : Bool :=
  fits 1 f.origin && fits 2 f.number && fits 1 f.revision && fits 1 f.cls && fits 6 f.validFrom && fits 6 f.expires &&
  fits 2 f.declared && fits 1 f.required && fits 1 f.interval && fits 1 f.test

/-- The well-formed commands. -/
def Instr.wf : Instr → Bool
  | .writeTransactionBad _ _ | .portOverrun _ | .read _ => true
  | .roInsert _ anchor body => fits 2 anchor && body.wf
  | .roChange _ handle body => fits 2 handle && body.wf
  | .roMove _ handle list anchor => fits 2 handle && fits 1 list && fits 2 anchor
  | .roDelete _ handle => fits 2 handle
  | .breakClear _ brk => fits 1 brk
  | .roRead _ handle => fits 2 handle
  | .roList _ list start => fits 1 list && fits 2 start
  | .airMode _ mode => fits 1 mode
  | .airGo _ | .airEndSegment _ | .airHold _ | .airResume _ | .airStep _ => true
  | .airHoldAtPoint _ value => fits 1 value
  | .airStop _ | .airStart _ => true
  | .airCueTo _ handle => fits 2 handle
  | .airStatus _ => true
  | .playerCue _ player cart length => fits 1 player && fits 4 cart && fits 4 length
  | .playerClear _ player => fits 1 player
  | .playerRead _ player => fits 1 player
  | .lookaheadRead _ start => fits 1 start
  | .timingRead _ => true
  | .busFader _ source value => fits 1 source && fitsSigned value
  | .busTrim _ source value => fits 1 source && fitsSigned value
  | .micSwitch _ source value => fits 1 source && fits 1 value
  | .busRead _ => true
  | .lineAnswer _ line => fits 1 line
  | .lineAccept _ line name topic priority =>
    fits 1 line && decide (name.length ≤ 53) && fits 2 topic && fits 1 priority
  | .lineReject _ line => fits 1 line
  | .lineRelease _ line => fits 1 line
  | .lineTake _ line => fits 1 line
  | .lineDrop _ line => fits 1 line
  | .lineService _ line value => fits 1 line && fits 1 value
  | .queueMove _ line position => fits 1 line && fits 1 position
  | .linePin _ line => fits 1 line
  | .lineNotes _ line name topic => fits 1 line && decide (name.length ≤ 54) && fits 2 topic
  | .callerRead _ line => fits 1 line
  | .queueRead _ => true
  | .classRead _ cls => fits 1 cls
  | .classWrite _ cls action deadline required => fits 1 cls && fits 1 action && fits 2 deadline && fits 1 required
  | .classProbe _ cls action deadline required => fits 1 cls && fits 1 action && fits 2 deadline && fits 1 required
  | .complianceLock _ => true
  | .alertCarry _ origin number => fits 1 origin && fits 2 number
  | .alertDismiss _ origin number => fits 1 origin && fits 2 number
  | .alertRead _ origin number => fits 1 origin && fits 2 number
  | .alertList _ | .carriageRead _ => true
  | .siteSet _ param value => fits 1 param && fits 2 value
  | .siteRead _ => true
  | .configWriteTolerance _ value => fitsSigned value
  | .configWriteCueGrace _ value => fitsSigned value
  | .configWriteFillPlayer _ value => fitsSigned value
  | .configWriteThreshold _ value => fitsSigned value
  | .configWriteDeadAirLimit _ value => fitsSigned value
  | .configWriteDuckDepth _ value => fitsSigned value
  | .configWriteHoldLimit _ value => fitsSigned value
  | .configWriteFoldBackLimit _ value => fitsSigned value
  | .configWriteCalibration _ item value =>
    fits 1 item && !(decide (1 ≤ item) && decide (item ≤ 8)) && fitsSigned value
  | .configRead _ => true
  | .clockSet _ time => fits 6 time
  | .clockRead _ | .ident _ | .controllerReset _ | .eventsRead _ => true
  | .eventsClear _ pairs => decide (pairs.length ≤ 28) && pairs.all (fun p => fits 1 p.1 && fits 1 p.2)
  | .eventsMask _ _ => true
  | .powerOnReset _ => true
  | .goEdge | .netAEdge | .netBEdge => true
  | .endInput _ | .endTimer | .seguePoint | .outgoingEnd | .graceDeadline | .postInstant | .cutInstant => true
  | .cutCompletion _ | .fillWithdrawalEnd _ | .gainUpdate | .deadAirWindow | .periodicTimer => true
  | .ringEvent _ | .loopEdge _ _ | .loopDrop _ | .ringTimer _ | .clearingTimer _ | .holdTimer _ => true
  | .issue frame => frame.wf
  | .cancel origin number => fits 1 origin && fits 2 number
  | .audioEnd | .audioFail | .alertFrameAbandoned _ | .alertFrameGap | .alertFrameSent => true
  | .validFrom _ | .expiry _ | .nextEligible _ | .deadlineExpiry _ | .guardExpiry => true
  | .ack sequence param value => fits 1 sequence && fits 1 param && fits 2 value
  | .nak sequence reason => fits 1 sequence && fits 1 reason
  | .reading sequence channel code => fits 1 sequence && fits 1 channel && fits 2 code
  | .siteState active carrier audio fallback => fits 1 active && fits 1 carrier && fits 1 audio && fits 1 fallback
  | .siteFrameAbandoned _ | .siteFrameGap | .siteFrameSent | .keepTimer | .pollTimer => true
  | .ackTimeout sequence => fits 1 sequence
  | .retryTimer _ | .silenceTimerDegrade | .silenceTimerLoss | .changeoverTimer | .readingStale _ => true
  | .cueInputFall _ | .ringFall _ | .samplePeriod _ _ => true

end Sys2Proof
end

