-- ==== Sys2Proof/Decode.lean ====
section
/-! DEFINITION. Bytes and commands: the byte order (R198), the 16-bit check (R199), the request frames of the command
port (R200 to R202) with their decoder and encoder, and the frames received on the alert port and the site link (R204,
R205). No row of spec/opcode_table.json gives bits, so decodeTableWord answers none. -/

namespace Sys2Proof

/-! ### Byte order (R198) -/

/-- `k` bytes of `n`, most significant byte first. -/
def be : Nat → Nat → List Byte
  | 0, _ => []
  | k + 1, n => BitVec.ofNat 8 (n / 256 ^ k) :: be k n

/-- The number that bytes hold, most significant byte first. -/
def beNat (bytes : List Byte) : Nat := bytes.foldl (fun n b => n * 256 + b.toNat) 0

/-- `k` bytes of a signed value in two's complement. -/
def beInt (k : Nat) (v : Int) : List Byte := be k (v % (256 ^ k : Nat)).toNat

/-- The signed value of a 16-bit number in two's complement. -/
def signed16 (n : Nat) : Int := if n < 32768 then n else (n : Int) - 65536

/-- The 16-bit number of a signed value in two's complement. -/
def unsigned16 (v : Int) : Nat := (v % 65536).toNat

/-- Fields packed in order, each (width, value). -/
def packFields : List (Nat × Nat) → List Byte
  | [] => []
  | (k, v) :: rest => be k v ++ packFields rest

/-- Fields of the given widths read in order; none unless the bytes are exactly as many as the widths call for. -/
def unpack : List Nat → List Byte → Option (List Nat)
  | [], [] => some []
  | [], _ :: _ => none
  | k :: ks, bytes =>
    if k ≤ bytes.length then (unpack ks (bytes.drop k)).map (beNat (bytes.take k) :: ·) else none

/-! ### The check (R199) -/

/-- One bit of the check: the register moves left, and the polynomial 1021h enters when a 1 leaves. -/
def crcBit (r : BitVec 16) : BitVec 16 := if r.msb then (r <<< 1) ^^^ 0x1021#16 else r <<< 1

/-- One byte enters the register's top, most significant bit first. -/
def crcByte (r : BitVec 16) (b : Byte) : BitVec 16 :=
  let x := r ^^^ (b.zeroExtend 16 <<< 8)
  crcBit (crcBit (crcBit (crcBit (crcBit (crcBit (crcBit (crcBit x)))))))

/-- The check over the covered bytes: the register starts at FFFFh and is not inverted at the end. -/
def crc (bytes : List Byte) : Nat := (bytes.foldl crcByte 0xFFFF#16).toNat

/-! ### Requests (R200, R201) -/

/-- The code of a role (R200). -/
def Role.code : Role → Nat
  | .automation => 1 | .presenter => 2 | .screener => 3 | .engineer => 4

/-- The role of a code; none for a code that names no role (R188, stage 3). -/
def roleOf : Nat → Option Role
  | 1 => some .automation | 2 => some .presenter | 3 => some .screener | 4 => some .engineer
  | _ => none

/-- The widths of the entry body's fields (R202). -/
def entryWidths : List Nat := [1, 1, 4, 4, 4, 1, 4, 4, 4, 1, 1, 1, 1, 1, 1, 1, 1, 1, 1, 1]

/-- The entry body's fields in order (R202). -/
def RawEntry.toFields (e : RawEntry) : List Nat :=
  [e.list, e.kind, e.cart, e.planned, e.segue, e.timing, e.stretchMin, e.stretchMax, e.postTime, e.postKind,
   e.waitForGo, e.breakAfter, e.oneShot, e.timed, e.cueStart, e.spanCount, e.breakNumber, e.callers, e.endAction,
   e.endOnLast]

/-- The entry body that holds the fields (R202). -/
def RawEntry.ofFields : List Nat → Option RawEntry
  | [list, kind, cart, planned, segue, timing, stretchMin, stretchMax, postTime, postKind, waitForGo, breakAfter,
     oneShot, timed, cueStart, spanCount, breakNumber, callers, endAction, endOnLast] =>
    some { list, kind, cart, planned, segue, timing, stretchMin, stretchMax, postTime, postKind, waitForGo,
           breakAfter, oneShot, timed, cueStart, spanCount, breakNumber, callers, endAction, endOnLast }
  | _ => none

/-- An (event, count) list packed as EVENTS_CLEAR carries it. -/
def packPairs : List (Nat × Nat) → List Byte
  | [] => []
  | (a, b) :: rest => be 1 a ++ be 1 b ++ packPairs rest

/-- The pairs in the bytes of an EVENTS_CLEAR; none for an odd number of bytes. -/
def unpackPairs : List Byte → Option (List (Nat × Nat))
  | [] => some []
  | [_] => none
  | a :: b :: rest => (unpackPairs rest).map ((a.toNat, b.toNat) :: ·)

/-- The role, the request code and the field bytes of a request (R200, R201); none for a command that is no request of
the command port. -/
def Instr.request? : Instr → Option (Role × Nat × List Byte)
  | .roInsert r anchor e => some (r, 0x10, packFields ((2, anchor) :: entryWidths.zip e.toFields))
  | .roChange r handle e => some (r, 0x11, packFields ((2, handle) :: entryWidths.zip e.toFields))
  | .roMove r handle list anchor => some (r, 0x12, packFields [(2, handle), (1, list), (2, anchor)])
  | .roDelete r handle => some (r, 0x13, packFields [(2, handle)])
  | .breakClear r brk => some (r, 0x14, packFields [(1, brk)])
  | .roRead r handle => some (r, 0x15, packFields [(2, handle)])
  | .roList r list start => some (r, 0x16, packFields [(1, list), (2, start)])
  | .airMode r mode => some (r, 0x20, packFields [(1, mode)])
  | .airGo r => some (r, 0x21, [])
  | .airEndSegment r => some (r, 0x22, [])
  | .airHold r => some (r, 0x23, [])
  | .airResume r => some (r, 0x24, [])
  | .airStep r => some (r, 0x25, [])
  | .airHoldAtPoint r value => some (r, 0x26, packFields [(1, value)])
  | .airStop r => some (r, 0x27, [])
  | .airStart r => some (r, 0x28, [])
  | .airCueTo r handle => some (r, 0x29, packFields [(2, handle)])
  | .airStatus r => some (r, 0x2A, [])
  | .playerCue r player cart length => some (r, 0x2B, packFields [(1, player), (4, cart), (4, length)])
  | .playerClear r player => some (r, 0x2C, packFields [(1, player)])
  | .playerRead r player => some (r, 0x2D, packFields [(1, player)])
  | .lookaheadRead r start => some (r, 0x30, packFields [(1, start)])
  | .timingRead r => some (r, 0x31, [])
  | .busFader r source value => some (r, 0x38, packFields [(1, source), (2, unsigned16 value)])
  | .busTrim r source value => some (r, 0x39, packFields [(1, source), (2, unsigned16 value)])
  | .micSwitch r source value => some (r, 0x3A, packFields [(1, source), (1, value)])
  | .busRead r => some (r, 0x3B, [])
  | .lineAnswer r line => some (r, 0x40, packFields [(1, line)])
  | .lineAccept r line name topic priority =>
    some (r, 0x41, packFields [(1, line), (1, name.length)] ++ name ++ packFields [(2, topic), (1, priority)])
  | .lineReject r line => some (r, 0x42, packFields [(1, line)])
  | .lineRelease r line => some (r, 0x43, packFields [(1, line)])
  | .lineTake r line => some (r, 0x44, packFields [(1, line)])
  | .lineDrop r line => some (r, 0x45, packFields [(1, line)])
  | .lineService r line value => some (r, 0x46, packFields [(1, line), (1, value)])
  | .queueMove r line position => some (r, 0x47, packFields [(1, line), (1, position)])
  | .linePin r line => some (r, 0x48, packFields [(1, line)])
  | .lineNotes r line name topic =>
    some (r, 0x49, packFields [(1, line), (1, name.length)] ++ name ++ packFields [(2, topic)])
  | .callerRead r line => some (r, 0x4A, packFields [(1, line)])
  | .queueRead r => some (r, 0x4B, [])
  | .classRead r cls => some (r, 0x50, packFields [(1, cls)])
  | .classWrite r cls action deadline required =>
    some (r, 0x51, packFields [(1, cls), (1, action), (2, deadline), (1, required)])
  | .classProbe r cls action deadline required =>
    some (r, 0x52, packFields [(1, cls), (1, action), (2, deadline), (1, required)])
  | .complianceLock r => some (r, 0x53, [])
  | .alertCarry r origin number => some (r, 0x54, packFields [(1, origin), (2, number)])
  | .alertDismiss r origin number => some (r, 0x55, packFields [(1, origin), (2, number)])
  | .alertRead r origin number => some (r, 0x56, packFields [(1, origin), (2, number)])
  | .alertList r => some (r, 0x57, [])
  | .carriageRead r => some (r, 0x58, [])
  | .siteSet r param value => some (r, 0x60, packFields [(1, param), (2, value)])
  | .siteRead r => some (r, 0x61, [])
  | .configWriteTolerance r value => some (r, 0x70, packFields [(1, 1), (2, unsigned16 value)])
  | .configWriteCueGrace r value => some (r, 0x70, packFields [(1, 2), (2, unsigned16 value)])
  | .configWriteFillPlayer r value => some (r, 0x70, packFields [(1, 3), (2, unsigned16 value)])
  | .configWriteThreshold r value => some (r, 0x70, packFields [(1, 4), (2, unsigned16 value)])
  | .configWriteDeadAirLimit r value => some (r, 0x70, packFields [(1, 5), (2, unsigned16 value)])
  | .configWriteDuckDepth r value => some (r, 0x70, packFields [(1, 6), (2, unsigned16 value)])
  | .configWriteHoldLimit r value => some (r, 0x70, packFields [(1, 7), (2, unsigned16 value)])
  | .configWriteFoldBackLimit r value => some (r, 0x70, packFields [(1, 8), (2, unsigned16 value)])
  | .configWriteCalibration r item value => some (r, 0x70, packFields [(1, item), (2, unsigned16 value)])
  | .configRead r => some (r, 0x71, [])
  | .clockSet r time => some (r, 0x72, packFields [(6, time)])
  | .clockRead r => some (r, 0x73, [])
  | .ident r => some (r, 0x74, [])
  | .controllerReset r => some (r, 0x75, [])
  | .eventsRead r => some (r, 0x76, [])
  | .eventsClear r pairs => some (r, 0x77, be 1 pairs.length ++ packPairs pairs)
  | .eventsMask r mask => some (r, 0x78, mask.toList)
  | _ => none

/-- The CONFIG_WRITE of an item code: each item is a command of its own (R190); an item code that names none of the
items goes with the calibration items, whose meaning refuses it. -/
def configWrite (r : Role) (item : Nat) (value : Int) : Instr :=
  match item with
  | 1 => .configWriteTolerance r value
  | 2 => .configWriteCueGrace r value
  | 3 => .configWriteFillPlayer r value
  | 4 => .configWriteThreshold r value
  | 5 => .configWriteDeadAirLimit r value
  | 6 => .configWriteDuckDepth r value
  | 7 => .configWriteHoldLimit r value
  | 8 => .configWriteFoldBackLimit r value
  | _ => .configWriteCalibration r item value

/-- The name, and the bytes after it, of fields that carry a line, a name count and a name: the length must agree with
the count (R200). -/
def unpackName : List Byte → Option (Nat × List Byte × List Byte)
  | line :: count :: rest =>
    if count.toNat ≤ rest.length then some (line.toNat, rest.take count.toNat, rest.drop count.toNat) else none
  | _ => none

/-- A request without fields. -/
def unpackNone (i : Instr) (bytes : List Byte) : Option Instr := if bytes.isEmpty then some i else none

/-- A request of one one-byte field. -/
def unpack1 (f : Nat → Instr) (bytes : List Byte) : Option Instr :=
  match unpack [1] bytes with
  | some [a] => some (f a)
  | _ => none

/-- A request of one two-byte field. -/
def unpack2 (f : Nat → Instr) (bytes : List Byte) : Option Instr :=
  match unpack [2] bytes with
  | some [a] => some (f a)
  | _ => none

/-- A request of two fields of the widths `j` and `k`. -/
def unpackTwo (j k : Nat) (f : Nat → Nat → Instr) (bytes : List Byte) : Option Instr :=
  match unpack [j, k] bytes with
  | some [a, b] => some (f a b)
  | _ => none

/-- A request of two fields and an entry body: the handle or anchor, then the body. -/
def unpackEntry (f : Nat → RawEntry → Instr) (bytes : List Byte) : Option Instr :=
  match unpack (2 :: entryWidths) bytes with
  | some (a :: rest) => (RawEntry.ofFields rest).map (f a)
  | _ => none

/-- The request of a code with its field bytes (R201); none for a code that names no request or for a length that does
not match the request's (R188, stage 3). -/
def decodeFields (r : Role) (code : Nat) (bytes : List Byte) : Option Instr :=
  match code with
  | 0x10 => unpackEntry (.roInsert r) bytes
  | 0x11 => unpackEntry (.roChange r) bytes
  | 0x12 =>
    match unpack [2, 1, 2] bytes with
    | some [handle, list, anchor] => some (.roMove r handle list anchor)
    | _ => none
  | 0x13 => unpack2 (.roDelete r) bytes
  | 0x14 => unpack1 (.breakClear r) bytes
  | 0x15 => unpack2 (.roRead r) bytes
  | 0x16 => unpackTwo 1 2 (.roList r) bytes
  | 0x20 => unpack1 (.airMode r) bytes
  | 0x21 => unpackNone (.airGo r) bytes
  | 0x22 => unpackNone (.airEndSegment r) bytes
  | 0x23 => unpackNone (.airHold r) bytes
  | 0x24 => unpackNone (.airResume r) bytes
  | 0x25 => unpackNone (.airStep r) bytes
  | 0x26 => unpack1 (.airHoldAtPoint r) bytes
  | 0x27 => unpackNone (.airStop r) bytes
  | 0x28 => unpackNone (.airStart r) bytes
  | 0x29 => unpack2 (.airCueTo r) bytes
  | 0x2A => unpackNone (.airStatus r) bytes
  | 0x2B =>
    match unpack [1, 4, 4] bytes with
    | some [player, cart, length] => some (.playerCue r player cart length)
    | _ => none
  | 0x2C => unpack1 (.playerClear r) bytes
  | 0x2D => unpack1 (.playerRead r) bytes
  | 0x30 => unpack1 (.lookaheadRead r) bytes
  | 0x31 => unpackNone (.timingRead r) bytes
  | 0x38 => unpackTwo 1 2 (fun source v => .busFader r source (signed16 v)) bytes
  | 0x39 => unpackTwo 1 2 (fun source v => .busTrim r source (signed16 v)) bytes
  | 0x3A => unpackTwo 1 1 (.micSwitch r) bytes
  | 0x3B => unpackNone (.busRead r) bytes
  | 0x40 => unpack1 (.lineAnswer r) bytes
  | 0x41 =>
    match unpackName bytes with
    | some (line, name, rest) => unpackTwo 2 1 (.lineAccept r line name) rest
    | none => none
  | 0x42 => unpack1 (.lineReject r) bytes
  | 0x43 => unpack1 (.lineRelease r) bytes
  | 0x44 => unpack1 (.lineTake r) bytes
  | 0x45 => unpack1 (.lineDrop r) bytes
  | 0x46 => unpackTwo 1 1 (.lineService r) bytes
  | 0x47 => unpackTwo 1 1 (.queueMove r) bytes
  | 0x48 => unpack1 (.linePin r) bytes
  | 0x49 =>
    match unpackName bytes with
    | some (line, name, rest) => unpack2 (.lineNotes r line name) rest
    | none => none
  | 0x4A => unpack1 (.callerRead r) bytes
  | 0x4B => unpackNone (.queueRead r) bytes
  | 0x50 => unpack1 (.classRead r) bytes
  | 0x51 =>
    match unpack [1, 1, 2, 1] bytes with
    | some [cls, action, deadline, required] => some (.classWrite r cls action deadline required)
    | _ => none
  | 0x52 =>
    match unpack [1, 1, 2, 1] bytes with
    | some [cls, action, deadline, required] => some (.classProbe r cls action deadline required)
    | _ => none
  | 0x53 => unpackNone (.complianceLock r) bytes
  | 0x54 => unpackTwo 1 2 (.alertCarry r) bytes
  | 0x55 => unpackTwo 1 2 (.alertDismiss r) bytes
  | 0x56 => unpackTwo 1 2 (.alertRead r) bytes
  | 0x57 => unpackNone (.alertList r) bytes
  | 0x58 => unpackNone (.carriageRead r) bytes
  | 0x60 => unpackTwo 1 2 (.siteSet r) bytes
  | 0x61 => unpackNone (.siteRead r) bytes
  | 0x70 => unpackTwo 1 2 (fun item v => configWrite r item (signed16 v)) bytes
  | 0x71 => unpackNone (.configRead r) bytes
  | 0x72 =>
    match unpack [6] bytes with
    | some [time] => some (.clockSet r time)
    | _ => none
  | 0x73 => unpackNone (.clockRead r) bytes
  | 0x74 => unpackNone (.ident r) bytes
  | 0x75 => unpackNone (.controllerReset r) bytes
  | 0x76 => unpackNone (.eventsRead r) bytes
  | 0x77 =>
    match bytes with
    | count :: rest =>
      match unpackPairs rest with
      | some pairs => if pairs.length = count.toNat then some (.eventsClear r pairs) else none
      | none => none
    | [] => none
  | 0x78 => if h : bytes.length = 24 then some (.eventsMask r ⟨bytes.toArray, by simpa using h⟩) else none
  | _ => none

/-- The request frame of a request: the length, the role, the code, the fields and the check (R200); none for a command
that is no request. -/
def encodeRequest (i : Instr) : Option (List Byte) :=
  i.request?.map fun (r, code, fields) =>
    let covered := be 2 (fields.length + 4) ++ be 1 r.code ++ be 1 code ++ fields
    covered ++ be 2 (crc covered)

/-- What the bytes of a WRITE hold, by stages 1 to 3 of R188. -/
def decodeRequest (bytes : List Byte) : WriteContent :=
  let n := beNat (bytes.take 2)
  if bytes.length < 2 ∨ bytes.length ≠ n + 2 ∨ n < 4 ∨ 62 < n then .badRequest
  else if beNat (bytes.drop n) ≠ crc (bytes.take n) then .badCheck
  else
    match roleOf (beNat ((bytes.drop 2).take 1)) with
    | none => .badRequest
    | some r =>
      match decodeFields r (beNat ((bytes.drop 3).take 1)) ((bytes.take n).drop 4) with
      | none => .badRequest
      | some i => .request i

/-! ### Frames received on the alert port and the site link (R204, R205) -/

/-- The payload length of a decoder frame's kind; none for a kind that is not one of the four (R127). -/
def alertLength : Nat → Option Nat
  | 0x01 => some 22 | 0x02 => some 3 | 0x03 => some 0 | 0x04 => some 0
  | _ => none

/-- The command of a decoder frame's kind and payload. -/
def decodeAlert (kind : Nat) (payload : List Byte) : Option Instr :=
  match kind with
  | 0x01 =>
    match unpack [1, 2, 1, 1, 6, 6, 2, 1, 1, 1] payload with
    | some [origin, number, revision, cls, validFrom, expires, declared, required, interval, test] =>
      some (.issue { origin, number, revision, cls, validFrom, expires, declared, required, interval, test })
    | _ => none
  | 0x02 => unpackTwo 1 2 .cancel payload
  | 0x03 => unpackNone .audioEnd payload
  | 0x04 => unpackNone .audioFail payload
  | _ => none

/-- The payload length of a site frame's kind; none for a kind that is not one of the four (R168). -/
def siteLength : Nat → Option Nat
  | 0x21 => some 3 | 0x22 => some 1 | 0x23 => some 3 | 0x24 => some 4
  | _ => none

/-- The command of a site frame's kind, sequence and payload. -/
def decodeSite (kind sequence : Nat) (payload : List Byte) : Option Instr :=
  match kind with
  | 0x21 => unpackTwo 1 2 (.ack sequence) payload
  | 0x22 => unpack1 (.nak sequence) payload
  | 0x23 => unpackTwo 1 2 (.reading sequence) payload
  | 0x24 =>
    match unpack [1, 1, 1, 1] payload with
    | some [active, carrier, audio, fallback] => some (.siteState active carrier audio fallback)
    | _ => none
  | _ => none

/-! ### The table's words -/

/-- The command that a table word spells: the table gives no row any bits, so none. -/
def decodeTableWord (_nbits _w : Nat) : Option Instr := none

end Sys2Proof
end

