-- ==== Sys2Proof/Machine/State.lean ====
section
/-! DEFINITION. The state of the Korlan 6420, block by block as the block overview (00_scope, section 2) lists what each
block owns, the faults and refusals, and the state after power-on reset. A value that a rule makes a function of other
state (the HOOK and START outputs, READY, ATTN, the conditions, the gain targets, the way of an alert) is computed and
not stored: Sys2Proof/Machine/Flags.lean and Bus.lean hold those functions. -/

namespace Sys2Proof.Machine

/-! ### The running-order store (chapter 1) -/

/-- A list of the store: 0 is MAIN, b is break list b (R1, R202). -/
abbrev ListId := Fin 17

/-- The audio kinds (section 1.2). -/
inductive AudioKind where
  | music | spot | ident | bed | spoken
deriving DecidableEq, Repr

/-- The timing class, STRETCH with its bounds (R5). -/
inductive Timing where
  | fixed
  | stretch (min max : Nat)
  | drop
deriving DecidableEq, Repr

/-- The post kinds. -/
inductive PostKind where
  | exact | nearest
deriving DecidableEq, Repr

/-- A post: a time of day and a kind. -/
structure Post where
  timeOfDay : Nat
  kind : PostKind
deriving DecidableEq, Repr

/-- The fields every item kind carries (section 1.2). -/
structure ItemFields where
  planned : Nat
  timing : Timing
  post : Option Post
  waitForGo : Bool
  breakAfter : Bool
  oneShot : Bool
deriving DecidableEq, Repr

/-- What becomes of the callers on air when a phone segment ends (R122). -/
inductive EndAction where
  | hold | release
deriving DecidableEq, Repr

/-- The phone part of a PHONE entry. -/
structure PhonePart where
  callers : Nat
  endAction : EndAction
  endOnLast : Bool
deriving DecidableEq, Repr

/-- The kind of an entry with the fields that the kind carries (R5): a field a kind does not carry is absent by form. -/
inductive Body where
  | audio (kind : AudioKind) (cart segue : Nat) (item : ItemFields)
  | live (timed : Bool) (item : ItemFields)
  | phone (timed : Bool) (part : PhonePart) (item : ItemFields)
  | join (timed cueStart : Bool) (item : ItemFields)
  | spanStart (count : Nat)
  | spanEnd
  | call (list : ListId)
  | holdPoint
  | endMark
deriving DecidableEq, Repr

/-- An entry of the store: its list and its body. Its handle is its slot's (R2). -/
structure Entry where
  list : ListId
  body : Body
deriving DecidableEq, Repr

/-- One slot: its generation 1..127 and the entry it holds (R1). -/
structure Slot where
  gen : Nat
  entry : Option Entry
deriving DecidableEq, Repr

/-- The store. `slots` lists, by rising slot number, the slots that are not as power-on reset leaves them (free at
generation 1); `orders` holds each list's handles in list order (R1). -/
structure Store where
  slots : List (Nat × Slot)
  orders : Vector (List Nat) 17
deriving DecidableEq, Repr

/-! ### The interpreter and the lookahead (chapter 2) -/

/-- A position: a place in the running order (R22). -/
inductive Position where
  | start (list : ListId)
  | at (handle : Nat) (list : ListId)
  | after (handle : Nat) (list : ListId)
deriving DecidableEq, Repr

/-- A frame of the loop stack (R23). -/
structure Frame where
  handle : Nat
  list : ListId
  remaining : Nat
  pass : Bool
deriving DecidableEq, Repr

/-- The call frame while it is set (R23). -/
structure CallFrame where
  brk : ListId
  ret : Position
deriving DecidableEq, Repr

/-- A context: a position, a loop stack with its top first, and a call frame (R23). -/
structure Context where
  pos : Position
  stack : List Frame
  call : Option CallFrame
deriving DecidableEq, Repr

/-- The alert part of an alert entry (R24, R154). The declared length is in s. -/
structure AlertPart where
  origin : Nat
  number : Nat
  slot : Fin 8
  rank : Nat
  waitingSince : Nat
  declared : Nat
deriving DecidableEq, Repr

/-- The source of a resolved entry with its handle, list and copied values (R24). The end-of-list END marker has no
handle and no list. -/
inductive Source where
  | item (handle : Nat) (list : ListId) (body : Body)
  | hold (handle : Nat) (list : ListId)
  | endMark (origin : Option (Nat × ListId))
  | alert (part : AlertPart)
deriving DecidableEq, Repr

/-- A resolved entry (R24). -/
structure Resolved where
  source : Source
  iteration : List Nat
  fromBreak : Option ListId
  breakStart : Bool
  effective : Nat
  dropMark : Bool
  after : Context
deriving DecidableEq, Repr

/-- An entry of the placement set (R36). -/
structure Placement where
  part : AlertPart
  placed : Bool
deriving DecidableEq, Repr

/-- The interpreter's fault reasons (R29). -/
inductive WalkFault where
  | spanUnmatched | spanDepth | callInBreak | breakEmpty | spanNoItem | staleHandle
deriving DecidableEq, Repr

/-- The interpreter and the lookahead. `drawn` tells of each list whether it is in the drawn set (R33). -/
structure Interp where
  look : List Resolved
  play : Context
  held : Bool
  drawn : Vector Bool 17
  placement : List Placement
  lastFault : Option (Nat × WalkFault)
  seqNo : Nat
deriving DecidableEq, Repr

/-! ### The air sequencer and the player table (chapter 3) -/

/-- The sequencer's states (R41). -/
inductive AirState where
  | stopped | running | waitGo | held | postWait | preempted
deriving DecidableEq, Repr

/-- The mode (R43). -/
inductive AirMode where
  | auto | assist
deriving DecidableEq, Repr

/-- The outcomes of an ending (R18). -/
inductive Ending where
  | complete | cut | missed | dropped
deriving DecidableEq, Repr

/-- The phase of the on-air record: CUEING with its grace deadline, or PLAYING with the monotonic and station times of
its start (R42). -/
inductive Phase where
  | cueing (deadline : Nat)
  | playing (mono station : Nat)
deriving DecidableEq, Repr

/-- The on-air record (R42), with the end timer's expiry (R48, R50) and the segue point still to come (R52). -/
structure OnAir where
  source : Source
  iteration : List Nat
  phase : Phase
  player : Option (Fin 4)
  frozen : Nat
  segue : Nat
  endTimer : Option Nat
  seguePoint : Option Nat
deriving DecidableEq, Repr

/-- The outgoing record (R42). -/
structure Outgoing where
  handle : Nat
  kind : AudioKind
  player : Fin 4
  frozen : Nat
  endsAt : Nat
deriving DecidableEq, Repr

/-- The preemption record's policy (R157). -/
inductive Policy where
  | resume | next
deriving DecidableEq, Repr

/-- The preemption record (R157). The interrupted entry is kept as its whole on-air record. -/
structure Preemption where
  interrupted : Option OnAir
  elapsed : Nat
  policy : Policy
  before : AirState
  outgoingCut : Bool
deriving DecidableEq, Repr

/-- What an armed or deferred post watch holds (R62). -/
structure Watch where
  handle : Nat
  iteration : List Nat
  instant : Nat
  cut : Nat
deriving DecidableEq, Repr

/-- The post watch (R62). -/
inductive PostWatch where
  | disarmed
  | armed (w : Watch)
  | deferred (w : Watch)
deriving DecidableEq, Repr

/-- A cued cart and its stated length (R44). -/
structure Cue where
  cart : Nat
  length : Nat
deriving DecidableEq, Repr

/-- A player record (R44). ON_AIR says whether the player is on air as fill (R97) or for an entry. -/
inductive Player where
  | empty
  | cued (cue : Cue)
  | onAir (cue : Cue) (forFill : Bool)
  | ended (cue : Cue)
deriving DecidableEq, Repr

/-- The air sequencer and the player table. `fillPending` is a designation held pending (R45). -/
structure Air where
  state : AirState
  mode : AirMode
  onAir : Option OnAir
  outgoing : Option Outgoing
  preemption : Option Preemption
  holdDemand : Bool
  holdAtPoint : Bool
  goLatch : Bool
  goLevel : Bool
  netALevel : Bool
  netBLevel : Bool
  watch : PostWatch
  lastEnding : Option (Nat × Ending)
  players : Vector Player 4
  fillPlayer : Option (Fin 4)
  fillPending : Option (Fin 4)
  cueGrace : Nat
deriving DecidableEq, Repr

/-! ### The back-timer (chapter 4) -/

/-- The stretch direction (R78). -/
inductive Direction where
  | none | shrink | extend
deriving DecidableEq, Repr

/-- The fields of a COMPUTED timing record (R68). -/
structure Computed where
  handle : Nat
  iteration : List Nat
  index : Nat
  postKind : PostKind
  timeOfDay : Nat
  instant : Nat
  remainder : Nat
  projection : Nat
  float : Int
  direction : Direction
  amount : Nat
  residual : Int
deriving DecidableEq, Repr

/-- The state of the timing record (R68). -/
inductive TimingState where
  | noPost
  | postBeyond
  | computed (c : Computed)
deriving DecidableEq, Repr

/-- The timing record (R68). -/
structure TimingRecord where
  state : TimingState
  seqNo : Nat
  t0 : Nat
  tolerance : Nat
  dropCount : Nat
  stretchCount : Nat
deriving DecidableEq, Repr

/-- The back-timer. `dropSet` holds the kept drop set's members by handle and iteration (R81); `periodicAt` is the
expiry of the one-second timer (R70). -/
structure Timer where
  record : TimingRecord
  dropSet : List (Nat × List Nat)
  tolerance : Nat
  periodicAt : Nat
deriving DecidableEq, Repr

/-! ### The programme bus (chapter 5) -/

/-- A gain law (R92). FADE holds the gain it started from, the segue point and the fade length; CUT holds the gain it
started from, the moment of the cut and whether the fill was cut. -/
inductive GainLaw where
  | follow
  | fade (gain : Int) (start length : Nat)
  | cut (gain : Int) (start : Nat) (fill : Bool)
deriving DecidableEq, Repr

/-- A source record (R87). The gain target is a function of the state (R90). -/
structure SourceRec where
  fader : Option Int
  micOn : Option Bool
  trim : Int
  current : Int
  law : GainLaw
deriving DecidableEq, Repr

/-- The dead-air monitor's states (R99). -/
inductive MonitorState where
  | sound | quiet | dead | escalated
deriving DecidableEq, Repr

/-- The dead-air monitor (R98, R99): its state and counts, the peak so far in the open window, the last window's peak,
the end of the open window, and the threshold in force in it. -/
structure Monitor where
  state : MonitorState
  silence : Nat
  escalation : Nat
  recovery : Nat
  peak : Nat
  lastPeak : Nat
  windowEnds : Nat
  windowThreshold : Int
deriving DecidableEq, Repr

/-- The programme bus. Sources are numbered from 0 here, from 1 on the port. `gainAt` is the ms of the next gain update
(R92); `programme` and `sends` are the samples last put out (R95, R96). -/
structure Bus where
  sources : Vector SourceRec 14
  duckDepth : Nat
  fillDeadAir : Bool
  fillPostWait : Bool
  monitor : Monitor
  threshold : Int
  deadAirLimit : Nat
  escalationFlag : Bool
  gainAt : Nat
  programme : Sample
  sends : Vector Sample 6
deriving DecidableEq, Repr

/-! ### Caller lines (chapter 6) -/

/-- The caller record's states (R106). -/
inductive LineState where
  | idle | ringing | screening | ready | onAir | hold | clearing | outOfService
deriving DecidableEq, Repr

/-- How a call ended (R106). -/
inductive LastEnd where
  | missed | rejected | released | hungUp | segmentEnd
deriving DecidableEq, Repr

/-- A caller record (R106) with its timers' expiries (R105, R108, R111, R119) and the held levels of its line. The
accumulated air time is `airTime`, and the time since `airSince` while it runs. -/
structure Caller where
  state : LineState
  name : Option (List Byte)
  topic : Option Nat
  priority : Nat
  ringStart : Option Nat
  queuedAt : Option Nat
  airTime : Nat
  airSince : Option Nat
  holdTimer : Option Nat
  overdue : Bool
  pinned : Bool
  restore : Bool
  lastEnd : Option LastEnd
  ringTimer : Option Nat
  clearingTimer : Option Nat
  loopTimer : Option Nat
  ring : Bool
  loop : Bool
deriving DecidableEq, Repr

/-- The phone segment record while active (R120). -/
structure Segment where
  handle : Nat
  part : PhonePart
  seen : Bool
  suspended : Bool
deriving DecidableEq, Repr

/-- The caller-line unit. The hold limit is in minutes (R119). -/
structure Lines where
  callers : Vector Caller 6
  queue : List (Fin 6)
  segment : Option Segment
  alertHold : Bool
  holdLimit : Nat
deriving DecidableEq, Repr

/-! ### The alert receiver (chapter 7) -/

/-- The class actions, strongest first (R131, R138). -/
inductive ClassAction where
  | mandatoryNow | mandatoryBreak | voluntaryBreak | holdForOperator | ignore
deriving DecidableEq, Repr

/-- An entry of the class action table (R138). -/
structure ClassEntry where
  action : ClassAction
  deadline : Nat
  required : Bool
  ceiling : Option Nat
deriving DecidableEq, Repr

/-- The alert record's states (R129). -/
inductive AlertState where
  | pending | waiting | onAir | carried | failed
deriving DecidableEq, Repr

/-- An alert record (R129). -/
structure Alert where
  frame : IssueFrame
  state : AlertState
  carried : Nat
  failed : Nat
  rank : Nat
  operatorCarry : Bool
  storedAt : Nat
  waitingSince : Option Nat
  nextEligible : Option Nat
  revisionOnAir : Option Nat
deriving DecidableEq, Repr

/-- The retirement reasons (R129). -/
inductive Retirement where
  | cancelled | expired | evicted | dismissed
deriving DecidableEq, Repr

/-- The last retirement note (R129). -/
structure RetirementNote where
  origin : Nat
  number : Nat
  revision : Nat
  reason : Retirement
deriving DecidableEq, Repr

/-- The receipt results, in the order of the receipt table (R128). -/
inductive ReceiptResult where
  | accepted | ignored | expired | full | duplicate | staleRevision | malformed | cancelled | unknown
deriving DecidableEq, Repr

/-- A frame the part sends to the decoder (R204). A PLAY carries the number of the carriage that sent it, which is the
model's own and is not on the wire. -/
inductive AlertFrame where
  | receipt (origin number revision : Nat) (result : ReceiptResult)
  | play (origin number : Nat) (carriage : Nat)
  | stop
deriving DecidableEq, Repr

/-- A frame being received: its bytes so far, from the start byte on, and the monotonic time of the last one. -/
structure OpenFrame where
  bytes : List Byte
  lastAt : Nat
deriving DecidableEq, Repr

/-- The alert receiver. `classes` lists, by rising class number, the entries that are not at their power-on value;
`outgoing` is the outgoing queue, its head the frame being sent (R128); `lastSent` is what the alert port last sent in
full, byte by byte (R204). -/
structure Receiver where
  table : Vector (Option Alert) 8
  classes : List (Nat × ClassEntry)
  lock : Bool
  discards : Nat
  lastRetirement : Option RetirementNote
  outgoing : List AlertFrame
  lastSent : List Byte
  opened : Option OpenFrame
deriving DecidableEq, Repr

/-! ### The alert scheduler (chapter 8) -/

/-- The eligibilities (R151). -/
inductive Eligibility where
  | none | deferred | linkWait | eligible
deriving DecidableEq, Repr

/-- The ways of carriage (R151). -/
inductive Way where
  | operator | break | immediate
deriving DecidableEq, Repr

/-- A schedule entry (R151). Its way follows from the record's rank and `passed`. -/
structure SchedEntry where
  eligibility : Eligibility
  placed : Bool
  base : Option Nat
  passed : Bool
deriving DecidableEq, Repr

/-- The carriage record while ACTIVE (R151). `serial` numbers the carriages and `passed` keeps the deadline passed flag
with which the carriage began; both are the model's own (log entries 22 and 59). -/
structure Carriage where
  slot : Fin 8
  origin : Nat
  number : Nat
  way : Way
  startMono : Nat
  startStation : Nat
  revision : Nat
  linkLost : Bool
  playSent : Bool
  guardAt : Nat
  serial : Nat
  passed : Bool
deriving DecidableEq, Repr

/-- The end reasons of a carriage (R159). -/
inductive EndReason where
  | ended | fail | guard | retired
deriving DecidableEq, Repr

/-- The last carriage note (R151). -/
structure CarriageNote where
  origin : Nat
  number : Nat
  revision : Nat
  way : Way
  startStation : Nat
  duration : Nat
  reason : EndReason
  counted : Bool
deriving DecidableEq, Repr

/-- The alert scheduler. -/
structure Sched where
  entries : Vector SchedEntry 8
  carriage : Option Carriage
  lastNote : Option CarriageNote
  serial : Nat
deriving DecidableEq, Repr

/-! ### The site-link unit (chapter 9) -/

/-- The parameter record's states (R170). -/
inductive ParamState where
  | notSet | settled | dirty | sent | unconfirmed | refused
deriving DecidableEq, Repr

/-- The last refusal reasons (R170). -/
inductive SiteRefusal where
  | range | interlock | busy | changeover | noApply
deriving DecidableEq, Repr

/-- A parameter record (R170). Values are held as their codes (R205), POWER in W; an absent desired value is NOT_SET, an
absent confirmed value UNKNOWN. `retryAt` is the running retry timer's expiry. -/
structure ParamRec where
  desired : Option Nat
  confirmed : Option Nat
  state : ParamState
  refusal : Option SiteRefusal
  retryAt : Option Nat
deriving DecidableEq, Repr

/-- The target of an entry in flight (R173): a parameter with the value sent, for POWER with its code and offset, or a
channel. -/
inductive Target where
  | set (param : Param) (value : Nat) (power : Option (Nat × Int))
  | poll (channel : Fin 8)
deriving DecidableEq, Repr

/-- An entry of the in-flight table (R173). The send time is absent until the frame's last byte has left. -/
structure InFlight where
  sequence : Nat
  target : Target
  sentAt : Option Nat
  tries : Nat
deriving DecidableEq, Repr

/-- A frame the part sends to the site (R205). The value of a SET is as on the wire. -/
inductive SiteFrame where
  | set (sequence : Nat) (param : Param) (value : Nat)
  | poll (sequence : Nat) (channel : Fin 8)
  | keep (sequence : Nat) (alertOnAir programmePresent : Bool)
deriving DecidableEq, Repr

/-- The link states (R178). -/
inductive LinkState where
  | up | degraded | lost
deriving DecidableEq, Repr

/-- The site state record (R177, R206): an absent active transmitter or audio source is unknown. -/
structure SiteReport where
  active : Option Nat
  carrierUp : Bool
  audio : Option Nat
  fallback : Bool
  takenAt : Nat
deriving DecidableEq, Repr

/-- The changeover record in progress (R180); `seen` says that a STATE frame has been taken since its start. -/
structure Changeover where
  target : Nat
  startedAt : Nat
  seen : Bool
deriving DecidableEq, Repr

/-- The reading record's states (R182). -/
inductive ReadingState where
  | none | valid | stale
deriving DecidableEq, Repr

/-- A reading record (R182). -/
structure Reading where
  state : ReadingState
  value : Option Int
  takenAt : Option Nat
deriving DecidableEq, Repr

/-- The site-link unit. `outgoing` is the outgoing queue, its head the frame being sent; `silenceFrom` is where the
silence timer runs from, absent while it is stopped; `lastChannel` is the channel last made due; `lastSent` is what the site port
last sent in full, byte by byte (R205). -/
structure Site where
  params : Vector ParamRec 6
  powerCode : Option Nat
  inFlight : List InFlight
  outgoing : List SiteFrame
  lastSent : List Byte
  sequence : Nat
  link : LinkState
  silenceFrom : Option Nat
  lastValidAt : Option Nat
  report : Option SiteReport
  reportSinceReset : Bool
  changeover : Option Changeover
  lastChangeover : Option Nat
  readings : Vector Reading 8
  lastChannel : Option (Fin 8)
  duePoll : Option (Fin 8)
  pollAt : Nat
  keepAt : Nat
  foldLimit : Nat
  foldActive : Bool
  strikes : Nat
  calMain : Int
  calReserve : Int
  discards : Nat
  opened : Option OpenFrame
deriving DecidableEq, Repr

/-! ### The command port and the event summary (chapter 10) -/

/-- The status codes, in the order of the status table (R188). -/
inductive Status where
  | ok | badRequest | badCheck | badField | role | stale | full | onAir | wrongState | empty | ended | locked
deriving DecidableEq, Repr

/-- The response that waits to be read (R187): the request code it answers, its status and its field bytes. -/
structure Response where
  code : Byte
  status : Status
  fields : List Byte
deriving DecidableEq, Repr

/-- What the part has clocked out in the last transaction (R187, R200): nothing since the power-on reset, filler, FFh, for
as long as a WRITE was clocked, or the bytes of a READ. -/
inductive DataOut where
  | none
  | filler
  | bytes (out : List Byte)
deriving DecidableEq, Repr

/-- The command port: the response ready and unread, and what was clocked out in the last transaction (R187). -/
structure Port where
  response : Option Response
  dataOut : DataOut
deriving DecidableEq, Repr

/-- The 19 occurrences (R195), in the order of the event table. -/
inductive Occurrence where
  | alertFailed | alertStarted | alertEnded | alertReceived | changeoverFailed | foldback | setUnconfirmed
  | siteRefused | postCut | entryMissed | lookaheadFault | timingChanged | entryStarted | entryEnded | callerOverdue
  | callerCleared | phoneEmpty | callerRinging | portOverrun
deriving DecidableEq, Repr

/-- The 5 conditions (R195). -/
inductive Condition where
  | mandatoryWaiting | linkLost | linkDegraded | deadAir | clockUnset
deriving DecidableEq, Repr

/-- An event: a condition or an occurrence (5.7). -/
inductive Event where
  | condition (c : Condition)
  | occurrence (o : Occurrence)
deriving DecidableEq, Repr

/-- A block's answer to a request: the status and the field bytes (R188). -/
structure Reply where
  status : Status
  fields : List Byte
deriving DecidableEq, Repr

/-- The details of an occurrence's latest raising, as the rule that raises it names them (R194). -/
inductive Detail where
  | alertFailed (origin number : Nat)
  | alertStarted (origin number revision : Nat) (way : Way) (linkLost : Bool)
  | alertEnded (origin number : Nat) (reason : EndReason) (counted : Bool)
  | alertReceived (origin number rank : Nat)
  | changeoverFailed (target : Nat)
  | foldback (power : Option Nat)
  | setUnconfirmed (param : Param)
  | siteRefused (param : Param) (reason : SiteRefusal)
  | lookaheadFault (handle : Nat) (reason : WalkFault)
  | timingChanged (drops : Nat) (residual : Option Int)
  | entryEnded (handle : Nat) (ending : Ending)
  | callerOverdue (line : Fin 6) (state : LineState)
  | callerCleared (line : Fin 6) (state : LineState)
  | phoneEmpty (handle : Nat)
  | callerRinging (line : Fin 6)
  | portOverrun (code : Option Byte)
deriving DecidableEq, Repr

/-- An occurrence's record (R194): it is pending exactly while its count is above 0. -/
structure OccRecord where
  count : Nat
  detail : Option Detail
deriving DecidableEq, Repr

/-- The event summary: the occurrences' records and, by event number less 1, which events are masked (R194). The
conditions are functions of their owners' state (Sys2Proof/Machine/Flags.lean). -/
structure Events where
  records : Vector OccRecord 19
  mask : Vector Bool 24
deriving DecidableEq, Repr

/-- Monotonic time, station time and the condition CLOCK_UNSET (5.2, R191). -/
structure Clock where
  mono : Nat
  station : Nat
  unset : Bool
deriving DecidableEq, Repr

/-! ### The whole part -/

/-- The state of the part. `freeUsed` counts the free values used so far and `pending` is the queue of waiting
commands, first in, first out: both are the model's own. -/
structure State where
  clock : Clock
  store : Store
  interp : Interp
  air : Air
  timer : Timer
  bus : Bus
  lines : Lines
  receiver : Receiver
  sched : Sched
  site : Site
  port : Port
  events : Events
  freeUsed : Nat
  pending : List Instr
deriving DecidableEq, Repr

/-- Why the machine stops. -/
inductive Fault where
  /-- Raised where the procedure of R47 never comes to rest: it releases entry after entry (each MISSED at once, out of
  an endless span) and the manual gives no state in which it ends. Safe: nothing is claimed of what follows. -/
  | endlessTake
deriving DecidableEq, Repr

/-- Why a command has no meaning. -/
inductive Refusal where
  /-- Raised by an arm of exec whose command has no meaning yet. Safe. No arm raises it. -/
  | notModelled (mnemonic : String)
deriving DecidableEq, Repr

/-! ### After power-on reset -/

/-- The context at the start of MAIN with nothing on its stacks (R39). -/
def Context.atStart : Context := { pos := .start 0, stack := [], call := none }

/-- The END marker that the rebuild after a power-on reset appends (R39, R27). -/
def Resolved.endOfMain : Resolved :=
  { source := .endMark none, iteration := [], fromBreak := none, breakStart := false, effective := 0,
    dropMark := false, after := { pos := .at 0 0, stack := [], call := none } }

/-- A source record after power-on reset (R103): a fader for sources 5..12, an on flag for sources 5 and 6. -/
def SourceRec.reset (i : Nat) : SourceRec :=
  { fader := if 4 ≤ i ∧ i ≤ 11 then some (-160) else none
    micOn := if i = 4 ∨ i = 5 then some false else none
    trim := 0, current := -160, law := .follow }

/-- The source records after power-on reset. -/
def Bus.resetSources : Vector SourceRec 14 :=
  #v[SourceRec.reset 0, SourceRec.reset 1, SourceRec.reset 2, SourceRec.reset 3, SourceRec.reset 4,
     SourceRec.reset 5, SourceRec.reset 6, SourceRec.reset 7, SourceRec.reset 8, SourceRec.reset 9,
     SourceRec.reset 10, SourceRec.reset 11, SourceRec.reset 12, SourceRec.reset 13]

/-- A caller record after power-on reset, with the levels of its line (R125). -/
def Caller.reset (ring loop : Bool) : Caller :=
  { state := .idle, name := none, topic := none, priority := 0, ringStart := none, queuedAt := none, airTime := 0,
    airSince := none, holdTimer := none, overdue := false, pinned := false, restore := false, lastEnd := none,
    ringTimer := none, clearingTimer := none, loopTimer := none, ring := ring, loop := loop }

/-- The caller records after power-on reset. -/
def Lines.resetCallers (l : PinLevels) : Vector Caller 6 :=
  #v[Caller.reset l.ring[0] l.loop[0], Caller.reset l.ring[1] l.loop[1], Caller.reset l.ring[2] l.loop[2],
     Caller.reset l.ring[3] l.loop[3], Caller.reset l.ring[4] l.loop[4], Caller.reset l.ring[5] l.loop[5]]

/-- A schedule entry that says nothing (R151, R166). -/
def SchedEntry.clear : SchedEntry := { eligibility := .none, placed := false, base := none, passed := false }

/-- A parameter record after power-on reset (R185). -/
def ParamRec.reset : ParamRec :=
  { desired := none, confirmed := none, state := .notSet, refusal := none, retryAt := none }

/-- A reading record after power-on reset (R185). -/
def Reading.reset : Reading := { state := .none, value := none, takenAt := none }

/-- The air sequencer and the players after power-on reset (R66). -/
def Air.reset (l : PinLevels) : Air :=
  { state := .stopped, mode := .auto, onAir := none, outgoing := none, preemption := none, holdDemand := false,
    holdAtPoint := false, goLatch := false, goLevel := l.go, netALevel := l.netA, netBLevel := l.netB,
    watch := .disarmed, lastEnding := none, players := Vector.replicate 4 .empty, fillPlayer := none,
    fillPending := none, cueGrace := 2000 }

/-- The programme bus after power-on reset (R103). -/
def Bus.reset : Bus :=
  { sources := Bus.resetSources, duckDepth := 24, fillDeadAir := false, fillPostWait := false
    monitor := { state := .sound, silence := 0, escalation := 0, recovery := 0, peak := 0, lastPeak := 0,
                 windowEnds := 10, windowThreshold := -50 }
    threshold := -50, deadAirLimit := 10, escalationFlag := false, gainAt := 1
    programme := 0, sends := Vector.replicate 6 0 }

/-- The alert receiver after power-on reset (R149). -/
def Receiver.reset : Receiver :=
  { table := Vector.replicate 8 none, classes := [], lock := false, discards := 0, lastRetirement := none,
    outgoing := [], lastSent := [], opened := none }

/-- The alert scheduler after power-on reset (R166). -/
def Sched.reset : Sched :=
  { entries := Vector.replicate 8 SchedEntry.clear, carriage := none, lastNote := none, serial := 0 }

/-- The site-link unit after power-on reset (R185). -/
def Site.reset : Site :=
  { params := Vector.replicate 6 ParamRec.reset, powerCode := none, inFlight := [], outgoing := [], lastSent := [],
    sequence := 0, link := .lost, silenceFrom := none, lastValidAt := none, report := none, reportSinceReset := false,
    changeover := none, lastChangeover := none, readings := Vector.replicate 8 Reading.reset, lastChannel := none,
    duePoll := none, pollAt := 500, keepAt := 1000, foldLimit := 10, foldActive := false, strikes := 0, calMain := 0,
    calReserve := 0, discards := 0, opened := none }

/-- The part as its records stand at power-on reset, before the rebuild that the reset's completion makes: the
lookahead is empty and its sequence number 0 (R20, R39, R66, R86, R103, R125, R149, R166, R185, R191, R197). -/
def State.powerOn (l : PinLevels) : State :=
  { clock := { mono := 0, station := 0, unset := true }
    store := { slots := [], orders := Vector.replicate 17 [] }
    interp := { look := [], play := Context.atStart, held := false
                drawn := (Vector.replicate 17 false).set 0 true, placement := [], lastFault := none, seqNo := 0 }
    air := Air.reset l
    timer := { record := { state := .noPost, seqNo := 0, t0 := 0, tolerance := 1000, dropCount := 0, stretchCount := 0 }
               dropSet := [], tolerance := 1000, periodicAt := 1000 }
    bus := Bus.reset
    lines := { callers := Lines.resetCallers l, queue := [], segment := none, alertHold := false, holdLimit := 20 }
    receiver := Receiver.reset
    sched := Sched.reset
    site := Site.reset
    port := { response := none, dataOut := .none }
    events := { records := Vector.replicate 19 { count := 0, detail := none }, mask := Vector.replicate 24 true }
    freeUsed := 0
    pending := [] }

/-- Every held input low. -/
def PinLevels.low : PinLevels :=
  { go := false, netA := false, netB := false, ring := Vector.replicate 6 false, loop := Vector.replicate 6 false }

/-- The part right after a power-on reset with every held input low: as State.powerOn gives it, and then the rebuild of
R39 has appended one END marker and advanced the sequence number, and the computation of R86 has written NO_POST again
with that number. -/
def State.reset : State :=
  let s := State.powerOn PinLevels.low
  { s with
    interp := { s.interp with look := [Resolved.endOfMain], seqNo := 1 }
    timer := { s.timer with record := { s.timer.record with seqNo := 1 } } }

end Sys2Proof.Machine
end

