-- ==== Sys2Proof/Machine/Ops.lean ====
section
/-! DEFINITION. The shared operations: sparse tables, counters that stop or clamp, raising an occurrence, answering on
the command port, and the frame every request's meaning stands in (R187 to R189, R194). -/

namespace Sys2Proof.Machine

/-- The outcome of a command. -/
abbrev Result := Host.Outcome State Fault Refusal

/-! ### Sparse tables: a list of (key, value) by rising key, in which no value is the default -/

/-- The value at a key; an unlisted key holds the default. -/
def tableGet {α : Type} (d : α) : List (Nat × α) → Nat → α
  | [], _ => d
  | (k, v) :: rest, key => if k = key then v else tableGet d rest key

/-- The table without a key. -/
def tableErase {α : Type} : List (Nat × α) → Nat → List (Nat × α)
  | [], _ => []
  | (k, v) :: rest, key => if k = key then tableErase rest key else (k, v) :: tableErase rest key

/-- The table with a value at a key that it does not list. -/
def tableInsert {α : Type} (key : Nat) (value : α) : List (Nat × α) → List (Nat × α)
  | [] => [(key, value)]
  | (k, v) :: rest => if key < k then (key, value) :: (k, v) :: rest else (k, v) :: tableInsert key value rest

/-- The table with a key set: storing the default removes the entry. -/
def tablePut {α : Type} [DecidableEq α] (d : α) (t : List (Nat × α)) (key : Nat) (value : α) : List (Nat × α) :=
  if value = d then tableErase t key else tableInsert key value (tableErase t key)

/-- The keys rise strictly. -/
def tableRising {α : Type} : List (Nat × α) → Bool
  | [] => true
  | [_] => true
  | (k, _) :: (k', v') :: rest => decide (k < k') && tableRising ((k', v') :: rest)

/-- The canonical form: the keys rise strictly and no value is the default. -/
def tableWf {α : Type} [DecidableEq α] (d : α) (t : List (Nat × α)) : Bool :=
  tableRising t && t.all (fun e => decide (e.2 ≠ d))

/-! ### Numbers -/

/-- A value clamped into a range (5.1). -/
def clampInt (lo hi v : Int) : Int := if v < lo then lo else if hi < v then hi else v

/-- A signed value clamped into a range of counts (5.1). -/
def clampNat (lo hi : Nat) (v : Int) : Nat := (clampInt lo hi v).toNat

/-- A counter that stops at its upper end. -/
def countUp (top n : Nat) : Nat := if n < top then n + 1 else top

/-- The time of day of a station time (5.2). -/
def timeOfDay (t : Nat) : Nat := t % Config.dayMs

/-! ### The collections' indices in order -/

def allPlayers : List (Fin 4) := [0, 1, 2, 3]
def allLines : List (Fin 6) := [0, 1, 2, 3, 4, 5]
def allSlots : List (Fin 8) := [0, 1, 2, 3, 4, 5, 6, 7]
def allSources : List (Fin 14) := [0, 1, 2, 3, 4, 5, 6, 7, 8, 9, 10, 11, 12, 13]
def allLists : List ListId := [0, 1, 2, 3, 4, 5, 6, 7, 8, 9, 10, 11, 12, 13, 14, 15, 16]
def allParams : List Param := [.carrier, .power, .txSelect, .siteAudio, .alertFlag, .modLimit]

/-- The index of a parameter in parameter order (R170). -/
def paramIndex : Param → Fin 6
  | .carrier => 0 | .power => 1 | .txSelect => 2 | .siteAudio => 3 | .alertFlag => 4 | .modLimit => 5

/-- A fold over steps that may not come to rest. -/
def foldSteps {α : Type} (f : α → State → Option State) : List α → State → Option State
  | [], s => some s
  | a :: rest, s => (f a s).bind (foldSteps f rest)

/-! ### Events (R194) -/

/-- The place of an occurrence's record. -/
def occurrenceIndex : Occurrence → Fin 19
  | .alertFailed => 0 | .alertStarted => 1 | .alertEnded => 2 | .alertReceived => 3 | .changeoverFailed => 4
  | .foldback => 5 | .setUnconfirmed => 6 | .siteRefused => 7 | .postCut => 8 | .entryMissed => 9
  | .lookaheadFault => 10 | .timingChanged => 11 | .entryStarted => 12 | .entryEnded => 13 | .callerOverdue => 14
  | .callerCleared => 15 | .phoneEmpty => 16 | .callerRinging => 17 | .portOverrun => 18

/-- An occurrence's record. -/
def State.occurrence (s : State) (o : Occurrence) : OccRecord := s.events.records[occurrenceIndex o]

/-- A raising: the occurrence is pending, its count rises by one up to 255 and its details are replaced (R194). -/
def State.raise (s : State) (o : Occurrence) (d : Option Detail) : State :=
  { s with events := { s.events with
      records := s.events.records.set (occurrenceIndex o) { count := countUp 255 (s.occurrence o).count, detail := d } } }

/-! ### Free values -/

/-- The state after one free value has been used. -/
def State.useFree (s : State) : State := { s with freeUsed := s.freeUsed + 1 }

/-! ### The command port (R187 to R189) -/

/-- An answer of OK. -/
def Reply.ok (fields : List Byte) : Reply := { status := .ok, fields }

/-- An answer that refuses with a status and no fields (R188). -/
def Reply.refuse (status : Status) : Reply := { status, fields := [] }

/-- The response is ready: READY is asserted. Filler was clocked out while the request came in (R187). -/
def State.answer (s : State) (code : Nat) (r : Reply) : State :=
  { s with port :=
      { response := some { code := BitVec.ofNat 8 code, status := r.status, fields := r.fields }, dataOut := .filler } }

/-- A WRITE taken while a response is unread: it is discarded and PORT_OVERRUN is raised with the request code, or with
none when fewer than four bytes followed the transaction byte (R189). Filler was clocked out while it came in (R187). -/
def State.overrun (s : State) (code : Option Byte) : State :=
  { s.raise .portOverrun (some (.portOverrun code)) with port := { s.port with dataOut := .filler } }

/-- A command whose operation came to rest, or did not. -/
def finish (r : Option State) : Result :=
  match r with
  | some t => .next t
  | none => .fault .endlessTake

/-- The meaning of a request: discarded while a response is unread (R189), answered with ROLE for a role that the
permission table does not list (R188, stage 4), and otherwise handed to its owner, whose answer becomes the response. -/
def request (code : Nat) (role : Role) (permitted : List Role) (s : State)
    (owner : State → Option (State × Reply)) : Result :=
  if s.port.response.isSome then .next (s.overrun (some (BitVec.ofNat 8 code)))
  else if permitted.contains role then
    match owner s with
    | some (t, r) => .next (t.answer code r)
    | none => .fault .endlessTake
  else .next (s.answer code (.refuse .role))

/-- A request whose owner only answers. -/
def readRequest (code : Nat) (role : Role) (permitted : List Role) (s : State) (owner : State → Reply) : Result :=
  request code role permitted s (fun t => some (t, owner t))

/-! ### The permission table (section 10.2) -/

def roleAll : List Role := [.automation, .presenter, .screener, .engineer]
def roleAutomation : List Role := [.automation]
def rolePresenterAutomation : List Role := [.presenter, .automation]
def rolePresenterAutomationEngineer : List Role := [.presenter, .automation, .engineer]
def rolePresenterEngineer : List Role := [.presenter, .engineer]
def rolePresenter : List Role := [.presenter]
def roleScreener : List Role := [.screener]
def roleScreenerPresenter : List Role := [.screener, .presenter]
def roleEngineerAutomation : List Role := [.engineer, .automation]
def roleEngineer : List Role := [.engineer]

end Sys2Proof.Machine
end

