-- ==== Sys2Proof/Machine/Operands.lean ====
section
/-! DEFINITION. The operand forms of requests: yes/no fields, line, player, source, slot and list numbers, handles and
entry bodies, each read from the number its frame carries (R4 to R7, R107, R198, R202). -/

namespace Sys2Proof.Machine

/-- A yes/no field: 0 for no, 1 for yes (R198); none for any other value (R6). -/
def readFlag : Nat → Option Bool
  | 0 => some false
  | 1 => some true
  | _ => none

/-- A number 1..n as an index. -/
def readIndex (n k : Nat) : Option (Fin n) := if h : 1 ≤ k ∧ k ≤ n then some ⟨k - 1, by omega⟩ else none

/-- A line number 1..6 (R107). -/
def readLine (k : Nat) : Option (Fin 6) := readIndex 6 k

/-- A player number 1..4 (R44). -/
def readPlayer (k : Nat) : Option (Fin 4) := readIndex 4 k

/-- A source number 1..14 (R87). -/
def readSource (k : Nat) : Option (Fin 14) := readIndex 14 k

/-- A list code: 0 MAIN, 1..16 a break list (R202). -/
def readList (k : Nat) : Option ListId := if h : k < 17 then some ⟨k, h⟩ else none

/-- A break number 1..16 (R15). -/
def readBreak (k : Nat) : Option ListId := if h : 1 ≤ k ∧ k < 17 then some ⟨k, h.2⟩ else none

/-- A parameter code 1..6 (R205). -/
def readParam : Nat → Option Param
  | 1 => some .carrier | 2 => some .power | 3 => some .txSelect
  | 4 => some .siteAudio | 5 => some .alertFlag | 6 => some .modLimit
  | _ => none

/-- A class number 0..127 (R138). -/
def classInRange (k : Nat) : Bool := decide (k ≤ 127)

/-- The classes of a handle (R4). -/
inductive HandleClass where
  | none | malformed | formed
deriving DecidableEq, Repr

/-- The class of a handle by its form alone: 0, generation 0, or formed (R4). -/
def handleClass (h : Nat) : HandleClass :=
  if h = 0 then .none else if h ≤ 511 then .malformed else .formed

/-- The slot of a handle (R4). -/
def handleSlot (h : Nat) : Nat := h % 512

/-- The generation of a handle (R4). -/
def handleGen (h : Nat) : Nat := h / 512

/-- The handle of a slot at a generation (5.4). -/
def makeHandle (gen slot : Nat) : Nat := gen * 512 + slot

/-! ### Entry bodies (R5 to R7) -/

/-- Clamping the stretch bounds into place around the planned length (R7). -/
def clampTiming (planned : Nat) : Timing → Timing
  | .stretch lo hi => .stretch (min lo planned) (max hi planned)
  | t => t

/-- The timing class with its bounds checked for range (R6), before the clamping of R7. -/
def readTiming (e : RawEntry) : Option Timing :=
  match e.timing with
  | 1 => some .fixed
  | 2 => if e.stretchMin ≤ Config.maxLength ∧ e.stretchMax ≤ Config.maxLength then
      some (.stretch e.stretchMin e.stretchMax) else none
  | 3 => some .drop
  | _ => none

/-- The post: absent for the post kind 0, else a time of day in range and one of the two kinds (R6, R202). The outer
none is a field out of range. -/
def readPost (e : RawEntry) : Option (Option Post) :=
  match e.postKind with
  | 0 => some none
  | 1 => if e.postTime < Config.dayMs then some (some { timeOfDay := e.postTime, kind := .exact }) else none
  | 2 => if e.postTime < Config.dayMs then some (some { timeOfDay := e.postTime, kind := .nearest }) else none
  | _ => none

/-- The fields every item kind carries, checked (R6) and with the stretch bounds clamped (R7). -/
def readItem (e : RawEntry) : Option ItemFields := do
  if e.planned > Config.maxLength then none else
  let timing ← readTiming e
  let post ← readPost e
  let waitForGo ← readFlag e.waitForGo
  let breakAfter ← readFlag e.breakAfter
  let oneShot ← readFlag e.oneShot
  some { planned := e.planned, timing := clampTiming e.planned timing, post, waitForGo, breakAfter, oneShot }

/-- An audio entry's body (R6). -/
def readAudio (kind : AudioKind) (e : RawEntry) : Option Body := do
  let item ← readItem e
  if e.cart = 0 ∨ e.segue > e.planned then none else
  some (.audio kind e.cart e.segue item)

/-- The phone part (R6). -/
def readPhonePart (e : RawEntry) : Option PhonePart := do
  let endOnLast ← readFlag e.endOnLast
  if e.callers > 2 then none else
  match e.endAction with
  | 1 => some { callers := e.callers, endAction := .hold, endOnLast }
  | 2 => some { callers := e.callers, endAction := .release, endOnLast }
  | _ => none

/-- The body an entry's fields give: the fields its kind carries, each checked against its range (R5, R6); none where
R6 refuses it. Fields the kind does not carry are not read. -/
def readBody (e : RawEntry) : Option Body :=
  match e.kind with
  | 1 => readAudio .music e
  | 2 => readAudio .spot e
  | 3 => readAudio .ident e
  | 4 => readAudio .bed e
  | 5 => readAudio .spoken e
  | 6 => do
    let item ← readItem e
    let timed ← readFlag e.timed
    some (.live timed item)
  | 7 => do
    let item ← readItem e
    let timed ← readFlag e.timed
    let part ← readPhonePart e
    some (.phone timed part item)
  | 8 => do
    let item ← readItem e
    let timed ← readFlag e.timed
    let cueStart ← readFlag e.cueStart
    some (.join timed cueStart item)
  | 9 => if e.spanCount = 1 ∨ e.spanCount > 255 then none else some (.spanStart e.spanCount)
  | 10 => some .spanEnd
  | 11 => (readBreak e.breakNumber).map .call
  | 12 => some .holdPoint
  | 13 => some .endMark
  | _ => none

/-- The item fields of an item kind; none for a control kind. -/
def Body.item? : Body → Option ItemFields
  | .audio _ _ _ item => some item
  | .live _ item => some item
  | .phone _ _ item => some item
  | .join _ _ item => some item
  | .spanStart _ | .spanEnd | .call _ | .holdPoint | .endMark => none

/-- The segue: 0 for LIVE, PHONE and JOIN (R5). -/
def Body.segue : Body → Nat
  | .audio _ _ segue _ => segue
  | _ => 0

/-- The code of a kind, 1..13 in the order of the kinds table (R202). -/
def Body.kindCode : Body → Nat
  | .audio .music _ _ _ => 1 | .audio .spot _ _ _ => 2 | .audio .ident _ _ _ => 3 | .audio .bed _ _ _ => 4
  | .audio .spoken _ _ _ => 5 | .live _ _ => 6 | .phone _ _ _ => 7 | .join _ _ _ => 8 | .spanStart _ => 9
  | .spanEnd => 10 | .call _ => 11 | .holdPoint => 12 | .endMark => 13

end Sys2Proof.Machine
end

