-- ==== Sys2Proof/Machine/Flags.lean ====
section
/-! DEFINITION. The flags and output lines that are functions of the state: the conditions (R195), the pending set and
ATTN (R194), READY (R187), HOOK (R105), START (R46, R97), and the alert table's condition MANDATORY_WAITING (R148). -/

namespace Sys2Proof.Machine

/-- The events in the order of the event table, numbered from 1 (R195). -/
def eventTable : List Event :=
  [.condition .mandatoryWaiting, .occurrence .alertFailed, .occurrence .alertStarted, .occurrence .alertEnded,
   .occurrence .alertReceived, .condition .linkLost, .condition .linkDegraded, .occurrence .changeoverFailed,
   .occurrence .foldback, .occurrence .setUnconfirmed, .occurrence .siteRefused, .condition .deadAir,
   .occurrence .postCut, .occurrence .entryMissed, .occurrence .lookaheadFault, .occurrence .timingChanged,
   .occurrence .entryStarted, .occurrence .entryEnded, .occurrence .callerOverdue, .occurrence .callerCleared,
   .occurrence .phoneEmpty, .occurrence .callerRinging, .occurrence .portOverrun, .condition .clockUnset]

/-- The event of a number 1..24. -/
def eventOf (n : Nat) : Option Event := if n = 0 then none else eventTable[n - 1]?

/-- The record of an alert slot. -/
def State.alert? (s : State) (k : Fin 8) : Option Alert := s.receiver.table[k]

/-- The schedule entry of a slot. -/
def State.sched? (s : State) (k : Fin 8) : SchedEntry := s.sched.entries[k]

/-- Whether an alert record is ON_AIR. -/
def State.alertOnAir (s : State) : Bool := allSlots.any fun k => (s.alert? k).any fun a => a.state = .onAir

/-- MANDATORY_WAITING: at least one record of rank 3 or 4 is in WAITING (R148). -/
def State.mandatoryWaiting (s : State) : Bool :=
  allSlots.any fun k => (s.alert? k).any fun a => a.state = .waiting && decide (3 ≤ a.rank)

/-- The number of records ranked 3 or 4 in WAITING (R147). -/
def State.mandatoryCount (s : State) : Nat :=
  allSlots.countP fun k => (s.alert? k).any fun a => a.state = .waiting && decide (3 ≤ a.rank)

/-- A condition's record is pending exactly while the state it describes holds (R194). -/
def State.holds (s : State) : Condition → Bool
  | .mandatoryWaiting => s.mandatoryWaiting
  | .linkLost => s.site.link = .lost
  | .linkDegraded => s.site.link = .degraded
  | .deadAir => s.bus.monitor.state = .dead || s.bus.monitor.state = .escalated
  | .clockUnset => s.clock.unset

/-- Whether an event is pending. -/
def State.eventPending (s : State) : Event → Bool
  | .condition c => s.holds c
  | .occurrence o => decide ((s.occurrence o).count ≠ 0)

/-- The pending set, by event number less 1. -/
def State.pendingSet (s : State) : List Bool := eventTable.map s.eventPending

/-- ATTN: asserted while at least one pending event is not masked (R194). -/
def State.attn (s : State) : Bool := (s.pendingSet.zip s.events.mask.toList).any fun p => p.1 && !p.2

/-- READY: asserted while a response is ready and unread (R187). -/
def State.ready (s : State) : Bool := s.port.response.isSome

/-- A caller record. -/
def State.caller (s : State) (l : Fin 6) : Caller := s.lines.callers[l]

/-- The states in which HOOK is asserted (R105). -/
def LineState.offHook : LineState → Bool
  | .screening | .ready | .onAir | .hold => true
  | .idle | .ringing | .clearing | .outOfService => false

/-- HOOK of a line (R105). -/
def State.hook (s : State) (l : Fin 6) : Bool := (s.caller l).state.offHook

/-- A player record. -/
def State.player (s : State) (p : Fin 4) : Player := s.air.players[p]

/-- Whether a player record is ON_AIR. -/
def Player.isOnAir : Player → Bool
  | .onAir _ _ => true
  | _ => false

/-- Whether a player record is CUED. -/
def Player.isCued : Player → Bool
  | .cued _ => true
  | _ => false

/-- START of a player: asserted while its record is ON_AIR (R46, R97). -/
def State.startLine (s : State) (p : Fin 4) : Bool := (s.player p).isOnAir

/-- The lines that are ON_AIR, in line-number order. -/
def State.linesOnAir (s : State) : List (Fin 6) := allLines.filter fun l => (s.caller l).state = .onAir

/-- Fill is active while the fill player's record is ON_AIR for fill (R97). -/
def State.fillActive (s : State) : Bool :=
  match s.air.fillPlayer with
  | some p => match s.player p with
    | .onAir _ true => true
    | _ => false
  | none => false

end Sys2Proof.Machine
end

