-- ==== Sys2Proof/Machine/Store.lean ====
section
/-! DEFINITION. The running-order store's operations: slots and generations, list order, removal and the edit notice
(R1 to R4, R10). -/

namespace Sys2Proof.Machine

/-- A slot as power-on reset leaves it: free, at generation 1 (R20). -/
def Slot.fresh : Slot := { gen := 1, entry := none }

/-- A slot of the store. -/
def Store.slot (st : Store) (n : Nat) : Slot := tableGet Slot.fresh st.slots n

/-- The store with a slot written. -/
def Store.putSlot (st : Store) (n : Nat) (sl : Slot) : Store := { st with slots := tablePut Slot.fresh st.slots n sl }

/-- The handles of a list, in list order. -/
def Store.order (st : Store) (l : ListId) : List Nat := st.orders[l]

/-- The store with a list's order written. -/
def Store.putOrder (st : Store) (l : ListId) (hs : List Nat) : Store := { st with orders := st.orders.set l hs }

/-- The entry a handle names while it is live; none for a handle that is 0, malformed or stale (R4). -/
def Store.find? (st : Store) (h : Nat) : Option Entry :=
  if handleClass h = .formed ∧ (st.slot (handleSlot h)).gen = handleGen h then (st.slot (handleSlot h)).entry else none

/-- Whether a handle is live (R4). -/
def Store.live (st : Store) (h : Nat) : Bool := (st.find? h).isSome

/-- The free-slot count (R1). -/
def Store.freeCount (st : Store) : Nat := 512 - st.slots.countP fun e => e.2.entry.isSome

/-- The lowest-numbered free slot from `n` on, among `k` slots. -/
def Store.freeFrom (st : Store) : Nat → Nat → Option Nat
  | 0, _ => none
  | k + 1, n => if (st.slot n).entry.isNone then some n else st.freeFrom k (n + 1)

/-- The lowest-numbered free slot (R2). -/
def Store.lowestFree (st : Store) : Option Nat := st.freeFrom 512 0

/-- The handle that follows one in a list; 0 if it is the last (R10). -/
def followerIn (h : Nat) : List Nat → Nat
  | [] => 0
  | x :: rest => if x = h then rest.headD 0 else followerIn h rest

/-- The handle that stands before one in a list; 0 if it is the first (R16). `prev` is the one passed last. -/
def beforeIn (h prev : Nat) : List Nat → Nat
  | [] => 0
  | x :: rest => if x = h then prev else beforeIn h x rest

/-- The position of a handle in a list, from 1 (R16). -/
def placeIn (h : Nat) : List Nat → Nat → Nat
  | [], _ => 0
  | x :: rest, n => if x = h then n else placeIn h rest (n + 1)

/-- A list with a handle placed directly after an anchor; anchor 0 is the start (R11). -/
def insertAfter (anchor h : Nat) : List Nat → List Nat
  | [] => [h]
  | x :: rest =>
    if anchor = 0 then h :: x :: rest
    else if x = anchor then x :: h :: rest
    else x :: insertAfter anchor h rest

/-- A generation advanced by one; 127 advances to 1 (R3). -/
def nextGen (g : Nat) : Nat := if g = 127 then 1 else g + 1

/-- An edit notice: the lists changed, and each handle that left a list with its follower there (R10). -/
structure Notice where
  lists : List ListId
  departed : List (Nat × Nat)
deriving DecidableEq, Repr

/-- The store with a new entry in the lowest free slot, after an anchor of its list, and its handle (R2, R11). -/
def Store.insert (st : Store) (l : ListId) (anchor : Nat) (body : Body) : Option (Store × Nat) :=
  st.lowestFree.map fun n =>
    let sl := st.slot n
    let h := makeHandle sl.gen n
    ((st.putSlot n { sl with entry := some { list := l, body } }).putOrder l (insertAfter anchor h (st.order l)), h)

/-- The store without an entry: it leaves its list, its slot is free and the slot's generation advances (R3). -/
def Store.remove (st : Store) (h : Nat) : Store :=
  match st.find? h with
  | none => st
  | some e =>
    let n := handleSlot h
    (st.putSlot n { gen := nextGen (st.slot n).gen, entry := none }).putOrder e.list ((st.order e.list).filter (· ≠ h))

/-- The store with a live entry's record replaced; its slot, generation and place stay. -/
def Store.putEntry (st : Store) (h : Nat) (e : Entry) : Store :=
  st.putSlot (handleSlot h) { (st.slot (handleSlot h)) with entry := some e }

/-- The store with a live entry moved to a list after an anchor (R13). -/
def Store.move (st : Store) (h : Nat) (e : Entry) (l : ListId) (anchor : Nat) : Store :=
  let out := st.putOrder e.list ((st.order e.list).filter (· ≠ h))
  (out.putOrder l (insertAfter anchor h (out.order l))).putEntry h { e with list := l }

/-- The notice of one entry that leaves its list. -/
def Store.departure (st : Store) (h : Nat) (e : Entry) : Notice :=
  { lists := [e.list], departed := [(h, followerIn h (st.order e.list))] }

end Sys2Proof.Machine
end

