-- ==== Sys2Proof/Machine/Timing.lean ====
section
/-! DEFINITION. The back-timer: the timing computation (R69 to R81) and what it hands to the post watch (R62). -/

namespace Sys2Proof.Machine

/-! ### Resolved entries -/

/-- Whether a resolved entry is an ALERT entry. -/
def Resolved.isAlert (r : Resolved) : Bool := match r.source with | .alert _ => true | _ => false

/-- Whether a resolved entry is an END marker. -/
def Resolved.isEnd (r : Resolved) : Bool := match r.source with | .endMark _ => true | _ => false

/-- The handle of a resolved entry: 0 for an ALERT entry and for the end-of-list END marker (R24). -/
def Source.handle : Source → Nat
  | .item h _ _ => h
  | .hold h _ => h
  | .endMark (some (h, _)) => h
  | .endMark none => 0
  | .alert _ => 0

/-- The list a resolved entry was resolved from (R24). -/
def Source.list? : Source → Option ListId
  | .item _ l _ => some l
  | .hold _ l => some l
  | .endMark (some (_, l)) => some l
  | .endMark none => none
  | .alert _ => none

/-- The copied body of an ITEM entry. -/
def Source.body? : Source → Option Body
  | .item _ _ b => some b
  | _ => none

/-- The copied item fields of an ITEM entry. -/
def Resolved.item? (r : Resolved) : Option ItemFields := r.source.body?.bind Body.item?

/-- The copied post of an ITEM entry. -/
def Resolved.post? (r : Resolved) : Option Post := r.item?.bind ItemFields.post

/-- The copied segue; 0 for all but audio kinds. -/
def Resolved.segue (r : Resolved) : Nat := (r.source.body?.map Body.segue).getD 0

/-- A handle and iteration, which identify a copy of an entry (R81). -/
def Resolved.copyId (r : Resolved) : Nat × List Nat := (r.source.handle, r.iteration)

/-- An entry's effective length and drop mark as R72 clears them. -/
def Resolved.cleared (r : Resolved) : Resolved :=
  { r with
    dropMark := false
    effective := match r.source with
      | .item _ _ b => (b.item?.map ItemFields.planned).getD 0
      | .alert p => p.declared * 1000
      | .hold _ _ | .endMark _ => 0 }

/-! ### Stages of the computation -/

/-- Stage 1: the smallest station time at or after `t0` whose time of day is `h` (R73). -/
def postInstantFrom (t0 h : Nat) : Nat := t0 + (h + Config.dayMs - t0 % Config.dayMs) % Config.dayMs

/-- The time an entry on air has run: 0 while it is CUEING (R42). -/
def OnAir.elapsed (o : OnAir) (now : Nat) : Nat :=
  match o.phase with
  | .cueing _ => 0
  | .playing mono _ => now - mono

/-- Stage 2 for an entry on air (R74): an audio entry's remainder counts to its segue point. -/
def OnAir.remainder (o : OnAir) (now : Nat) : Nat := o.frozen - o.segue - o.elapsed now

/-- Stage 2: the on-air remainder (R74, R75). In PREEMPTED before a carriage is ACTIVE the alert's remainder is 0 (DESIGN
CHOICE, log entry 56). In RUNNING with the on-air record empty, as at the release within a segue or a post cut, R74's
table has no row, and A0 is 0 (DESIGN CHOICE, log entry 63). The alert's declared length is its record's present one, a
revision's where one has come during the carriage (DESIGN CHOICE, log entry 69). -/
def State.airRemainder (s : State) : Nat :=
  match s.air.state with
  | .running => (s.air.onAir.map fun o => o.remainder s.clock.mono).getD 0
  | .preempted =>
    let alert := match s.sched.carriage with
      | some c => (match s.alert? c.slot with
        | some a => a.frame.declared * 1000 - (s.clock.mono - c.startMono)
        | none => 0)
      | none => 0
    let interrupted := match s.air.preemption with
      | some p => (match p.policy, p.interrupted with
        | .resume, some o => o.frozen - p.elapsed
        | _, _ => 0)
      | none => 0
    alert + interrupted
  | .stopped | .waitGo | .held | .postWait => 0

/-- A pending entry's contribution to the projection (R76). -/
def Resolved.contribution (r : Resolved) : Nat :=
  match r.source with
  | .item _ _ b => (b.item?.map ItemFields.planned).getD 0 - b.segue
  | .alert p => p.declared * 1000
  | .hold _ _ | .endMark _ => 0

/-- Whether a pending entry is an ITEM entry of class DROP. -/
def Resolved.isDrop (r : Resolved) : Bool := (r.item?.map fun i => decide (i.timing = .drop)).getD false

/-- A STRETCH entry's capacity to shrink; 0 for any other (R77). -/
def Resolved.shrinkCap (r : Resolved) : Nat :=
  match r.item? with
  | some i => (match i.timing with | .stretch lo _ => i.planned - lo | _ => 0)
  | none => 0

/-- A STRETCH entry's capacity to extend; 0 for any other (R78). -/
def Resolved.extendCap (r : Resolved) : Nat :=
  match r.item? with
  | some i => (match i.timing with | .stretch _ hi => hi - i.planned | _ => 0)
  | none => 0

/-- Stage 5 on the pending entries taken from the post back: while the float with the shrink capacity is below minus
the tolerance, the next unmarked DROP entry is marked and its contribution added (R77). -/
def markDrops (tolerance sd : Nat) : Int → List Resolved → Int × List Resolved
  | f, [] => (f, [])
  | f, r :: rest =>
    if r.isDrop ∧ f + sd < -(tolerance : Int) then
      let (f', rest') := markDrops tolerance sd (f + r.contribution) rest
      (f', { r with dropMark := true } :: rest')
    else
      let (f', rest') := markDrops tolerance sd f rest
      (f', r :: rest')

/-- One walk of the remainder from the post back: each entry whose share is below its capacity takes one ms (R79). -/
def handOutOnce : Nat → List (Nat × Nat) → Nat × List (Nat × Nat)
  | r, [] => (r, [])
  | 0, shares => (0, shares)
  | r + 1, (a, c) :: rest =>
    if a < c then
      let (r', rest') := handOutOnce r rest
      (r', (a + 1, c) :: rest')
    else
      let (r', rest') := handOutOnce (r + 1) rest
      (r', (a, c) :: rest')

/-- The remainder handed out, walk after walk, until none is left (R79). -/
def handOut : Nat → Nat → List (Nat × Nat) → List (Nat × Nat)
  | 0, _, shares => shares
  | fuel + 1, r, shares =>
    if r = 0 then shares
    else
      let (r', shares') := handOutOnce r shares
      handOut fuel r' shares'

/-- The shares of an amount among capacities, in the order of the capacities, the last nearest the post: base shares in
proportion, then the remainder one ms at a time from the post back (R79). -/
def stretchShares (amount : Nat) (caps : List Nat) : List Nat :=
  let total := caps.sum
  if total = 0 then caps.map fun _ => 0
  else
    let base := caps.map fun c => (amount * c / total, c)
    let left := amount - (base.map Prod.fst).sum
    ((handOut left left base.reverse).reverse).map Prod.fst

/-- Stage 6's direction (R78). -/
def stretchDirection (tolerance : Nat) (f : Int) : Direction :=
  if f < -(tolerance : Int) then .shrink else if f > tolerance then .extend else .none

/-- An effective length moved by a share (R79). -/
def Resolved.stretched (d : Direction) (r : Resolved) (share : Nat) : Resolved :=
  match d with
  | .none => r
  | .shrink => { r with effective := r.effective - share }
  | .extend => { r with effective := r.effective + share }

/-- The residual (R80). -/
def residualOf (d : Direction) (f : Int) (amount : Nat) : Int :=
  match d with
  | .none => f
  | .shrink => f + amount
  | .extend => f - amount

/-- The result of stages 5 and 6 on the pending entries. -/
structure Adjusted where
  entries : List Resolved
  direction : Direction
  amount : Nat
  drops : Nat
  stretches : Nat
  residual : Int
deriving DecidableEq, Repr

/-- Stages 5 and 6: drops, then stretches (R77 to R80). -/
def adjust (tolerance : Nat) (float : Int) (pending : List Resolved) : Adjusted :=
  let sd := (pending.map Resolved.shrinkCap).sum
  let (f, markedRev) :=
    if float < -(tolerance : Int) then markDrops tolerance sd float pending.reverse else (float, pending.reverse)
  let marked := markedRev.reverse
  let d := stretchDirection tolerance f
  let caps := match d with
    | .none => marked.map fun _ => 0
    | .shrink => marked.map Resolved.shrinkCap
    | .extend => marked.map Resolved.extendCap
  let amount := if d = .none then 0 else min f.natAbs caps.sum
  let shares := stretchShares amount caps
  { entries := marked.zipWith (Resolved.stretched d) shares
    direction := d
    amount
    drops := marked.countP Resolved.dropMark
    stretches := shares.countP fun a => decide (0 < a)
    residual := residualOf d f amount }

/-- The lookahead split at the first ITEM entry with a post: the pending entries, the post entry, the rest (R71). -/
def splitAtPost : List Resolved → Option (List Resolved × Resolved × List Resolved)
  | [] => none
  | r :: rest =>
    if r.post?.isSome then some ([], r, rest)
    else (splitAtPost rest).map fun (before, p, after) => (r :: before, p, after)

/-! ### The post watch (R62) -/

/-- The post watch after a computation's record has been handed to it (R62). A watch that the cut instant disarmed in HELD
or STOPPED (R64) is armed again like any disarmed one, with the record's later instant (DEDUCED, log entry 68). -/
def PostWatch.update (w : PostWatch) (rec : TimingRecord) (tolerance : Nat) : PostWatch :=
  match rec.state with
  | .computed c =>
    if c.postKind = .exact then
      let fresh := PostWatch.armed { handle := c.handle, iteration := c.iteration, instant := c.instant,
                                     cut := c.instant + tolerance }
      match w with
      | .disarmed => fresh
      | .armed v => if v.handle = c.handle ∧ v.iteration = c.iteration then .armed v else fresh
      | .deferred v => if v.handle = c.handle ∧ v.iteration = c.iteration then .deferred v else fresh
    else .disarmed
  | .noPost | .postBeyond => .disarmed

/-- Whether two drop sets have the same members (R81). -/
def sameMembers (a b : List (Nat × List Nat)) : Bool := a.all (b.contains ·) && b.all (a.contains ·)

/-! ### The computation -/

/-- The timing record and the new lookahead after the held head, from the cleared entries (R71 to R80). `start` is the
lookahead index of the first of them. -/
def State.computeFrom (s : State) (start : Nat) (entries : List Resolved) : TimingRecord × List Resolved :=
  let rec0 : TimingRecord :=
    { state := .noPost, seqNo := s.interp.seqNo, t0 := s.clock.station, tolerance := s.timer.tolerance,
      dropCount := 0, stretchCount := 0 }
  match splitAtPost entries with
  | none =>
    let ends := (match s.interp.look.getLast? with | some r => r.isEnd | none => true)
    ({ rec0 with state := if ends then .noPost else .postBeyond }, entries)
  | some (pending, p, after) =>
    match p.post? with
    | none => (rec0, entries)
    | some post =>
      let tp := postInstantFrom s.clock.station post.timeOfDay
      let a0 := s.airRemainder
      let proj := s.clock.station + a0 + (pending.map Resolved.contribution).sum
      let float : Int := (tp : Int) - proj
      let adj := adjust s.timer.tolerance float pending
      ({ rec0 with
          state := .computed
            { handle := p.source.handle, iteration := p.iteration, index := start + pending.length,
              postKind := post.kind, timeOfDay := post.timeOfDay, instant := tp, remainder := a0, projection := proj,
              float, direction := adj.direction, amount := adj.amount, residual := adj.residual }
          dropCount := adj.drops
          stretchCount := adj.stretches },
        adj.entries ++ p :: after)

/-- The residual of a record, while it carries one. -/
def TimingRecord.residual? (rec : TimingRecord) : Option Int :=
  match rec.state with
  | .computed c => some c.residual
  | .noPost | .postBeyond => none

/-- The marked entries of a computation compared with the kept drop set: TIMING_CHANGED is raised when a member differs
(R81). -/
def State.keepDrops (s : State) (entries : List Resolved) : State :=
  let marked := (entries.filter Resolved.dropMark).map Resolved.copyId
  let kept := { s with timer := { s.timer with dropSet := marked } }
  if sameMembers marked s.timer.dropSet then kept
  else kept.raise .timingChanged (some (.timingChanged s.timer.record.dropCount s.timer.record.residual?))

/-- One computation of the back-timer (R69): the lookahead after the held head is cleared, the stages are carried out,
the marks and the record written, the drop set compared and the record handed to the post watch (R80). -/
def State.compute (s : State) : State :=
  let start := if s.interp.held then 1 else 0
  let (record, entries) := s.computeFrom start ((s.interp.look.drop start).map Resolved.cleared)
  let s1 := { s with
    interp := { s.interp with look := s.interp.look.take start ++ entries }
    timer := { s.timer with record } }
  let s2 := s1.keepDrops entries
  { s2 with air := { s2.air with watch := s2.air.watch.update record s2.timer.tolerance } }

end Sys2Proof.Machine
end

