-- ==== Sys2Proof/Machine/Bus.lean ====
section
/-! DEFINITION. The programme bus's operations: base gains, gain targets and the duck (R89 to R91), the gain laws (R92 to
R94), the players' leaving of ON_AIR (R46), and fill (R97). -/

namespace Sys2Proof.Machine

/-! ### Sources and players -/

/-- The source of a player. -/
def playerSource (p : Fin 4) : Fin 14 := ⟨p.val, by omega⟩

/-- A source record. -/
def State.source (s : State) (i : Fin 14) : SourceRec := s.bus.sources[i]

/-- The state with a source record written. -/
def State.putSource (s : State) (i : Fin 14) (r : SourceRec) : State :=
  { s with bus := { s.bus with sources := s.bus.sources.set i r } }

/-- The state with a player record written. -/
def State.putPlayer (s : State) (p : Fin 4) (r : Player) : State :=
  { s with air := { s.air with players := s.air.players.set p r } }

/-! ### Base gains and targets -/

/-- The duck is active while the on flag of a microphone is on (R91). -/
def State.duckActive (s : State) : Bool := (s.source 4).micOn = some true || (s.source 5).micOn = some true

/-- Whether the on-air record holds a JOIN entry in PLAYING (R89). -/
def State.joinOnAir (s : State) : Bool :=
  match s.air.onAir with
  | some o => (match o.source, o.phase with
    | .item _ _ (.join _ _ _), .playing _ _ => true
    | _, _ => false)
  | none => false

/-- The base gain of a source; none is mute (R89). A player stays at 0 through the ramp of its entry's cut. -/
def State.baseGain (s : State) (i : Fin 14) : Option Int :=
  if h : i.val < 4 then
    match s.player ⟨i.val, h⟩ with
    | .onAir _ false => some 0
    | .onAir _ true => if s.air.fillPlayer = some ⟨i.val, h⟩ then some 0 else none
    | _ => none
  else if i.val = 4 ∨ i.val = 5 then
    if (s.source i).micOn = some true then (s.source i).fader else none
  else if h : 6 ≤ i.val ∧ i.val ≤ 11 then
    if (s.caller ⟨i.val - 6, by omega⟩).state = .onAir then (s.source i).fader else none
  else if i.val = 12 then
    if s.alertOnAir then some 0 else none
  else
    if s.joinOnAir then some 0 else none

/-- Whether the duck applies to a source: the four players and the network (R91). -/
def ducks (i : Fin 14) : Bool := decide (i.val < 4) || decide (i.val = 13)

/-- The gain target of a source (R90): the base plus the trim, less the duck depth where it applies, clamped; mute for a
mute base, and for every source but ALERT while an alert record is ON_AIR. -/
def State.gainTarget (s : State) (i : Fin 14) : Int :=
  if s.alertOnAir ∧ i.val ≠ 12 then -160
  else
    match s.baseGain i with
    | none => -160
    | some g =>
      -- a fader at its mute step is a mute base
      if g ≤ -160 then -160
      else clampInt (-160) 24 (g + (s.source i).trim - (if s.duckActive ∧ ducks i then (s.bus.duckDepth : Int) else 0))

/-! ### Gain laws -/

/-- The gain `τ` ms into a ramp from `g` to mute that lasts `d` ms, rounded down to a whole step (R93, R94). -/
def rampGain (g : Int) (τ d : Nat) : Int :=
  if d ≤ τ then -160 else (g * d - (g + 160) * τ) / (d : Int)

/-- One ms of a source's gain law (R92). -/
def SourceRec.moved (r : SourceRec) (target : Int) (now : Nat) : SourceRec :=
  match r.law with
  | .follow =>
    { r with current := if r.current < target then r.current + 1
                        else if target < r.current then r.current - 1 else r.current }
  | .fade g start d => { r with current := rampGain g (now - start) d }
  | .cut g start _ => { r with current := rampGain g (now - start) 20 }

/-- A player's gain law becomes CUT from its present gain; a cut in progress is not restarted (R94). -/
def State.cutPlayer (s : State) (p : Fin 4) (fill : Bool) : State :=
  let r := s.source (playerSource p)
  match r.law with
  | .cut _ _ _ => s
  | .follow | .fade _ _ _ => s.putSource (playerSource p) { r with law := .cut r.current s.clock.mono fill }

/-- A player's gain law becomes FADE towards mute over `d` ms; a fade of 0 ms is mute at once (R93). -/
def State.fadePlayer (s : State) (p : Fin 4) (d : Nat) : State :=
  let r := s.source (playerSource p)
  s.putSource (playerSource p)
    { r with law := .fade r.current s.clock.mono d, current := if d = 0 then -160 else r.current }

/-- A player's record has left ON_AIR: its gain is mute at once and its law FOLLOW (R92). -/
def State.mutePlayer (s : State) (p : Fin 4) : State :=
  s.putSource (playerSource p) { s.source (playerSource p) with current := -160, law := .follow }

/-! ### Fill (R97) -/

/-- Whether a fill reason is in the set. -/
def State.fillWanted (s : State) : Bool := s.bus.fillDeadAir || s.bus.fillPostWait

/-- Fill starts when it is not active, a fill player is designated and its record is CUED: the record becomes ON_AIR and
the escalation count 0 (R97, R99). -/
def State.startFill (s : State) : State :=
  match s.air.fillPlayer with
  | none => s
  | some p => match s.player p with
    | .cued cue =>
      let t := s.putPlayer p (.onAir cue true)
      { t with bus := { t.bus with monitor := { t.bus.monitor with escalation := 0 } } }
    | .empty | .onAir _ _ | .ended _ => s

/-- Fill is withdrawn: the fill player is cut (R97). -/
def State.withdrawFill (s : State) : State :=
  match s.air.fillPlayer with
  | none => s
  | some p => match s.player p with
    | .onAir _ true => s.cutPlayer p true
    | _ => s

/-- The reason DEAD_AIR is added (R97). -/
def State.addDeadAir (s : State) : State := { s with bus := { s.bus with fillDeadAir := true } }.startFill

/-- The reason POST_WAIT is added (R97). -/
def State.addPostWait (s : State) : State := { s with bus := { s.bus with fillPostWait := true } }.startFill

/-- Fill is withdrawn when the last reason has left the set (R97). -/
def State.withdrawUnwanted (s : State) : State := if s.fillWanted then s else s.withdrawFill

/-- The reason DEAD_AIR is removed (R97). -/
def State.dropDeadAir (s : State) : State :=
  if s.bus.fillDeadAir then { s with bus := { s.bus with fillDeadAir := false } }.withdrawUnwanted else s

/-- The reason POST_WAIT is removed (R97). -/
def State.dropPostWait (s : State) : State :=
  if s.bus.fillPostWait then { s with bus := { s.bus with fillPostWait := false } }.withdrawUnwanted else s

/-- Whether the monitor is in DEAD or ESCALATED (R99). -/
def State.deadAir (s : State) : Bool := s.holds .deadAir

/-- DEAD_AIR is added when the fill player becomes CUED while the monitor is in DEAD or ESCALATED (R97). -/
def State.fillCued (s : State) : State :=
  match s.air.fillPlayer with
  | none => s
  | some p => if (s.player p).isCued && s.deadAir then s.addDeadAir else s

/-- A fill player designation that takes effect (R45, R97): fill that is active on the player before is withdrawn,
DEAD_AIR is added where dead air stands and the new fill player is CUED, and the new fill player takes over the fill that
was active when a reason stands. -/
def State.designate (s : State) (new : Option (Fin 4)) : State :=
  let t := { s with air := { s.air with fillPlayer := new, fillPending := none } }
  if s.air.fillPlayer = new then t
  else
    let cut := match s.air.fillPlayer with
      | none => t
      | some old => match s.player old with
        | .onAir _ true => t.cutPlayer old true
        | _ => t
    let reasoned := cut.fillCued
    if s.fillActive ∧ reasoned.fillWanted then reasoned.startFill else reasoned

/-- A pending designation takes effect when the record of the player it names leaves ON_AIR for its entry (R45). -/
def State.applyPending (s : State) (p : Fin 4) : State :=
  if s.air.fillPending = some p then s.designate (some p) else s

/-- A player's entry has ended: START is released, the record becomes ENDED, its gain is mute (R46, R92), and a
designation pending on it takes effect (R45). -/
def State.endPlayer (s : State) (p : Fin 4) : State :=
  match s.player p with
  | .onAir cue _ => ((s.putPlayer p (.ended cue)).mutePlayer p).applyPending p
  | .empty | .cued _ | .ended _ => s

end Sys2Proof.Machine
end

