-- ==== Sys2Proof/Machine/Interp.lean ====
section
/-! DEFINITION. The interpreter's operations: the next entry of a position (R22), the walk (R25 to R29), refill and
release (R31), rebuild (R34), repair at an edit notice (R33), and the placing of alert entries (R35 to R37). -/

namespace Sys2Proof.Machine

/-! ### Positions (R22) -/

/-- The list of a position. -/
def Position.list : Position → ListId
  | .start l => l
  | .at _ l => l
  | .after _ l => l

/-- The next entry to resolve from a position, found in the store's current order; none is the end of the list. -/
def Store.next (st : Store) : Position → Option Nat
  | .start l => (st.order l).head?
  | .at h l => if (st.order l).contains h then some h else none
  | .after h l => match followerIn h (st.order l) with | 0 => none | n + 1 => some (n + 1)

/-! ### The walk (R25 to R29) -/

/-- A walk in progress: the context reached, the lookahead so far, whether the next entry appended is a break start,
the lists drawn on, the faults met and whether resolution has stopped. -/
structure Walk where
  ctx : Context
  look : List Resolved
  breakNext : Bool
  drawn : Vector Bool 17
  faults : List (Nat × WalkFault)
  stopped : Bool
deriving DecidableEq, Repr

/-- The walk continued from a position, with its stacks as they are. -/
def Walk.goTo (w : Walk) (p : Position) : Walk := { w with ctx := { w.ctx with pos := p } }

/-- A fault met: it is reported and the walk goes on (R29). -/
def Walk.fault (w : Walk) (h : Nat) (r : WalkFault) : Walk := { w with faults := w.faults ++ [(h, r)] }

/-- A resolved entry appended with the fields of R24; `after` is its context after. -/
def Walk.append (w : Walk) (src : Source) (after : Context) : Walk :=
  let r : Resolved :=
    { source := src, iteration := (w.ctx.stack.map Frame.remaining).reverse,
      fromBreak := w.ctx.call.map CallFrame.brk, breakStart := w.breakNext, effective := 0, dropMark := false, after }
  { w with look := w.look ++ [r.cleared], breakNext := false, ctx := after
           drawn := match src.list? with | some l => w.drawn.set l true | none => w.drawn }

/-- A SPAN_START met (R26). -/
def Walk.spanStart (w : Walk) (h : Nat) (l : ListId) (count : Nat) : Walk :=
  if w.ctx.stack.length ≥ 4 then (w.fault h .spanDepth).goTo (.after h l)
  else
    { w with ctx := { w.ctx with
        pos := .after h l
        stack := { handle := h, list := l, remaining := count, pass := false } :: w.ctx.stack } }

/-- A SPAN_END met (R26). -/
def Walk.spanEnd (w : Walk) (st : Store) (h : Nat) (l : ListId) : Walk :=
  match w.ctx.stack with
  | [] => (w.fault h .spanUnmatched).goTo (.after h l)
  | f :: below =>
    let popped : Walk := { w with ctx := { w.ctx with pos := .after h l, stack := below } }
    if f.list ≠ l then (w.fault h .spanUnmatched).goTo (.after h l)
    else if f.remaining = 1 then popped
    else if !f.pass then popped.fault f.handle .spanNoItem
    else if !((st.order l).contains f.handle && st.live f.handle) then popped.fault f.handle .staleHandle
    else
      { w with ctx := { w.ctx with
          pos := .after f.handle l
          stack := { f with remaining := f.remaining - 1, pass := false } :: below } }

/-- A CALL met (R27). -/
def Walk.call (w : Walk) (st : Store) (h : Nat) (l b : ListId) : Walk :=
  if l ≠ 0 then (w.fault h .callInBreak).goTo (.after h l)
  else
    let d : Walk := { w with drawn := w.drawn.set b true }
    if (st.order b).isEmpty then (d.fault h .breakEmpty).goTo (.after h l)
    else
      { d with
        breakNext := true
        ctx := { d.ctx with pos := .start b, call := some { brk := b, ret := .after h l } } }

/-- The end of a list reached (R27). -/
def Walk.endOfList (w : Walk) (l : ListId) : Walk :=
  let stack := w.ctx.stack.filter fun f => decide (f.list ≠ l)
  match w.ctx.call with
  | some c =>
    if l ≠ 0 then { w with ctx := { pos := c.ret, stack, call := none } }
    else
      let v : Walk := { w with ctx := { w.ctx with stack } }
      { v.append (.endMark none) { pos := .at 0 l, stack, call := some c } with stopped := true }
  | none =>
    let v : Walk := { w with ctx := { w.ctx with stack } }
    { v.append (.endMark none) { pos := .at 0 l, stack, call := none } with stopped := true }

/-- An entry met (R25 to R28). -/
def Walk.meet (w : Walk) (st : Store) (h : Nat) (l : ListId) (b : Body) : Walk :=
  match b with
  | .spanStart n => w.spanStart h l n
  | .spanEnd => w.spanEnd st h l
  | .call brk => w.call st h l brk
  | .holdPoint => w.append (.hold h l) { w.ctx with pos := .after h l }
  | .endMark => { w.append (.endMark (some (h, l))) { w.ctx with pos := .after h l } with stopped := true }
  | .audio _ _ _ _ | .live _ _ | .phone _ _ _ | .join _ _ _ =>
    let stack := w.ctx.stack.map fun f => { f with pass := true }
    w.append (.item h l b) { w.ctx with pos := .after h l, stack }

/-- One step of the walk. -/
def Walk.step (w : Walk) (st : Store) : Walk :=
  let l := w.ctx.pos.list
  match st.next w.ctx.pos with
  | none => w.endOfList l
  | some h => match st.find? h with
    | some e => w.meet st h l e.body
    | none => w.goTo (.after h l)

/-- The walk carried on until the lookahead holds 64 entries or an END marker has been appended. -/
def Walk.run (st : Store) : Nat → Walk → Walk
  | 0, w => w
  | fuel + 1, w => if w.stopped || decide (64 ≤ w.look.length) then w else Walk.run st fuel (w.step st)

/-- More steps than a walk can take before it appends 64 entries or stops: between two appended entries a walk passes
each entry of MAIN and of each break it calls at most once for each frame of the loop stack. -/
def walkFuel : Nat := 2 ^ 40

/-- A resolution from a context onto a lookahead (R25): one that already holds 64 entries, or whose tail is an END
marker, appends nothing. -/
def resolve (st : Store) (ctx : Context) (look : List Resolved) (drawn : Vector Bool 17) : Walk :=
  let ended := match look.getLast? with | some r => r.isEnd | none => false
  Walk.run st walkFuel { ctx, look, breakNext := false, drawn, faults := [], stopped := ended }

/-- The faults of a walk raised in order; the most recent is kept for LOOKAHEAD_READ (R29). -/
def State.reportFaults : List (Nat × WalkFault) → State → State
  | [], s => s
  | (h, r) :: rest, s =>
    let t := s.raise .lookaheadFault (some (.lookaheadFault h r))
    State.reportFaults rest { t with interp := { t.interp with lastFault := some (h, r) } }

/-! ### The lookahead -/

/-- The sequence number advanced by `n`; 65,535 advances to 0 (R38). -/
def State.advanceSeq (s : State) (n : Nat) : State :=
  { s with interp := { s.interp with seqNo := (s.interp.seqNo + n) % 65536 } }

/-- The state with the lookahead written. -/
def State.putLook (s : State) (look : List Resolved) : State := { s with interp := { s.interp with look } }

/-- The head of the lookahead. -/
def State.head? (s : State) : Option Resolved := s.interp.look.head?

/-- The context from which the next resolution starts: the context after the last entry, or the play position. -/
def State.tailContext (s : State) : Context :=
  match s.interp.look.getLast? with
  | some r => r.after
  | none => s.interp.play

/-- The sequencer tells the interpreter that the head is held (R30). -/
def State.hold (s : State) : State := { s with interp := { s.interp with held := true } }

/-- The sequencer gives up holding the head; it stays where it is (R30). -/
def State.unhold (s : State) : State := { s with interp := { s.interp with held := false } }

/-! ### Placing alert entries (R35, R36) -/

/-- Whether a resolved entry has break-after set. -/
def Resolved.breakAfter (r : Resolved) : Bool := (r.item?.map ItemFields.breakAfter).getD false

/-- The index at which alert entries stand in the first break point: `prev` is the last non-ALERT entry passed,
`region` the index after it, `i` the index of the first entry of the list given (R35). -/
def findBreak (prev : Option Resolved) (region i : Nat) : List Resolved → Option Nat
  | [] => none
  | r :: rest =>
    if r.isAlert then findBreak prev region (i + 1) rest
    else if (prev.map Resolved.breakAfter).getD false || r.breakStart then some region
    else findBreak (some r) (i + 1) (i + 1) rest

/-- The index at which alert entries stand in the lookahead's first break point (R35). -/
def Interp.firstBreak (i : Interp) : Option Nat :=
  match i.look with
  | [] => none
  | head :: rest =>
    if i.held then (if head.isAlert then some 1 else findBreak (some head) 1 1 rest)
    else findBreak none 0 0 (head :: rest)

/-- The order of alert entries at a break point: rank, higher first, then waiting-since, earlier first, then slot, lower
first (R36). -/
def AlertPart.precedes (a b : AlertPart) : Bool :=
  if a.rank ≠ b.rank then decide (b.rank < a.rank)
  else if a.waitingSince ≠ b.waitingSince then decide (a.waitingSince < b.waitingSince)
  else decide (a.slot < b.slot)

/-- An alert part put in its place among ordered ones. -/
def insertPart (p : AlertPart) : List AlertPart → List AlertPart
  | [] => [p]
  | q :: rest => if q.precedes p then q :: insertPart p rest else p :: q :: rest

/-- Alert parts in the order of R36. -/
def orderParts (ps : List AlertPart) : List AlertPart := ps.foldl (fun acc p => insertPart p acc) []

/-- The alert part of an ALERT entry. -/
def Resolved.part? (r : Resolved) : Option AlertPart := match r.source with | .alert p => some p | _ => none

/-- An ALERT entry as it is placed: FIXED, no segue, no post, and the context after of the entry before it (R24). Its
iteration and from-break, which R24 sets "at resolution" and an ALERT is never resolved, are empty (DESIGN CHOICE, log
entry 48). -/
def alertEntry (ctx : Context) (p : AlertPart) : Resolved :=
  { source := .alert p, iteration := [], fromBreak := none, breakStart := false, effective := p.declared * 1000,
    dropMark := false, after := ctx }

/-- A list without its last non-ALERT entry; none when it has none. -/
def dropLastItem : List Resolved → Option (List Resolved)
  | [] => none
  | r :: rest =>
    match dropLastItem rest with
    | some rest' => some (r :: rest')
    | none => if r.isAlert then none else some rest

/-- Non-ALERT entries discarded from the tail while more than `room` entries stand; answers how many were (R36). -/
def discardTail (room : Nat) : Nat → List Resolved → List Resolved × Nat
  | 0, l => (l, 0)
  | fuel + 1, l =>
    if l.length ≤ room then (l, 0)
    else
      match dropLastItem l with
      | none => (l, 0)
      | some l' =>
        let (l'', n) := discardTail room fuel l'
        (l'', n + 1)

/-- A lookahead with the context after of each ALERT entry set to that of the entry before it; `ctx` is the one before the
first (R24). A later break point's ALERT whose own entry before it is discarded holds the context after the new last
entry, from which a refill resolves the discarded entry again (R36, step 3). -/
def realignAlerts (ctx : Context) : List Resolved → List Resolved
  | [] => []
  | r :: rest =>
    if r.isAlert then { r with after := ctx } :: realignAlerts ctx rest else r :: realignAlerts r.after rest

/-- Whether two alert parts name the same alert. -/
def AlertPart.same (a b : AlertPart) : Bool := decide (a.origin = b.origin) && decide (a.number = b.number)

/-- Placing at a break point (R36, steps 2 to 4): the new lookahead, the placement set and the number of entries
discarded from the tail. -/
def Interp.placeAt (i : Interp) (k : Nat) : List Resolved × List Placement × Nat :=
  let before := i.look.take k
  let rest := i.look.drop k
  let standing := rest.takeWhile Resolved.isAlert
  let after := rest.dropWhile Resolved.isAlert
  let wanted := (i.placement.filter fun q => !q.placed).map Placement.part
  let parts := orderParts (standing.filterMap Resolved.part? ++ wanted)
  let ctx := match before.getLast? with | some r => r.after | none => i.play
  let (after', discarded) := discardTail (64 - before.length - parts.length) after.length after
  let kept := parts.take (64 - before.length - after'.length)
  let out := parts.drop (64 - before.length - after'.length)
  let placement := i.placement.map fun q =>
    if kept.any q.part.same then { q with placed := true }
    else if out.any q.part.same then { q with placed := false } else q
  (before ++ kept.map (alertEntry ctx) ++ realignAlerts ctx after', placement, discarded)

/-- The interpreter tries to place every unplaced entry (R36): a placement that changes the lookahead advances the
sequence number, as each discard from the tail does, and notifies the back-timer. -/
def State.tryPlace (s : State) : State :=
  if s.interp.placement.all Placement.placed then s
  else
    match s.interp.firstBreak with
    | none => s
    | some k =>
      let (look, placement, discarded) := s.interp.placeAt k
      if look = s.interp.look then s
      else
        let t := { s with interp := { s.interp with look, placement } }
        (t.advanceSeq (discarded + 1)).compute

/-! ### Refill, release, rebuild -/

/-- A refill's resolution: entries are appended and the drawn set grows; appending advances the sequence number (R31,
R33, R38). -/
def State.refill (s : State) : State :=
  let w := resolve s.store s.tailContext s.interp.look s.interp.drawn
  let t := State.reportFaults w.faults { s with interp := { s.interp with look := w.look, drawn := w.drawn } }
  if w.look.length > s.interp.look.length then t.advanceSeq 1 else t

/-- The head released to the interpreter (R31): it leaves the lookahead, the play position becomes its context after,
the lookahead is refilled, the unplaced entries are tried unless a post cut holds them back, and the back-timer
computes. Its drop mark leaves the kept drop set (R81); copies of one handle and iteration are one member there (DEDUCED,
log entry 53). -/
def State.releaseHead (s : State) (mayPlace : Bool) : State :=
  match s.interp.look with
  | [] => s
  | head :: rest =>
    let t := { s with
      interp := { s.interp with look := rest, play := head.after, held := false }
      timer := { s.timer with dropSet := s.timer.dropSet.filter (· ≠ head.copyId) } }
    let t := (t.advanceSeq 1).refill
    (if mayPlace then t.tryPlace else t).compute

/-- The lists named by the play position and its call frame (R33). -/
def Context.lists (c : Context) : List ListId :=
  c.pos.list :: (match c.call with | some f => [f.brk, f.ret.list] | none => [])

/-- A rebuild (R34): every entry after the held head is discarded, its ALERT entries return to the placement set as
unplaced, the walk resolves again, the alerts are placed, the drawn set is replaced, the sequence number advances and
the back-timer computes. -/
def State.rebuild (s : State) : State :=
  let kept := if s.interp.held then s.interp.look.take 1 else []
  let ctx := match kept with | r :: _ => r.after | [] => s.interp.play
  let named := (kept.filterMap fun r => r.source.list?) ++ s.interp.play.lists
  let drawn := named.foldl (fun d l => d.set l true) (Vector.replicate 17 false)
  let w := resolve s.store ctx kept drawn
  let t := State.reportFaults w.faults
    { s with interp := { s.interp with
        look := w.look, drawn := w.drawn, placement := s.interp.placement.map fun q => { q with placed := false } } }
  (t.tryPlace.advanceSeq 1).compute

/-! ### Edit notices (R33) -/

/-- The follower of a handle that left a list: another departed handle's own follower is taken instead (R33). -/
def followDeparted (departed : List (Nat × Nat)) : Nat → Nat → Nat
  | 0, h => h
  | fuel + 1, h =>
    match departed.find? fun d => d.1 = h with
    | some d => followDeparted departed fuel d.2
    | none => h

/-- A position repaired: "at X" and "after X" of a departed X become "at F" in the same list (R33). -/
def Position.repair (departed : List (Nat × Nat)) (p : Position) : Position :=
  let fix (h : Nat) (l : ListId) : Position :=
    if departed.any (fun d => d.1 = h) then .at (followDeparted departed (departed.length + 1) h) l else p
  match p with
  | .start _ => p
  | .at h l => fix h l
  | .after h l => fix h l

/-- A context repaired: its position and its call frame's return position. -/
def Context.repair (departed : List (Nat × Nat)) (c : Context) : Context :=
  { c with
    pos := c.pos.repair departed
    call := c.call.map fun f => { f with ret := f.ret.repair departed } }

/-- An edit notice taken (R33): the positions held are repaired, and a notice for a list of the drawn set makes a
rebuild. -/
def State.takeNotice (s : State) (n : Notice) : State :=
  let t := { s with interp := { s.interp with
      play := s.interp.play.repair n.departed
      look := s.interp.look.map fun r => { r with after := r.after.repair n.departed } } }
  if n.lists.any fun l => s.interp.drawn[l] then t.rebuild else t

/-- An ending reported to the store (R18): a live one-shot entry that ended COMPLETE is retired, with its notice. -/
def State.reportEnding (s : State) (h : Nat) (e : Ending) : State :=
  match s.store.find? h with
  | none => s
  | some entry =>
    if e = .complete ∧ (entry.body.item?.map ItemFields.oneShot).getD false = true then
      ({ s with store := s.store.remove h }).takeNotice (s.store.departure h entry)
    else s

/-! ### Requests of the scheduler and the sequencer -/

/-- A placement request adds an entry to the placement set as unplaced (R36). -/
def State.addPlacement (s : State) (p : AlertPart) : State :=
  { s with interp := { s.interp with placement := s.interp.placement ++ [{ part := p, placed := false }] } }

/-- An entry leaves the placement set. -/
def State.dropPlacement (s : State) (origin number : Nat) : State :=
  { s with interp := { s.interp with
      placement := s.interp.placement.filter fun q => !(q.part.origin = origin && q.part.number = number) } }

/-- Whether a resolved entry is an alert's. -/
def Resolved.carries (r : Resolved) (origin number : Nat) : Bool :=
  match r.part? with
  | some p => decide (p.origin = origin) && decide (p.number = number)
  | none => false

/-- A withdrawal request (R37): the entry leaves the set and the lookahead, which is refilled and tried again, the
sequence number advances and the back-timer computes. One that names no entry of the set changes nothing. -/
def State.withdraw (s : State) (origin number : Nat) : State :=
  match s.interp.placement.find? fun q => q.part.origin = origin && q.part.number = number with
  | none => s
  | some q =>
    let t := s.dropPlacement origin number
    let start := if t.interp.held then 1 else 0
    let look := if q.placed then
        t.interp.look.take start ++ (t.interp.look.drop start).filter fun r => !r.carries origin number
      else t.interp.look
    ((t.putLook look).refill.tryPlace.advanceSeq 1).compute

/-- A stale head removed (R32): the fault is raised, the play position stays and a rebuild is made. -/
def State.dropStaleHead (s : State) (h : Nat) : State :=
  (State.reportFaults [(h, .staleHandle)] ((s.putLook s.interp.look.tail).advanceSeq 1)).rebuild

/-- An accepted AIR_CUE_TO: the play position becomes "at E" with empty stacks, and a rebuild is made (R34). -/
def State.cueTo (s : State) (h : Nat) (l : ListId) : State :=
  { s with interp := { s.interp with play := { pos := .at h l, stack := [], call := none } } }.rebuild

end Sys2Proof.Machine
end

