-- ==== Sys2Proof/Machine/LineOps.lean ====
section
/-! DEFINITION. The caller-line unit's operations: entering and leaving the states of a line (R105, R111, R117, R118), the
queue (R114), the phone segment (R120 to R122) and the hold and restore notices (R123). -/

namespace Sys2Proof.Machine

/-- The state with a caller record written. -/
def State.putCaller (s : State) (l : Fin 6) (c : Caller) : State :=
  { s with lines := { s.lines with callers := s.lines.callers.set l c } }

/-- The state without a line in the queue. -/
def State.leaveQueue (s : State) (l : Fin 6) : State :=
  { s with lines := { s.lines with queue := s.lines.queue.filter (· ≠ l) } }

/-- The upper end of the accumulated air time (R106). -/
def airTimeTop : Nat := 2 ^ 32 - 1

/-- The accumulated air time at a moment (R106). -/
def Caller.airTimeAt (c : Caller) (now : Nat) : Nat :=
  match c.airSince with
  | some t => min airTimeTop (c.airTime + (now - t))
  | none => c.airTime

/-- The accumulated air time stopped. -/
def Caller.stopAir (c : Caller) (now : Nat) : Caller := { c with airTime := c.airTimeAt now, airSince := none }

/-- A hold timer started with the hold limit in force (R119). -/
def State.holdExpiry (s : State) : Nat := s.clock.mono + s.lines.holdLimit * 60000

/-- HOOK becomes asserted: the loop-drop timer starts if LOOP is low then (R105). -/
def Caller.seize (c : Caller) (now : Nat) : Caller := { c with loopTimer := if c.loop then none else some (now + 400) }

/-- Whether a joining line of priority `p` stands before a line of the queue: its priority is strictly lower (R114). -/
def State.joinQueue (s : State) (l : Fin 6) (p : Nat) : List (Fin 6) → List (Fin 6)
  | [] => [l]
  | q :: rest => if (s.caller q).priority < p then l :: q :: rest else q :: s.joinQueue l p rest

/-- A line enters CLEARING with a last end: HOOK is released and the loop-drop timer stops, the line leaves the queue,
its air time and hold timer stop, its flags clear and the clearing timer starts (R111). -/
def State.enterClearing (s : State) (l : Fin 6) (e : LastEnd) : State :=
  let c := (s.caller l).stopAir s.clock.mono
  (s.leaveQueue l).putCaller l
    { c with state := .clearing, lastEnd := some e, loopTimer := none, holdTimer := none, overdue := false,
             pinned := false, restore := false, clearingTimer := some (s.clock.mono + 1000) }

/-- A line enters ON_AIR: it leaves the queue, its hold timer stops, its overdue and pinned flags clear, its air time
runs, and an active segment's seen flag is set (R117). -/
def State.enterOnAir (s : State) (l : Fin 6) : State :=
  let t := (s.leaveQueue l).putCaller l
    { s.caller l with state := .onAir, holdTimer := none, overdue := false, pinned := false,
                      airSince := some s.clock.mono }
  { t with lines := { t.lines with segment := t.lines.segment.map fun g => { g with seen := true } } }

/-- A line leaves ON_AIR for HOLD: its air time stops and its hold timer starts (R118). -/
def State.enterHold (s : State) (l : Fin 6) (restore : Bool) : State :=
  s.putCaller l { (s.caller l).stopAir s.clock.mono with
    state := .hold, holdTimer := some s.holdExpiry, restore }

/-! ### Phone segments (R120 to R122) -/

/-- Selection from the queue: each line that is neither pinned nor overdue is taken while a place is left (R120). -/
def State.selectCallers : Nat → List (Fin 6) → State → State
  | _, [], s => s
  | 0, _ :: _, s => s
  | n + 1, l :: rest, s =>
    if (s.caller l).pinned || (s.caller l).overdue then State.selectCallers (n + 1) rest s
    else State.selectCallers n rest (s.enterOnAir l)

/-- A PHONE entry has started: the segment record becomes active and callers are selected; PHONE_EMPTY is raised when
callers were wanted and none is on air (R120). -/
def State.startSegment (s : State) (handle : Nat) (part : PhonePart) : State :=
  let t := { s with lines := { s.lines with
    segment := some { handle, part, seen := !s.linesOnAir.isEmpty, suspended := false } } }
  let u := State.selectCallers (min part.callers (2 - t.linesOnAir.length)) t.lines.queue t
  if 0 < part.callers ∧ u.linesOnAir.isEmpty then u.raise .phoneEmpty (some (.phoneEmpty handle)) else u

/-- The end action applied to one line ON_AIR (R122). -/
def State.endActionOn (a : EndAction) (s : State) (l : Fin 6) : State :=
  match a with
  | .hold => s.enterHold l false
  | .release => s.enterClearing l .segmentEnd

/-- A PHONE entry has ended: its end action is applied to every line ON_AIR in line-number order, and the segment record
becomes inactive (R122). -/
def State.endSegment (s : State) : State :=
  match s.lines.segment with
  | none => s
  | some g =>
    let t := s.linesOnAir.foldl (State.endActionOn g.part.endAction) s
    { t with lines := { t.lines with segment := none } }

/-- The handle to report when the segment's last caller has left (R121): the segment is active, not suspended, has
end-on-last-caller and the seen flag set, and no line is ON_AIR. -/
def State.lastCallerGone (s : State) : Option Nat :=
  match s.lines.segment with
  | some g => if !g.suspended && g.part.endOnLast && g.seen && s.linesOnAir.isEmpty then some g.handle else none
  | none => none

/-! ### Alert hold (R123) -/

/-- The suspended flag of an active segment. -/
def State.suspendSegment (s : State) (v : Bool) : State :=
  { s with lines := { s.lines with segment := s.lines.segment.map fun g => { g with suspended := v } } }

/-- The hold notice at a carriage's start (R123). -/
def State.holdNotice (s : State) : State :=
  let t := { s with lines := { s.lines with alertHold := true } }
  (t.linesOnAir.foldl (fun u l => u.enterHold l true) t).suspendSegment true

/-- One line at the restore notice: back to ON_AIR while fewer than two lines are, its restore flag cleared (R123). -/
def State.restoreLine (s : State) (l : Fin 6) : State :=
  if (s.caller l).state = .hold ∧ (s.caller l).restore then
    let t := if s.linesOnAir.length < 2 then s.enterOnAir l else s
    t.putCaller l { t.caller l with restore := false }
  else s

/-- The restore notice at the end of a run of carriages (R123), before its last-caller test. -/
def State.restoreNotice (s : State) : State :=
  if s.lines.alertHold then
    let t := { s with lines := { s.lines with alertHold := false } }
    (allLines.foldl State.restoreLine t).suspendSegment false
  else s

end Sys2Proof.Machine
end

