-- ==== Sys2Proof/Machine/SiteOps.lean ====
section
/-! DEFINITION. The site-link unit's operations: drive codes (R172), matching (R170), new desired values (R171), the
sequence counter (R169), filling the in-flight table (R173), and answers to frames in flight (R174 to R177). -/

namespace Sys2Proof.Machine

/-- A parameter record. -/
def State.param (s : State) (p : Param) : ParamRec := s.site.params[paramIndex p]

/-- The state with a parameter record written. -/
def State.putParam (s : State) (p : Param) (r : ParamRec) : State :=
  { s with site := { s.site with params := s.site.params.set (paramIndex p) r } }

/-- The active transmitter's calibration offset: the confirmed TX_SELECT's, or MAIN's while that is UNKNOWN (R172). -/
def State.activeCal (s : State) : Int :=
  if (s.param .txSelect).confirmed = some 1 then s.site.calReserve else s.site.calMain

/-- The drive code of a power in W under an offset (R172). -/
def toCode (watts : Nat) (cal : Int) : Nat :=
  clampNat 0 4095 ((((watts * 4095 * 2 + 1000) / 2000 : Nat) : Int) + cal)

/-- The power in W of a drive code under an offset (R172). -/
def toWatts (code : Nat) (cal : Int) : Nat := clampNat 0 1000 ((((code : Int) - cal) * 2000 + 4095) / 8190)

/-- Whether the desired value matches the confirmed value (R170); for POWER, whether the confirmed code is the code of
the desired value under the active transmitter's offset (R172). UNKNOWN matches nothing. -/
def State.siteMatches (s : State) (p : Param) : Bool :=
  match (s.param p).desired with
  | none => false
  | some v =>
    if p = .power then decide (s.site.powerCode = some (toCode v s.activeCal))
    else decide ((s.param p).confirmed = some v)

/-! ### Frames sent (R169, R173) -/

/-- The first sequence number from `n` on that no frame in flight holds, among `k` (R169). -/
def freeSequence (inFlight : List InFlight) : Nat → Nat → Nat
  | 0, n => n
  | k + 1, n => if inFlight.any (fun e => e.sequence = n) then freeSequence inFlight k ((n + 1) % 256) else n

/-- The sequence number of the next frame produced (R169). -/
def State.nextSequence (s : State) : Nat := freeSequence s.site.inFlight 4 s.site.sequence

/-- A frame joins the outgoing queue's tail, and the counter moves past its sequence number (R169). -/
def State.produce (s : State) (f : Nat → SiteFrame) : State :=
  let n := s.nextSequence
  { s with site := { s.site with outgoing := s.site.outgoing ++ [f n], sequence := (n + 1) % 256 } }

/-- Whether a SET of a parameter is in the in-flight table. -/
def State.setInFlight (s : State) (p : Param) : Bool :=
  s.site.inFlight.any fun e => match e.target with | .set q _ _ => decide (q = p) | .poll _ => false

/-- The first DIRTY record in parameter order; at most one SET for a parameter is in flight (R173). A DIRTY TX_SELECT whose
SET is still in flight, as after a failed changeover, is passed over (DEDUCED, log entries 19 and 76). -/
def State.firstDirty (s : State) : Option Param :=
  allParams.find? fun p => decide ((s.param p).state = .dirty) && !s.setInFlight p

/-- A SET of a record's desired value is produced, its entry added with tries 1, and the record becomes SENT. For POWER
the frame carries the drive code, and the entry keeps the code and the offset (R172, R173). -/
def State.sendSet (s : State) (p : Param) (v : Nat) : State :=
  let cal := s.activeCal
  let wire := if p = .power then toCode v cal else v
  let target := Target.set p v (if p = .power then some (wire, cal) else none)
  let n := s.nextSequence
  let t := s.produce (fun k => .set k p wire)
  let entry : InFlight := { sequence := n, target, sentAt := none, tries := 1 }
  let t := { t with site := { t.site with inFlight := t.site.inFlight ++ [entry] } }
  t.putParam p { t.param p with state := .sent }

/-- The due poll is produced, its entry added with tries 1, and it is no longer due (R173). -/
def State.sendPoll (s : State) (c : Fin 8) : State :=
  let n := s.nextSequence
  let t := s.produce (fun k => .poll k c)
  let entry : InFlight := { sequence := n, target := .poll c, sentAt := none, tries := 1 }
  { t with site := { t.site with inFlight := t.site.inFlight ++ [entry], duePoll := none } }

/-- The in-flight table filled, one frame at a time: the first DIRTY record, else the due poll, while an entry is free
and the link is not LOST (R173). A DIRTY record that waits for its own SET in flight holds up neither the later ones nor
the due poll (DEDUCED, log entry 76). -/
def State.fillTableFrom : Nat → State → State
  | 0, s => s
  | fuel + 1, s =>
    if s.site.inFlight.length < 4 ∧ s.site.link ≠ .lost then
      match s.firstDirty with
      | some p => (match (s.param p).desired with
        | some v => State.fillTableFrom fuel (s.sendSet p v)
        | none => s)
      | none => (match s.site.duePoll with
        | some c => State.fillTableFrom fuel (s.sendPoll c)
        | none => s)
    else s

/-- The in-flight table filled until it is full or nothing waits (R173). -/
def State.fillTable (s : State) : State := State.fillTableFrom 4 s

/-! ### New desired values (R171) -/

/-- A record as a new desired value leaves it: SENT stays SENT; any other becomes SETTLED when the value matches and
DIRTY otherwise, its retry timer stopped and its refusal reason none (R171). -/
def State.newDesired (s : State) (p : Param) (v : Nat) : State :=
  let r := s.param p
  let t := s.putParam p { r with desired := some v }
  if r.state = .sent then t
  else t.putParam p { t.param p with
    state := if t.siteMatches p then .settled else .dirty, retryAt := none, refusal := none }

/-- A desired value written by the unit itself, before the table is filled: the value already desired changes nothing
(R171). -/
def State.desire (s : State) (p : Param) (v : Nat) : State :=
  if (s.param p).desired = some v then s else s.newDesired p v

/-- A write by the bus or the scheduler: the value already desired changes nothing (R171). -/
def State.writeDesired (s : State) (p : Param) (v : Nat) : State :=
  if (s.param p).desired = some v then s else (s.newDesired p v).fillTable

/-- The POWER match tested afresh: a SETTLED record that no longer matches becomes DIRTY (R172). -/
def State.retestPower (s : State) : State :=
  if (s.param .power).state = .settled ∧ !s.siteMatches .power then
    s.putParam .power { s.param .power with state := .dirty }
  else s

/-- A record whose confirmed value the site's own report has changed acts by its state (R177). -/
def State.actOnReport (s : State) (p : Param) : State :=
  let r := s.param p
  match r.state with
  | .settled => if s.siteMatches p then s else s.putParam p { r with state := .dirty }
  | .dirty | .unconfirmed | .refused =>
    if s.siteMatches p then s.putParam p { r with state := .settled, retryAt := none, refusal := none } else s
  | .sent | .notSet => s

/-- A record's confirmed value written, without acting on it. -/
def State.putConfirmed (s : State) (p : Param) (v : Option Nat) : State :=
  s.putParam p { s.param p with confirmed := v }

/-- The entry of a sequence number in the in-flight table. -/
def State.inFlight? (s : State) (sequence : Nat) : Option InFlight :=
  s.site.inFlight.find? fun e => e.sequence = sequence

/-- The in-flight table without an entry. -/
def State.dropInFlight (s : State) (sequence : Nat) : State :=
  { s with site := { s.site with inFlight := s.site.inFlight.filter fun e => e.sequence ≠ sequence } }

/-- A record that leaves SENT for a reason other than an equal value applied, when its desired value has changed since
sending: SETTLED when it matches, DIRTY otherwise (R174 to R176). -/
def State.resend (s : State) (p : Param) : State :=
  s.putParam p { s.param p with state := if s.siteMatches p then .settled else .dirty }

/-- SITE_REFUSED raised with the parameter and the reason, which the record's last refusal reason takes (R174, R175). -/
def State.siteRefused (s : State) (p : Param) (reason : SiteRefusal) : State :=
  (s.putParam p { s.param p with refusal := some reason }).raise .siteRefused (some (.siteRefused p reason))

/-- Whether an enumerated parameter has a value of this code (R205). -/
def validValue (p : Param) (v : Nat) : Bool :=
  match p with
  | .carrier | .txSelect | .siteAudio | .alertFlag => decide (v ≤ 1)
  | .power => true
  | .modLimit => decide (50 ≤ v) && decide (v ≤ 110)

/-- The applied value of an ACK as the confirmed value: a code above 4095 is taken as 4095 and converted with the offset
kept in the entry; a value the parameter does not have makes it UNKNOWN (R174, R206). -/
def State.takeApplied (s : State) (p : Param) (applied : Nat) (power : Option (Nat × Int)) : State :=
  match power with
  | some (_, cal) =>
    let code := min applied 4095
    let t := s.putConfirmed p (some (toWatts code cal))
    { t with site := { t.site with powerCode := some code } }
  | none => s.putConfirmed p (if validValue p applied then some applied else none)

/-- Whether an applied value equals the value sent: for POWER the codes are compared (R174). -/
def appliedEqual (sent applied : Nat) (power : Option (Nat × Int)) : Bool :=
  match power with
  | some (code, _) => decide (min applied 4095 = code)
  | none => decide (applied = sent)

/-- A record leaves SENT at an ACK (R174). -/
def State.settleAck (s : State) (p : Param) (sent applied : Nat) (power : Option (Nat × Int)) : State :=
  if appliedEqual sent applied power then s.resend p
  else if (s.param p).desired = some sent then
    (s.putParam p { s.param p with state := .refused }).siteRefused p .noApply
  else s.resend p

/-- A changeover starts at the ACK of a TX_SELECT SET when the applied transmitter differs from the active one of the
site state record, or when no STATE frame has been taken since the last reset (R180). An applied value that is neither MAIN nor RESERVE names
no target: it starts no changeover, and one in progress goes on (DESIGN CHOICE, log entry 65). -/
def State.startChangeover (s : State) (applied : Nat) : State :=
  let differs : Bool := match s.site.report with
    | some r => decide (r.active ≠ some applied)
    | none => true
  if applied ≤ 1 ∧ (differs || !s.site.reportSinceReset) = true then
    { s with site := { s.site with changeover := some { target := applied, startedAt := s.clock.mono, seen := false } } }
  else s

end Sys2Proof.Machine
end

