-- ==== Sys2Proof/Machine/SchedOps.lean ====
section
/-! DEFINITION. The alert scheduler's operations below the sequencer: ranks (R131), the way of a record (R151), the
immediate candidates (R156), the frames to the decoder (R128) and a carriage's start (R158). -/

namespace Sys2Proof.Machine

/-! ### Classes and ranks -/

/-- A class entry at its power-on value (R138). -/
def ClassEntry.fresh : ClassEntry := { action := .holdForOperator, deadline := 120, required := false, ceiling := none }

/-- The class action entry of a class (R138). -/
def State.classEntry (s : State) (c : Nat) : ClassEntry := tableGet ClassEntry.fresh s.receiver.classes c

/-- The base rank of an action (R131). -/
def baseRank : ClassAction → Nat
  | .mandatoryNow => 4
  | .mandatoryBreak => 3
  | .voluntaryBreak => 2
  | .holdForOperator => 1
  | .ignore => 1

/-- The rank of a record: the base rank, raised to 2 by operator carry, lowered to 3 for a test alert (R131). -/
def rankOf (a : ClassAction) (operatorCarry test : Bool) : Nat :=
  let raised := if baseRank a = 1 ∧ operatorCarry then 2 else baseRank a
  if test ∧ raised = 4 then 3 else raised

/-- Whether an ISSUE's test flag is set. -/
def issueIsTest (f : IssueFrame) : Bool := decide (f.test = 1)

/-- A record's rank computed afresh (R131). -/
def State.rankFor (s : State) (f : IssueFrame) (operatorCarry : Bool) : Nat :=
  rankOf (s.classEntry f.cls).action operatorCarry (issueIsTest f)

/-- The state with an alert slot written. -/
def State.putAlert (s : State) (k : Fin 8) (a : Option Alert) : State :=
  { s with receiver := { s.receiver with table := s.receiver.table.set k a } }

/-- The state with a schedule entry written. -/
def State.putSched (s : State) (k : Fin 8) (e : SchedEntry) : State :=
  { s with sched := { s.sched with entries := s.sched.entries.set k e } }

/-- The slot of an identity; none for an alert that is not known (R129). -/
def State.slotOf (s : State) (origin number : Nat) : Option (Fin 8) :=
  allSlots.find? fun k => (s.alert? k).any fun a => a.frame.origin = origin && a.frame.number = number

/-! ### The way of a record and the immediate candidates -/

/-- The way that a rank and the deadline passed flag give (R151). -/
def wayOf (rank : Nat) (passed : Bool) : Way :=
  if rank = 4 ∨ (rank = 3 ∧ passed) then .immediate else if rank = 1 then .operator else .break

/-- The way of a slot's record while it is ELIGIBLE (R151). -/
def State.way? (s : State) (k : Fin 8) : Option Way :=
  if (s.sched? k).eligibility = .eligible then (s.alert? k).map fun a => wayOf a.rank (s.sched? k).passed else none

/-- Whether a candidate's record goes before another's: rank, higher first, then waiting-since, earlier first, then slot
(R156). -/
def State.goesBefore (s : State) (a b : Fin 8) : Bool :=
  match s.alert? a, s.alert? b with
  | some x, some y =>
    if x.rank ≠ y.rank then decide (y.rank < x.rank)
    else if x.waitingSince ≠ y.waitingSince then decide (x.waitingSince.getD 0 < y.waitingSince.getD 0)
    else decide (a < b)
  | _, _ => decide (a < b)

/-- A candidate put in its place among ordered ones. -/
def State.insertCandidate (s : State) (k : Fin 8) : List (Fin 8) → List (Fin 8)
  | [] => [k]
  | q :: rest => if s.goesBefore q k then q :: s.insertCandidate k rest else k :: q :: rest

/-- The immediate candidates in the order of R156. -/
def State.candidates (s : State) : List (Fin 8) :=
  (allSlots.filter fun k => s.way? k = some .immediate).foldl (fun acc k => s.insertCandidate k acc) []

/-! ### Frames to the decoder (R128) -/

/-- A frame joins the alert port's outgoing queue. -/
def State.sendAlert (s : State) (f : AlertFrame) : State :=
  { s with receiver := { s.receiver with outgoing := s.receiver.outgoing ++ [f] } }

/-! ### A carriage's start (R158) -/

/-- A carriage starts (R158): the schedule entry is cleared, the carriage record becomes ACTIVE, the record enters
ON_AIR, PLAY is queued, ALERT_FLAG goes ON, the callers are held and ALERT_STARTED is raised; the back-timer then counts
the carriage (R75). The model's record also keeps the deadline passed flag that the entry had (R167; log entry 59). -/
def State.startCarriage (s : State) (k : Fin 8) (way : Way) : State :=
  match s.alert? k with
  | none => s
  | some a =>
    let lost := decide (s.site.link = .lost)
    let c : Carriage :=
      { slot := k, origin := a.frame.origin, number := a.frame.number, way, startMono := s.clock.mono,
        startStation := s.clock.station, revision := a.frame.revision, linkLost := lost, playSent := false,
        guardAt := s.clock.mono + a.frame.declared * 1000 + 5000, serial := s.sched.serial,
        passed := (s.sched? k).passed }
    let t := s.putSched k SchedEntry.clear
    let t := { t with sched := { t.sched with carriage := some c, serial := t.sched.serial + 1 } }
    let t := t.putAlert k (some { a with state := .onAir, revisionOnAir := some a.frame.revision })
    let t := t.sendAlert (.play a.frame.origin a.frame.number c.serial)
    let t := (t.writeDesired .alertFlag 1).holdNotice
    (t.raise .alertStarted
      (some (.alertStarted a.frame.origin a.frame.number a.frame.revision way lost))).compute

end Sys2Proof.Machine
end

