-- ==== Sys2Proof/Machine/AirOps.lean ====
section
/-! DEFINITION. The air sequencer's operations: starts (R48 to R50), endings (R51, R53, R54), cuts (R46), taking the head
(R47), the answer to a changed head (R61), and the post cut (R64). -/

namespace Sys2Proof.Machine

/-! ### Small writes -/

/-- The state with the on-air record written. -/
def State.putOnAir (s : State) (o : Option OnAir) : State := { s with air := { s.air with onAir := o } }

/-- The state with the post watch written. -/
def State.putWatch (s : State) (w : PostWatch) : State := { s with air := { s.air with watch := w } }

/-- The sequencer enters a state: POST_WAIT is a fill reason exactly in POST_WAIT (R97), and the go latch clears on
entering HELD or STOPPED (R55). -/
def State.enterState (s : State) (a : AirState) : State :=
  let t := if a = .postWait then s.addPostWait else s.dropPostWait
  { t with air := { t.air with
      state := a, goLatch := t.air.goLatch && !(decide (a = .held) || decide (a = .stopped)) } }

/-- Whether an entry needs a go (R43). -/
def Body.needsGo (m : AirMode) (b : Body) : Bool :=
  decide (m = .assist) || (b.item?.map ItemFields.waitForGo).getD false ||
    (match b with | .join _ cueStart _ => cueStart | _ => false)

/-- Whether an entry is a cue-start JOIN. -/
def Body.cueStartJoin : Body → Bool
  | .join _ cueStart _ => cueStart
  | _ => false

/-- Whether the post watch names a copy of an entry, and is armed or deferred. -/
def PostWatch.names (w : PostWatch) (id : Nat × List Nat) : Bool :=
  match w with
  | .disarmed => false
  | .armed v => decide ((v.handle, v.iteration) = id)
  | .deferred v => decide ((v.handle, v.iteration) = id)

/-- What an armed watch holds. -/
def PostWatch.armed? : PostWatch → Option Watch
  | .armed v => some v
  | .disarmed => none
  | .deferred _ => none

/-! ### Starts (R48 to R50) -/

/-- The lowest-numbered player CUED with a cart, leaving out the fill player (R48). -/
def State.playerFor (s : State) (cart : Nat) : Option (Fin 4) :=
  allPlayers.find? fun p =>
    decide (s.air.fillPlayer ≠ some p) && (match s.player p with | .cued cue => decide (cue.cart = cart) | _ => false)

/-- What every item entry's going on air brings: ENTRY_STARTED, the go latch clears and the back-timer computes. -/
def State.entryStarted (s : State) : State :=
  let t := s.raise .entryStarted none
  { t with air := { t.air with goLatch := false } }.compute

/-- An audio entry on the on-air record goes on air with a player (R48): PLAYING from now, the end timer for its frozen
length, the segue point its segue before that, or now when the segue is longer (R52). -/
def State.bindPlayer (s : State) (o : OnAir) (p : Fin 4) : State :=
  match s.player p with
  | .cued cue =>
    let now := s.clock.mono
    let t := (s.putPlayer p (.onAir cue false)).putOnAir (some
      { o with phase := .playing now s.clock.station, player := some p, endTimer := some (now + o.frozen),
               seguePoint := some (now + (o.frozen - o.segue)) })
    t.entryStarted
  | .empty | .onAir _ _ | .ended _ => s

/-- The on-air record of an entry taken from the head, before it plays: its frozen length is its effective length at
this moment (R48). -/
def OnAir.taken (r : Resolved) (phase : Phase) : OnAir :=
  { source := r.source, iteration := r.iteration, phase, player := none, frozen := r.effective, segue := r.segue,
    endTimer := none, seguePoint := none }

/-- The head is taken as the on-air entry: it is held, the sequencer is RUNNING, and a post watch that names it is
disarmed (R47 step 8, R62). -/
def State.takeHeld (s : State) (r : Resolved) (phase : Phase) : State :=
  let t := (s.enterState .running).hold.putOnAir (some (OnAir.taken r phase))
  if t.air.watch.names r.copyId then t.putWatch .disarmed else t

/-- A LIVE, PHONE or JOIN entry on the on-air record goes on air (R50): a timed one has an end timer. -/
def State.startPlain (s : State) (timed : Bool) : State :=
  match s.air.onAir with
  | none => s
  | some o =>
    let now := s.clock.mono
    (s.putOnAir (some { o with phase := .playing now s.clock.station
                               endTimer := if timed then some (now + o.frozen) else none })).entryStarted

/-- The head, an ITEM entry, is started (R47 step 8, R48, R50). The flag tells whether it was taken: an audio entry with
no matching player is not, when its class is DROP or the cue grace is 0 (R48, R49). -/
def State.startItem (s : State) (r : Resolved) (b : Body) : State × Bool :=
  let now := s.clock.mono
  match b with
  | .audio _ cart _ item =>
    let t := s.takeHeld r (.cueing (now + s.air.cueGrace))
    match t.playerFor cart, t.air.onAir with
    | some p, some o => (t.bindPlayer o p, true)
    | _, _ => if item.timing = .drop ∨ s.air.cueGrace = 0 then (t, false) else (t, true)
  | .live timed _ => ((s.takeHeld r (.playing now s.clock.station)).startPlain timed, true)
  | .join timed _ _ => ((s.takeHeld r (.playing now s.clock.station)).startPlain timed, true)
  | .phone timed part _ =>
    ((s.takeHeld r (.playing now s.clock.station)).startSegment r.source.handle part |>.startPlain timed, true)
  | .spanStart _ | .spanEnd | .call _ | .holdPoint | .endMark => (s, true)

/-! ### Endings (R51) -/

/-- The head released with an outcome or without one, in the order of R51, steps 1 to 5. -/
def State.releaseWith (s : State) (e : Option Ending) (mayPlace : Bool) : State :=
  match s.head? with
  | none => s
  | some r =>
    let h := r.source.handle
    let s1 := match e with
      | some x => { s with air := { s.air with lastEnding := some (h, x) } }
      | none => s
    let s2 := s1.releaseHead mayPlace
    let s3 := match e with
      | some x => s2.reportEnding h x
      | none => s2
    let s4 := match e, r.source with
      | some x, .item _ _ _ => s3.raise .entryEnded (some (.entryEnded h x))
      | _, _ => s3
    s4.compute

/-- The on-air entry ended with an outcome: R51's steps 1 to 5, and the on-air record empties (step 6). -/
def State.endRecord (s : State) (e : Ending) : State := (s.releaseWith (some e) true).putOnAir none

/-- What the end of the entry on air brings to the unit it used: a player's START is released, a phone segment ends
(R51, R54). -/
def State.stopParts (s : State) (o : OnAir) : State :=
  match o.player, o.source with
  | some p, _ => s.endPlayer p
  | none, .item _ _ (.phone _ _ _) => s.endSegment
  | none, _ => s

/-- What a cut of the entry on air brings: a player's gain is ramped to mute, a phone segment ends (R46, R59). -/
def State.cutParts (s : State) (o : OnAir) : State :=
  match o.player, o.source with
  | some p, _ => s.cutPlayer p false
  | none, .item _ _ (.phone _ _ _) => s.endSegment
  | none, _ => s

/-- The outgoing entry cut with outcome CUT, reported and raised (R53). -/
def State.cutOutgoing (s : State) : State :=
  match s.air.outgoing with
  | none => s
  | some o =>
    let t := s.cutPlayer o.player false
    let t := { t with air := { t.air with outgoing := none, lastEnding := some (o.handle, .cut) } }
    ((t.reportEnding o.handle .cut).raise .entryEnded (some (.entryEnded o.handle .cut))).compute

/-- The on-air entry cut with outcome CUT and released (R46, R51, R64, R157). -/
def State.cutOnAir (s : State) (mayPlace : Bool) : State :=
  match s.air.onAir with
  | none => s
  | some o => ((s.cutParts o).releaseWith (some .cut) mayPlace).putOnAir none

/-! ### Taking the head (R47) -/

/-- How the procedure was called: at a boundary or by AIR_START, whose authority stands in for the first go at step 7;
by AIR_RESUME, from step 6; or by AIR_STEP, from step 8 (R57, R60). -/
inductive TakeMode where
  | boundary (startGo : Bool)
  | resume
  | step
deriving DecidableEq, Repr

/-- The mode of the passes after an item entry has reached step 7: AIR_START's authority is for the first alone (R60). -/
def TakeMode.used : TakeMode → TakeMode
  | .boundary _ => .boundary false
  | .resume => .resume
  | .step => .step

/-- An ALERT entry at the head taken (R50): it is held, leaves the placement set (R36) and is the on-air entry. -/
def State.takeAlert (s : State) (r : Resolved) (p : AlertPart) : State :=
  (s.takeHeld r (.playing s.clock.mono s.clock.station)).dropPlacement p.origin p.number

/-- The slot of a break start's alert while its record is WAITING (R158). -/
def State.waitingSlot (s : State) (p : AlertPart) : Option (Fin 8) :=
  allSlots.find? fun k => (s.alert? k).any fun a =>
    decide (a.frame.origin = p.origin) && decide (a.frame.number = p.number) && decide (a.state = .waiting)

/-- An entry that could not start is released with outcome MISSED, and ENTRY_MISSED is raised (R48, R49). -/
def State.missed (s : State) : State := (s.endRecord .missed).raise .entryMissed none

/-- The head waits for a go (R47 step 7). -/
def State.enterWaitGo (s : State) : State := s.enterState .waitGo

/-- Whether the head is the post entry of an armed watch whose instant has not come (R47 step 6). -/
def State.beforePost (s : State) (r : Resolved) : Bool :=
  match s.air.watch.armed? with
  | some w => decide ((w.handle, w.iteration) = r.copyId) && decide (s.clock.station < w.instant)
  | none => false

/-- What step 7 decides of an item entry: whether it may start, and the go latch after it. A latch does not act for a
cue-start JOIN, AIR_START and AIR_STEP do. -/
def State.goGiven (s : State) (mode : TakeMode) (b : Body) : Option State :=
  if !b.needsGo s.air.mode then some s
  else
    match mode with
    | .boundary true => some s
    | .step => some s
    | .boundary false | .resume =>
      if s.air.goLatch ∧ !b.cueStartJoin then some { s with air := { s.air with goLatch := false } } else none

/-- The procedure of R47 from step 1, repeated until the sequencer comes to rest; none where it does not within the
repeats allowed. An ALERT entry whose carriage starts on the way ends the procedure, and AIR_START's standing in for a go
with it: the head is taken as at any boundary when the carriage ends (DEDUCED, log entry 50). -/
def takeLoop : Nat → TakeMode → State → Option State
  | 0, _, _ => none
  | fuel + 1, mode, s =>
    match s.head? with
    | none => some (s.enterState .stopped)
    | some r =>
      let h := r.source.handle
      if h ≠ 0 ∧ !s.store.live h then takeLoop fuel mode (s.dropStaleHead h)
      else
        match r.source with
        | .endMark _ => some (s.enterState .stopped)
        | .hold _ _ =>
          let t := s.releaseWith none true
          if t.air.holdAtPoint then some ({ t with air := { t.air with holdAtPoint := false } }.enterState .held)
          else takeLoop fuel mode t
        | .alert p =>
          let t := s.takeAlert r p
          match t.waitingSlot p with
          | some k => some (t.startCarriage k .break)
          | none => takeLoop fuel mode (t.endRecord .complete)
        | .item _ _ b =>
          if r.dropMark then takeLoop fuel mode (s.releaseWith (some .dropped) true)
          else if (match mode with | .boundary _ => s.air.holdDemand | .resume | .step => false) then
            some ({ s with air := { s.air with holdDemand := false } }.enterState .held)
          else if mode ≠ .step ∧ s.beforePost r then some (s.enterState .postWait)
          else
            match s.goGiven mode b with
            | none => some s.enterWaitGo
            | some t =>
              let (u, taken) := t.startItem r b
              if taken then some u else takeLoop fuel mode.used u.missed

/-- More repeats than any running order without an endless span can make: where they run out, the procedure never comes
to rest. -/
def takeFuel : Nat := 2 ^ 64

/-- The head taken by R47. -/
def State.takeHead (s : State) (mode : TakeMode) : Option State := takeLoop takeFuel mode s

/-- The head, an item entry, taken from step 8 of R47; the procedure repeats where it is released without starting. -/
def State.startHead (s : State) : Option State :=
  match s.head? with
  | some r => (match r.source with
    | .item _ _ b =>
      let (t, taken) := s.startItem r b
      if taken then some t else t.missed.takeHead (.boundary false)
    | .hold _ _ | .endMark _ | .alert _ => s.takeHead (.boundary false))
  | none => s.takeHead (.boundary false)

/-- The head taken from step 7 of R47 (R63). -/
def State.takeFromGo (s : State) : Option State :=
  match s.head? with
  | some r => (match r.source with
    | .item _ _ b => (match s.goGiven (.boundary false) b with
      | some t => t.startHead
      | none => some s.enterWaitGo)
    | .hold _ _ | .endMark _ | .alert _ => s.takeHead (.boundary false))
  | none => s.takeHead (.boundary false)

/-- The on-air entry ends with an outcome and the new head is taken (R51). -/
def State.endOnAir (s : State) (e : Ending) : Option State :=
  match s.air.onAir with
  | none => some s
  | some o => ((s.stopParts o).endRecord e).takeHead (.boundary false)

/-! ### A changed head (R61), and cues offered to a CUEING entry (R49) -/

/-- Whether a state is one of the waits whose head a rebuild may change. -/
def AirState.isWait : AirState → Bool
  | .waitGo | .postWait => true
  | .stopped | .running | .held | .preempted => false

/-- The sequencer's answer after an operation that may have changed the head (R50, R61): waiting as before with another
head, or with an ALERT entry at the head, it withdraws the fill player and takes the head from step 1. -/
def settleHead (before s : State) : Option State :=
  if s.air.state.isWait ∧ before.air.state = s.air.state then
    let same := match before.head?, s.head? with
      | some a, some b => !b.isAlert && decide (a.copyId = b.copyId) && decide (a.isEnd = b.isEnd)
      | none, none => true
      | _, _ => false
    if same then some s else s.dropPostWait.takeHead (.boundary false)
  else some s

/-- An entry in CUEING is offered the players: the lowest one CUED with its cart, other than the fill player, is bound
at once (R49). -/
def State.offerCues (s : State) : State :=
  match s.air.onAir with
  | none => s
  | some o => match o.phase, o.source with
    | .cueing _, .item _ _ (.audio _ cart _ _) => (match s.playerFor cart with
      | some p => s.bindPlayer o p
      | none => s)
    | _, _ => s

/-! ### The report of a phone segment's last caller (R121, R54) -/

/-- The sequencer takes the report that the last caller of a PHONE entry has left: that entry, on air, ends with outcome
COMPLETE (R54). -/
def State.reportLastCaller (s : State) (handle : Nat) : Option State :=
  match s.air.onAir with
  | none => some s
  | some o => match o.source with
    | .item h _ (.phone _ _ _) => if h = handle then s.endOnAir .complete else some s
    | _ => some s

/-- The last-caller test made, and its report given when it is true (R121). -/
def State.testLastCaller (s : State) : Option State :=
  match s.lastCallerGone with
  | some h => s.reportLastCaller h
  | none => some s

/-! ### The post cut (R64) -/

/-- Whether the post entry of a watch stands in the lookahead, unstarted. -/
def State.postStands (s : State) (w : Watch) : Bool :=
  (s.interp.look.drop (if s.interp.held then 1 else 0)).any fun r =>
    (match r.source with | .item _ _ _ => true | _ => false) && decide (r.copyId = (w.handle, w.iteration))

/-- An ALERT entry returned to the placement set as unplaced (R34, R64). -/
def State.unplace (s : State) (p : AlertPart) : State :=
  { s with interp := { s.interp with
      placement := s.interp.placement.map fun q => if q.part.same p then { q with placed := false } else q } }

/-- The lookahead entries before the post entry released in turn, each as R31 sets out; no alert is placed meanwhile (R64,
step 2). -/
def State.releaseBefore : Nat → Watch → State → State
  | 0, _, s => s
  | fuel + 1, w, s =>
    match s.head? with
    | none => s
    | some r => match r.source with
      | .item _ _ _ =>
        if r.copyId = (w.handle, w.iteration) then s
        else State.releaseBefore fuel w (s.releaseWith (some .dropped) false)
      | .hold _ _ => State.releaseBefore fuel w (s.releaseWith none false)
      | .alert p => State.releaseBefore fuel w ((s.unplace p).releaseWith none false)
      | .endMark _ => s

/-- The post cut (R64): the air is cut, the entries before the post entry are released, POST_CUT is raised, the watch is
disarmed and the post entry is taken from step 8; then the alerts held back are tried again. -/
def State.postCut (s : State) (w : Watch) : Option State :=
  let s1 := ((s.cutOnAir false).cutOutgoing).dropPostWait
  let s2 := State.releaseBefore s1.interp.look.length w s1
  let s3 := (s2.raise .postCut none).putWatch .disarmed
  s3.startHead.map State.tryPlace

/-- A player's gain ramp or fade has ended with its entry: the outgoing entry ends with outcome COMPLETE (R53). -/
def State.endOutgoing (s : State) : Option State :=
  match s.air.outgoing with
  | none => some s
  | some o =>
    let t := s.endPlayer o.player
    let t := { t with air := { t.air with outgoing := none, lastEnding := some (o.handle, .complete) } }
    let t := (t.reportEnding o.handle .complete).raise .entryEnded (some (.entryEnded o.handle .complete))
    settleHead s t.compute.offerCues

end Sys2Proof.Machine
end

