-- ==== Sys2Proof/Machine/CarriageOps.lean ====
section
/-! DEFINITION. The alert scheduler above the sequencer: preemption (R157), offers (R156), becoming eligible (R152), rank
notices and the clearing of entries (R153), deadlines (R155), the end of a carriage (R160 to R163), the restoration of
the air (R164), and retirement (R137). -/

namespace Sys2Proof.Machine

/-! ### Preemption and offers -/

/-- The interrupted entry, the elapsed time and the policy that a preemption request finds (R157). -/
def State.interruption (s : State) : Option OnAir × Nat × Policy :=
  match s.air.onAir with
  | none => (none, 0, .next)
  | some o => match o.source with
    | .item _ _ (.audio _ _ _ _) => (some o, 0, .next)
    | .item _ _ _ => (some o, o.elapsed s.clock.mono, .resume)
    | .alert _ | .hold _ _ | .endMark _ => (none, 0, .next)

/-- What becomes of the entry on air at a preemption request (R157): an audio entry is cut and released, an ALERT entry
whose carriage has just ended is released with outcome COMPLETE, any other stays the held head. -/
def State.yieldAir (s : State) : State :=
  match s.air.onAir with
  | none => s
  | some o => match o.source with
    | .item _ _ (.audio _ _ _ _) => s.cutOnAir true
    | .alert _ => s.endRecord .complete
    | .item _ _ _ | .hold _ _ | .endMark _ => s

/-- The sequencer takes a preemption request (R157): the preemption record is filled, the air yields, the outgoing entry
is cut, the on-air record empties and the sequencer enters PREEMPTED. -/
def State.preempt (s : State) : State :=
  let (interrupted, elapsed, policy) := s.interruption
  let rec0 : Preemption :=
    { interrupted, elapsed, policy, before := s.air.state, outgoingCut := s.air.outgoing.isSome }
  let t := (s.yieldAir.cutOutgoing.putOnAir none).enterState .preempted
  { t with air := { t.air with preemption := some rec0 } }.compute

/-- The scheduler offers immediate carriage (R156): while the carriage record is IDLE the first candidate's carriage
starts, after a preemption request where the sequencer is not PREEMPTED. -/
def State.offer (s : State) : State :=
  match s.sched.carriage with
  | some _ => s
  | none => match s.candidates with
    | [] => s
    | k :: _ => (if s.air.state = .preempted then s else s.preempt).startCarriage k .immediate

/-! ### Place requests, deadlines and becoming eligible -/

/-- The alert part that the scheduler gives for a record (R154). -/
def partOf (k : Fin 8) (a : Alert) : AlertPart :=
  { origin := a.frame.origin, number := a.frame.number, slot := k, rank := a.rank,
    waitingSince := a.waitingSince.getD 0, declared := a.frame.declared }

/-- A place request (R154): the entry joins the placement set, placed becomes yes, and the interpreter tries to place
it (R36). An ALERT entry that so becomes the head of a waiting sequencer is taken at once (R50). -/
def State.placeRequest (s : State) (k : Fin 8) : Option State :=
  match s.alert? k with
  | none => some s
  | some a =>
    settleHead s
      (((s.putSched k { s.sched? k with placed := true }).addPlacement (partOf k a)).tryPlace)

/-- The deadline instant of an entry while it runs (R155). -/
def State.deadlineOf (s : State) (k : Fin 8) : Option Nat :=
  match s.alert? k with
  | none => none
  | some a =>
    let e := s.sched? k
    if e.eligibility = .eligible ∧ a.rank = 3 ∧ e.passed = false then
      e.base.map (· + (s.classEntry a.frame.cls).deadline * 1000)
    else none

/-- Whether an entry's deadline instant has come. -/
def State.deadlineDue (s : State) (k : Fin 8) : Bool :=
  match s.deadlineOf k with
  | some t => decide (t ≤ s.clock.mono)
  | none => false

/-- The record's alert entry withdrawn from the interpreter where placed is yes; placed becomes no (R154). -/
def State.withdrawPlaced (s : State) (k : Fin 8) : State :=
  match s.alert? k with
  | none => s
  | some a =>
    if (s.sched? k).placed then
      (s.withdraw a.frame.origin a.frame.number).putSched k { s.sched? k with placed := false }
    else s

/-- The deadline expires, but for the offer (R155, steps 1 and 2): deadline passed is set and the entry withdrawn. -/
def State.passDeadline (s : State) (k : Fin 8) : State :=
  (s.putSched k { s.sched? k with passed := true }).withdrawPlaced k

/-- The deadline expires (R155). -/
def State.expireDeadline (s : State) (k : Fin 8) : State := (s.passDeadline k).offer

/-- An ELIGIBLE record acts by its way (R152): a deadline already over expires first (R155), then an IMMEDIATE record is
offered, a BREAK record placed, and an OPERATOR record waits. `mayOffer` is false while a carriage's end is being
carried out, whose own offer comes later (R160, R163). -/
def State.actByWay (s : State) (k : Fin 8) (mayOffer : Bool) : Option State :=
  let t := if s.deadlineDue k then s.passDeadline k else s
  match t.way? k with
  | some .immediate => some (if mayOffer then t.offer else t)
  | some .break => t.placeRequest k
  | some .operator => some t
  | none => some t

/-- A record stamped WAITING and its entry ELIGIBLE (R152), with a deadline passed flag. -/
def State.enterEligible (s : State) (k : Fin 8) (a : Alert) (passed : Bool) : State :=
  let now := s.clock.mono
  (s.putAlert k (some { a with state := .waiting, waitingSince := some now, nextEligible := none })).putSched k
    { eligibility := .eligible, placed := false, base := if a.rank = 3 then some now else none, passed }

/-- A WAITING record becomes ELIGIBLE (R152). -/
def State.makeEligible (s : State) (k : Fin 8) (mayOffer : Bool) : Option State :=
  match s.alert? k with
  | none => some s
  | some a => (s.enterEligible k a false).actByWay k mayOffer

/-- Every LINK_WAIT entry becomes ELIGIBLE, in slot order (R152). -/
def State.linkUp (s : State) : Option State :=
  foldSteps (fun k t => if (t.sched? k).eligibility = .linkWait then t.makeEligible k true else some t) allSlots s

/-! ### Notices of the receiver (R153) -/

/-- A schedule entry cleared (R153). -/
def State.clearEntry (s : State) (k : Fin 8) : State := (s.withdrawPlaced k).putSched k SchedEntry.clear

/-- A rank notice (R153): an ELIGIBLE entry finds its way afresh, with a deadline from now at rank 3. -/
def State.rankNotice (s : State) (k : Fin 8) : Option State :=
  match s.alert? k with
  | none => some s
  | some a =>
    if a.state = .onAir then some s
    else if (s.sched? k).eligibility = .eligible then
      let t := s.withdrawPlaced k
      let t := t.putSched k
        { eligibility := .eligible, placed := false, base := if a.rank = 3 then some t.clock.mono else none,
          passed := false }
      t.actByWay k true
    else some s

/-- A record's rank computed afresh; a rank that differs is written and noticed (R131). -/
def State.rerank (s : State) (k : Fin 8) : Option State :=
  match s.alert? k with
  | none => some s
  | some a =>
    let r := s.rankFor a.frame a.operatorCarry
    if r = a.rank then some s else (s.putAlert k (some { a with rank := r })).rankNotice k

/-! ### The restoration of the air (R164) -/

/-- An entry interrupted with policy RESUME as it returns to the on-air record: its elapsed time goes on from where it
stood, and a timed entry's end timer is set for the rest (R164). -/
def State.resumed (s : State) (o : OnAir) (elapsed : Nat) : OnAir :=
  let timed := match o.source with
    | .item _ _ (.live t _) => t
    | .item _ _ (.phone t _ _) => t
    | .item _ _ (.join t _ _) => t
    | _ => false
  { o with
    phase := .playing (s.clock.mono - elapsed)
      ((s.clock.station + Config.stationModulus - elapsed % Config.stationModulus) % Config.stationModulus)
    endTimer := if timed then some (s.clock.mono + (o.frozen - elapsed)) else none }

/-- The air given back by ways 2 to 4 of R164: resume, next, held or stopped. -/
def State.giveBack (s : State) (p : Preemption) : Option State :=
  match p.policy, p.interrupted with
  | .resume, some o => some ((s.putOnAir (some (s.resumed o p.elapsed))).enterState .running)
  | _, _ =>
    match p.before with
    | .held => some (s.enterState .held)
    | .stopped => some (s.enterState .stopped)
    | .running | .waitGo | .postWait | .preempted => s.takeHead (.boundary false)

/-- What a deferred watch holds. -/
def PostWatch.deferred? : PostWatch → Option Watch
  | .deferred w => some w
  | .disarmed => none
  | .armed _ => none

/-- The deferred post cut at a restoration (R164): an entry interrupted with policy RESUME counts as the on-air entry. -/
def State.restoreByCut (s : State) (p : Preemption) (w : Watch) : Option State :=
  let t := match p.policy, p.interrupted with
    | .resume, some o => s.putOnAir (some (s.resumed o p.elapsed))
    | _, _ => s
  (t.enterState .running).postCut w

/-- The scheduler reports the air restored (R164). -/
def State.restoreAir (s : State) : Option State :=
  match s.air.preemption with
  | none => some s
  | some p =>
    let t := { s with air := { s.air with preemption := none } }
    let r := match t.air.watch.deferred? with
      | some w => if t.postStands w then t.restoreByCut p w else (t.putWatch .disarmed).giveBack p
      | none => t.giveBack p
    r.map State.compute

/-! ### The end of a carriage (R160 to R163) -/

/-- A record leaves ON_AIR for WAITING, or for PENDING where its valid-from lies ahead (R130), with an eligibility and a
next-eligible instant (R161). -/
def State.waitAgain (s : State) (k : Fin 8) (a : Alert) (e : Eligibility) (next : Option Nat) : State :=
  if s.clock.station < a.frame.validFrom then
    (s.putAlert k (some { a with state := .pending })).putSched k SchedEntry.clear
  else
    (s.putAlert k (some { a with state := .waiting, nextEligible := next })).putSched k
      { SchedEntry.clear with eligibility := e }

/-- A record leaves ON_AIR and is ELIGIBLE at once, or PENDING where its valid-from lies ahead (R161, R130). -/
def State.eligibleAgain (s : State) (k : Fin 8) (a : Alert) : Option State :=
  if s.clock.station < a.frame.validFrom then
    some ((s.putAlert k (some { a with state := .pending })).putSched k SchedEntry.clear)
  else (s.putAlert k (some a)).makeEligible k false

/-- A record judged at the end of its carriage by the first row of R161 that applies. -/
def State.judge (s : State) (c : Carriage) (reason : EndReason) : Option State :=
  match s.alert? c.slot with
  | none => some s
  | some a0 =>
    let a := { a0 with revisionOnAir := none }
    if c.revision ≠ a.frame.revision then s.eligibleAgain c.slot a
    else
      match reason with
      | .ended =>
        if c.linkLost then
          if s.site.link = .up then s.eligibleAgain c.slot a else some (s.waitAgain c.slot a .linkWait none)
        else
          let b := { a with carried := a.carried + 1 }
          if b.frame.required ≤ b.carried then
            some ((s.putAlert c.slot (some { b with state := .carried })).putSched c.slot SchedEntry.clear)
          else some (s.waitAgain c.slot b .deferred (some (s.clock.station + b.frame.interval * 60000)))
      | .fail | .guard =>
        let b := { a with failed := a.failed + 1 }
        if 3 ≤ b.failed then
          some (((s.putAlert c.slot (some { b with state := .failed })).putSched c.slot SchedEntry.clear).raise
            .alertFailed (some (.alertFailed b.frame.origin b.frame.number)))
        else some (s.waitAgain c.slot b .deferred (some (s.clock.station + 30000)))
      | .retired => some s

/-- Whether a carriage counts (R161). -/
def State.carriageCounts (s : State) (c : Carriage) (reason : EndReason) : Bool :=
  decide (reason = .ended) && !c.linkLost &&
    (match s.alert? c.slot with | some a => decide (c.revision = a.frame.revision) | none => false)

/-- A break carriage's end reported to the sequencer (R163, step 2): the ALERT entry is released with outcome COMPLETE,
then a deferred post cut is made, or the head is taken. -/
def State.breakEnd (s : State) : Option State :=
  match s.air.onAir with
  | none => some s
  | some _ =>
    match s.air.watch.deferred? with
    | none => s.endOnAir .complete
    | some _ =>
      let t := s.endRecord .complete
      match t.air.watch.deferred? with
      | some w => if t.postStands w then t.postCut w else (t.putWatch .disarmed).takeHead (.boundary false)
      | none => t.takeHead (.boundary false)

/-- The restore notice with its last-caller test (R123). -/
def State.giveRestore (s : State) : Option State :=
  if s.lines.alertHold then s.restoreNotice.testLastCaller else some s

/-- Callers and the flag (R163, step 3): while the carriage record is IDLE, the restore notice, and then ALERT_FLAG OFF. -/
def State.afterRun (s : State) : Option State :=
  if s.sched.carriage.isSome then some s
  else s.giveRestore.map fun t => if t.sched.carriage.isSome then t else t.writeDesired .alertFlag 0

/-- What follows the end of a carriage (R163). -/
def State.followCarriage (s : State) (way : Way) : Option State :=
  if s.candidates.isEmpty then
    (match way with
    | .immediate => s.restoreAir
    | .break | .operator => s.breakEnd).bind State.afterRun
  else some s.offer

/-- The end of the carriage in progress (R160). -/
def State.endCarriage (s : State) (reason : EndReason) : Option State :=
  match s.sched.carriage with
  | none => some s
  | some c =>
    let s1 := if reason = .guard ∨ reason = .retired then s.sendAlert .stop else s
    let counted := s.carriageCounts c reason
    let note : CarriageNote :=
      { origin := c.origin, number := c.number, revision := c.revision, way := c.way, startStation := c.startStation,
        duration := s.clock.mono - c.startMono, reason, counted }
    let s2 := { s1 with sched := { s1.sched with lastNote := some note, carriage := none } }
    let judged := if reason = .retired then some s2 else s2.judge c reason
    judged.bind fun s3 =>
      (s3.raise .alertEnded (some (.alertEnded c.origin c.number reason counted))).followCarriage c.way

/-! ### Retirement (R137) -/

/-- A record retired (R137): the scheduler's part first, then the last retirement note, then the empty slot. -/
def State.retire (s : State) (k : Fin 8) (reason : Retirement) : Option State :=
  match s.alert? k with
  | none => some s
  | some a =>
    let cleared := if a.state = .onAir then s.endCarriage .retired else some (s.clearEntry k)
    cleared.map fun t =>
      let u := t.putAlert k none
      { u with receiver := { u.receiver with
          lastRetirement := some { origin := a.frame.origin, number := a.frame.number, revision := a.frame.revision,
                                   reason } } }

end Sys2Proof.Machine
end

