-- ==== Sys2Proof/Machine/ReceiverOps.lean ====
section
/-! DEFINITION. The alert receiver's operations: taking ISSUE, CANCEL, AUDIO_END and AUDIO_FAIL (R132 to R136, R159), the
assembly of decoder frames (R127), and the class action table's writes (R139, R142, R143). -/

namespace Sys2Proof.Machine

/-! ### ISSUE and CANCEL -/

/-- An ISSUE with a field out of range (R132). -/
def issueMalformed (f : IssueFrame) : Bool :=
  decide (63 < f.origin) || decide (127 < f.cls) || decide (Config.stationModulus ≤ f.validFrom) ||
  decide (Config.stationModulus ≤ f.expires) || decide (f.declared = 0) || decide (300 < f.declared) ||
  decide (f.required = 0) || decide (4 < f.required) || decide (f.interval = 0) || decide (120 < f.interval) ||
  decide (1 < f.test)

/-- A validity that has lapsed or is empty (R133, step 2). -/
def issueLapsed (f : IssueFrame) (now : Nat) : Bool := decide (f.expires ≤ f.validFrom) || decide (f.expires ≤ now)

/-- A RECEIPT joins the outgoing queue (R128). -/
def State.receipt (s : State) (origin number revision : Nat) (r : ReceiptResult) : State :=
  s.sendAlert (.receipt origin number revision r)

/-- Whether slot `a` goes before slot `b` as the record to evict: lower rank, then earlier stored-at, then the lower slot
(R134). -/
def evictsBefore (a b : Fin 8 × Alert) : Bool :=
  if a.2.rank ≠ b.2.rank then decide (a.2.rank < b.2.rank)
  else if a.2.storedAt ≠ b.2.storedAt then decide (a.2.storedAt < b.2.storedAt)
  else decide (a.1 < b.1)

/-- The candidates of R134: the records not in ON_AIR of rank strictly below a new alert's. -/
def State.evictable (s : State) (rank : Nat) : List (Fin 8 × Alert) :=
  allSlots.filterMap fun k =>
    match s.alert? k with
    | some a => if a.state ≠ .onAir ∧ a.rank < rank then some (k, a) else none
    | none => none

/-- The record to evict for a new alert of a rank (R134). -/
def State.victim (s : State) (rank : Nat) : Option (Fin 8) :=
  match s.evictable rank with
  | [] => none
  | c :: rest => some (rest.foldl (fun best x => if evictsBefore x best then x else best) c).1

/-- The lowest-numbered empty slot (R129). -/
def State.emptySlot (s : State) : Option (Fin 8) := allSlots.find? fun k => (s.alert? k).isNone

/-- A new alert stored in an empty slot, answered, raised and noticed (R133, steps 4 and 5). -/
def State.storeAlert (s : State) (k : Fin 8) (f : IssueFrame) : Option State :=
  let rank := s.rankFor f false
  let a : Alert :=
    { frame := f, state := .pending, carried := 0, failed := 0, rank, operatorCarry := false,
      storedAt := s.clock.mono, waitingSince := none, nextEligible := none, revisionOnAir := none }
  let t := (s.putAlert k (some a)).receipt f.origin f.number f.revision .accepted
  let t := (t.raise .alertReceived (some (.alertReceived f.origin f.number rank))).putSched k SchedEntry.clear
  if f.validFrom ≤ s.clock.station then t.makeEligible k true else some t

/-- An ISSUE of a new alert (R133, R134). -/
def State.newAlert (s : State) (f : IssueFrame) : Option State :=
  if (s.classEntry f.cls).action = .ignore then some (s.receipt f.origin f.number f.revision .ignored)
  else if issueLapsed f s.clock.station then some (s.receipt f.origin f.number f.revision .expired)
  else
    match s.emptySlot with
    | some k => s.storeAlert k f
    | none =>
      match s.victim (s.rankFor f false) with
      | some k => (s.retire k .evicted).bind fun t => t.storeAlert k f
      | none => some (s.receipt f.origin f.number f.revision .full)

/-- A record revised (R135): every frame field is replaced, the counts, the operator carry flag and next-eligible are
cleared and the rank computed afresh; a record on air stays there, any other waits for its valid-from. The receipt joins
the outgoing queue before the PLAY of a carriage that the valid notice starts (DESIGN CHOICE, log entry 71). -/
def State.revise (s : State) (k : Fin 8) (a : Alert) (f : IssueFrame) : Option State :=
  let rank := s.rankFor f false
  let b : Alert :=
    { a with frame := f, carried := 0, failed := 0, rank, operatorCarry := false, nextEligible := none,
             state := if a.state = .onAir then .onAir else .pending }
  let t := (s.putAlert k (some b)).receipt f.origin f.number f.revision .accepted
  let t := t.raise .alertReceived (some (.alertReceived f.origin f.number rank))
  if a.state = .onAir then some t
  else
    let t := t.clearEntry k
    if f.validFrom ≤ s.clock.station then t.makeEligible k true else some t

/-- An ISSUE of a known alert, by its revision (R135). Where a lapsed revision retires a record that is ON_AIR, STOP joins
the outgoing queue before the receipt (DESIGN CHOICE, log entry 71). -/
def State.knownAlert (s : State) (k : Fin 8) (a : Alert) (f : IssueFrame) : Option State :=
  if f.revision = a.frame.revision then some (s.receipt f.origin f.number a.frame.revision .duplicate)
  else if f.revision < a.frame.revision then some (s.receipt f.origin f.number a.frame.revision .staleRevision)
  else if issueLapsed f s.clock.station then
    (s.retire k .expired).map fun t => t.receipt f.origin f.number f.revision .expired
  else s.revise k a f

/-- An ISSUE taken (R132, R133, R135). -/
def State.takeIssue (s : State) (f : IssueFrame) : Option State :=
  if issueMalformed f then some (s.receipt f.origin f.number f.revision .malformed)
  else
    match s.slotOf f.origin f.number with
    | none => s.newAlert f
    | some k => match s.alert? k with
      | some a => s.knownAlert k a f
      | none => s.newAlert f

/-- A CANCEL taken (R132, R136). Where it retires a record that is ON_AIR, STOP, and the PLAY of an alert that follows at
once, join the outgoing queue before the receipt (DESIGN CHOICE, log entry 71). -/
def State.takeCancel (s : State) (origin number : Nat) : Option State :=
  if 63 < origin then some (s.receipt origin number 0 .malformed)
  else
    match s.slotOf origin number with
    | none => some (s.receipt origin number 0 .unknown)
    | some k => match s.alert? k with
      | some a => (s.retire k .cancelled).map fun t => t.receipt origin number a.frame.revision .cancelled
      | none => some (s.receipt origin number 0 .unknown)

/-- The decoder's report of its audio's end: it ends the carriage that is ACTIVE with play sent set, and is ignored
otherwise (R159). -/
def State.takeAudio (s : State) (reason : EndReason) : Option State :=
  match s.sched.carriage with
  | some c => if c.playSent then s.endCarriage reason else some s
  | none => some s

/-- A decoder frame taken and handled as its kind requires (R127). -/
def State.takeAlertFrame (s : State) : Instr → Option State
  | .issue f => s.takeIssue f
  | .cancel origin number => s.takeCancel origin number
  | .audioEnd => s.takeAudio .ended
  | .audioFail => s.takeAudio .fail
  | _ => some s

/-! ### The assembly of frames (R127) -/

/-- The state with the frame being received on the alert port written. -/
def State.putAlertOpen (s : State) (f : Option OpenFrame) : State :=
  { s with receiver := { s.receiver with opened := f } }

/-- A frame abandoned: it is discarded and the discard count rises, up to 65,535 (R127). -/
def State.abandonAlert (s : State) : State :=
  { s with receiver := { s.receiver with opened := none, discards := countUp 65535 s.receiver.discards } }

/-- What the bytes of a frame so far come to: it goes on, it is abandoned, or it is complete with a command. -/
inductive FrameProgress where
  | more | abandoned
  | complete (i : Option Instr)
deriving DecidableEq, Repr

/-- The progress of a decoder frame's bytes, its start byte first (R127, R199, R204). -/
def alertProgress (bytes : List Byte) : FrameProgress :=
  match bytes with
  | _ :: kind :: rest =>
    match alertLength kind.toNat with
    | none => .abandoned
    | some n =>
      match rest with
      | [] => .more
      | len :: body =>
        if len.toNat ≠ n then .abandoned
        else if body.length < n + 2 then .more
        else if beNat (body.drop n) = crc (kind :: len :: body.take n) then
          .complete (decodeAlert kind.toNat (body.take n))
        else .abandoned
  | _ => .more

/-- A byte with no frame open: a start byte opens one, any other is dropped (R127). -/
def State.alertStart (s : State) (b : Byte) : State :=
  if b = 0xA7#8 then s.putAlertOpen (some { bytes := [b], lastAt := s.clock.mono }) else s

/-- Whether a gap of more than 50 ms has passed since an open frame's last byte (R127, R168). -/
def OpenFrame.gapped (f : OpenFrame) (now : Nat) : Bool := decide (50 < now - f.lastAt)

/-- One byte received on the alert port (R127). -/
def State.alertByte (b : Byte) (s : State) : Option State :=
  match s.receiver.opened with
  | none => some (s.alertStart b)
  | some f =>
    if f.gapped s.clock.mono then some (s.abandonAlert.alertStart b)
    else
      match alertProgress (f.bytes ++ [b]) with
      | .more => some (s.putAlertOpen (some { bytes := f.bytes ++ [b], lastAt := s.clock.mono }))
      | .abandoned => some s.abandonAlert
      | .complete (some i) => (s.putAlertOpen none).takeAlertFrame i
      | .complete none => some s.abandonAlert

/-! ### The class action table (R138 to R143) -/

/-- The action of a code; any code but the five is HOLD_FOR_OPERATOR (R139, step 1). -/
def actionOf : Nat → ClassAction
  | 1 => .mandatoryNow
  | 2 => .mandatoryBreak
  | 3 => .voluntaryBreak
  | 4 => .holdForOperator
  | 5 => .ignore
  | _ => .holdForOperator

/-- The floor of a required class (R139, step 4). -/
def floorAction (required : Bool) (a : ClassAction) : ClassAction :=
  match required, a with
  | true, .voluntaryBreak => .mandatoryBreak
  | true, .holdForOperator => .mandatoryBreak
  | true, .ignore => .mandatoryBreak
  | _, a => a

/-- A class entry as a CLASS_WRITE stores it (R139, R142). -/
def settleClass (lock : Bool) (e : ClassEntry) (action deadline required : Nat) : ClassEntry :=
  let d := min deadline 900
  let req := decide (required ≠ 0) || (lock && e.required)
  let act := floorAction req (actionOf action)
  if lock then
    match e.ceiling with
    | some c => { action := act, deadline := if c < d then e.deadline else d, required := req, ceiling := some c }
    | none => { action := act, deadline := d, required := req, ceiling := if req then some d else none }
  else { action := act, deadline := d, required := req, ceiling := e.ceiling }

/-- The state with a class entry written. -/
def State.putClass (s : State) (c : Nat) (e : ClassEntry) : State :=
  { s with receiver := { s.receiver with classes := tablePut ClassEntry.fresh s.receiver.classes c e } }

/-- The records of a class ranked afresh, in slot order, each noticed as its rank changes (R143). -/
def State.rerankClass (s : State) (c : Nat) : Option State :=
  foldSteps (fun k t => if (t.alert? k).any (fun a => a.frame.cls = c) then t.rerank k else some t) allSlots s

/-- The running deadlines of a class's records that a write of the class's deadline has moved to or before the present
moment, expired at once (R155). -/
def State.expireMoved (c : Nat) (s : State) : State :=
  allSlots.foldl
    (fun t k => if (t.alert? k).any (fun a => a.frame.cls = c) && t.deadlineDue k then t.expireDeadline k else t) s

/-- A class entry written, with what follows from it: a changed action ranks the class's records afresh, and a changed
deadline may expire theirs; an entry already held changes nothing (R139, R143, R155). Where one write changes both, the
ranks and the offers they bring come first (DESIGN CHOICE, log entry 64). -/
def State.writeClass (s : State) (c : Nat) (e : ClassEntry) : Option State :=
  let old := s.classEntry c
  if old = e then some s
  else
    let t := s.putClass c e
    let ranked := if old.action = e.action then some t else t.rerankClass c
    if old.deadline = e.deadline then ranked else ranked.map (State.expireMoved c)

/-- COMPLIANCE_LOCK's sweep: the class numbers of the required entries, which take their deadline as ceiling (R141).
Entries at their power-on value are not required. -/
def lockClasses (t : List (Nat × ClassEntry)) : List (Nat × ClassEntry) :=
  t.map fun e => if e.2.required then (e.1, { e.2 with ceiling := some e.2.deadline }) else e

end Sys2Proof.Machine
end

