-- ==== Sys2Proof/Machine/SentFrames.lean ====
section
/-! DEFINITION. The frames that the part sends, as bytes: the check placed after the covered bytes (R199), and the layouts
of RECEIPT, PLAY and STOP on the alert port (R204) and of SET, POLL and KEEP on the site link (R205). -/

namespace Sys2Proof.Machine

/-- A frame as it is sent: its start byte or marker, the covered bytes and their check, high byte first (R199). -/
def sentFrame (start : Byte) (covered : List Byte) : List Byte := [start] ++ covered ++ be 2 (crc covered)

/-- A payload after its length byte (R204, R205). -/
def counted (payload : List Byte) : List Byte := be 1 payload.length ++ payload

/-! ### The alert port (R204) -/

/-- The number of a receipt's result, in the order of the receipt table (R128, R204). -/
def ReceiptResult.code : ReceiptResult → Nat
  | .accepted => 1 | .ignored => 2 | .expired => 3 | .full => 4 | .duplicate => 5 | .staleRevision => 6
  | .malformed => 7 | .cancelled => 8 | .unknown => 9

/-- The kind of a frame sent to the decoder (R204). -/
def AlertFrame.kind : AlertFrame → Byte
  | .receipt _ _ _ _ => 0x81#8
  | .play _ _ _ => 0x82#8
  | .stop => 0x83#8

/-- The payload of a frame sent to the decoder (R204). -/
def AlertFrame.payload : AlertFrame → List Byte
  | .receipt origin number revision result => be 1 origin ++ be 2 number ++ be 1 revision ++ be 1 result.code
  | .play origin number _ => be 1 origin ++ be 2 number
  | .stop => []

/-- A frame sent to the decoder: A7h, the kind, the length, the payload and the check (R204). -/
def AlertFrame.bytes (f : AlertFrame) : List Byte := sentFrame 0xA7#8 (f.kind :: counted f.payload)

/-! ### The site link (R205) -/

/-- The sequence of a frame sent to the site (R169). -/
def SiteFrame.sequence : SiteFrame → Nat
  | .set n _ _ => n
  | .poll n _ => n
  | .keep n _ _ => n

/-- The kind of a frame sent to the site (R205). -/
def SiteFrame.kind : SiteFrame → Byte
  | .set _ _ _ => 0x11#8
  | .poll _ _ => 0x12#8
  | .keep _ _ _ => 0x13#8

/-- The payload of a frame sent to the site, parameters and channels numbered from 1 (R205). -/
def SiteFrame.payload : SiteFrame → List Byte
  | .set _ param value => be 1 ((paramIndex param).val + 1) ++ be 2 value
  | .poll _ channel => be 1 (channel.val + 1)
  | .keep _ alertOnAir programmePresent => be 1 alertOnAir.toNat ++ be 1 programmePresent.toNat

/-- A frame sent to the site: C3h, the kind, the sequence, the length, the payload and the check (R205). -/
def SiteFrame.bytes (f : SiteFrame) : List Byte :=
  sentFrame 0xC3#8 (f.kind :: (be 1 f.sequence ++ counted f.payload))

end Sys2Proof.Machine
end

