-- ==== Sys2Proof/Machine/SiteFrames.lean ====
section
/-! DEFINITION. The site-link unit's handling of frames: ACK, NAK, READING and STATE (R174 to R177), resynchronisation
(R179), changeover (R180), telemetry and fold-back (R181 to R183), timeouts (R176), and the assembly of frames (R168). -/

namespace Sys2Proof.Machine

/-! ### ACK and NAK -/

/-- An ACK handled (R174, R180): one that does not answer a SET of its parameter in flight is ignored (R168), also where
its parameter's record is UNCONFIRMED, which R176 has an ACK settle (DEDUCED, log entry 72). -/
def State.handleAck (s : State) (sequence param value : Nat) : State :=
  match s.inFlight? sequence with
  | none => s
  | some e => match e.target with
    | .poll _ => s
    | .set p sent power =>
      if readParam param = some p then
        let t := ((s.dropInFlight sequence).takeApplied p value power).settleAck p sent value power
        if p = .txSelect then (t.startChangeover value).retestPower else t
      else s

/-- The reason of a NAK; one outside 1..3 is taken as BUSY (R206). -/
def nakReason : Nat → SiteRefusal
  | 1 => .range
  | 2 => .interlock
  | _ => .busy

/-- A NAK handled (R175). -/
def State.handleNak (s : State) (sequence reason : Nat) : State :=
  match s.inFlight? sequence with
  | none => s
  | some e => match e.target with
    | .poll _ => s.dropInFlight sequence
    | .set p sent _ =>
      let t := (s.dropInFlight sequence).siteRefused p (nakReason reason)
      if (t.param p).desired = some sent then t.putParam p { t.param p with state := .refused } else t.resend p

/-! ### Readings and fold-back -/

/-- The value of a channel's code (R181). -/
def readingValue (c : Fin 8) (code : Nat) : Int :=
  match c with
  | 0 => (code * 1250 / 65535 : Nat)
  | 1 => (code * 125 / 65535 : Nat)
  | 2 => (code * 1500 / 65535 : Nat)
  | 3 => (code * 600 / 65535 : Nat)
  | 4 => ((code * 100 / 65535 : Nat) : Int) - 100
  | 5 => if 32768 ≤ code then 1 else 0
  | 6 => if 32768 ≤ code then 1 else 0
  | 7 => code

/-- The state with a reading record written. -/
def State.putReading (s : State) (c : Fin 8) (r : Reading) : State :=
  { s with site := { s.site with readings := s.site.readings.set c r } }

/-- The outcome of the fold-back test; none where it is not made (R183). -/
def State.foldTest (s : State) : Option Bool :=
  let f := s.site.readings[(0 : Fin 8)]
  let r := s.site.readings[(1 : Fin 8)]
  match f.state, r.state, f.value, r.value, f.takenAt, r.takenAt with
  | .valid, .valid, some fwd, some refl, some a, some b =>
    if a - b ≤ 2000 ∧ b - a ≤ 2000 then some (decide (fwd * s.site.foldLimit < refl * 100)) else none
  | _, _, _, _, _, _ => none

/-- The unit folds back (R183): POWER's desired value is halved down to 10 W, or CARRIER goes OFF. The table is
filled at the end of the frame that brought the reading (R179, step 5). -/
def State.foldBack (s : State) : State :=
  let t := { s with site := { s.site with foldActive := true, strikes := 0 } }
  match (s.param .power).desired with
  | some v =>
    if 10 < v then
      (t.desire .power (max (v / 2) 10)).raise .foldback (some (.foldback (some (max (v / 2) 10))))
    else (t.desire .carrier 0).raise .foldback (some (.foldback none))
  | none => (t.desire .carrier 0).raise .foldback (some (.foldback none))

/-- The fold-back test made at a reading of FWD_POWER or REFL_POWER (R183). -/
def State.foldCheck (s : State) : State :=
  match s.foldTest with
  | none => s
  | some false => { s with site := { s.site with strikes := 0 } }
  | some true => if s.site.strikes = 0 then { s with site := { s.site with strikes := 1 } } else s.foldBack

/-- A READING handled (R181 to R183). -/
def State.handleReading (s : State) (sequence channel code : Nat) : State :=
  match s.inFlight? sequence with
  | none => s
  | some e => match e.target with
    | .set _ _ _ => s
    | .poll c =>
      if readIndex 8 channel = some c then
        let t := (s.dropInFlight sequence).putReading c
          { state := .valid, value := some (readingValue c code), takenAt := some s.clock.mono }
        if c.val ≤ 1 then t.foldCheck else t
      else s

/-! ### STATE -/

/-- A two-valued STATE field; outside 0..1 it is unknown (R206). -/
def twoValued (v : Nat) : Option Nat := if v ≤ 1 then some v else none

/-- A confirmed value written from the site's own report, and the record acting on it (R177). -/
def State.reportParam (s : State) (p : Param) (v : Option Nat) : State :=
  let t := (s.putConfirmed p v).actOnReport p
  if p = .txSelect then t.retestPower else t

/-- The three confirmed values that a STATE frame writes (R177). -/
def State.writeReport (s : State) (r : SiteReport) : State :=
  ((s.reportParam .txSelect r.active).reportParam .carrier (some (if r.carrierUp then 1 else 0))).reportParam
    .siteAudio r.audio

/-- A STATE frame handled (R177, R180): while a changeover is in progress it writes SITE_AUDIO alone, and one that shows
the target with carrier up completes the changeover first. -/
def State.handleState (s : State) (active carrier audio fallback : Nat) : State :=
  let r : SiteReport :=
    { active := twoValued active, carrierUp := decide (carrier ≠ 0), audio := twoValued audio,
      fallback := decide (fallback ≠ 0), takenAt := s.clock.mono }
  let t := { s with site := { s.site with report := some r, reportSinceReset := true } }
  match s.site.changeover with
  | none => t.writeReport r
  | some c =>
    if r.active = some c.target ∧ r.carrierUp = true then
      { t with site := { t.site with
          changeover := none, lastChangeover := some (s.clock.mono - c.startedAt) } }.writeReport r
    else
      { t with site := { t.site with changeover := some { c with seen := true } } }.reportParam .siteAudio r.audio

/-- A changeover that fails (R180). -/
def State.failChangeover (s : State) (c : Changeover) : State :=
  let t := { s with site := { s.site with changeover := none } }.raise .changeoverFailed
    (some (.changeoverFailed c.target))
  let last := if c.seen then s.site.report else none
  let t := t.putParam .txSelect { t.param .txSelect with
    state := .refused, refusal := some .changeover, retryAt := none, confirmed := last.bind SiteReport.active }
  let t := t.putConfirmed .carrier (last.map fun r => if r.carrierUp then 1 else 0)
  ((t.actOnReport .carrier).retestPower).fillTable

/-! ### Valid frames and the link (R168, R178, R179) -/

/-- Every UNCONFIRMED record becomes DIRTY and its retry timer stops (R179, step 3). -/
def State.retryUnconfirmed (s : State) : State :=
  allParams.foldl (fun t p =>
    if (t.param p).state = .unconfirmed then t.putParam p { t.param p with state := .dirty, retryAt := none } else t) s

/-- A valid frame taken and handled as its kind requires (R168, R178, R179): the silence timer restarts, the link is UP,
a link that was LOST is resynchronised, a link that was not UP is told to the scheduler, and the table is filled. In
DEGRADED the order of R179's steps is taken (DEDUCED, log entry 58). -/
def State.validFrame (s : State) (handle : State → State) : Option State :=
  let now := s.clock.mono
  let t := handle { s with site := { s.site with silenceFrom := some now, lastValidAt := some now, link := .up } }
  let told := match s.site.link with
    | .up => some t
    | .degraded => t.linkUp
    | .lost => t.retryUnconfirmed.linkUp
  told.map State.fillTable

/-- A site frame taken as its kind requires. -/
def State.takeSiteFrame (s : State) : Instr → Option State
  | .ack sequence param value => s.validFrame fun t => t.handleAck sequence param value
  | .nak sequence reason => s.validFrame fun t => t.handleNak sequence reason
  | .reading sequence channel code => s.validFrame fun t => t.handleReading sequence channel code
  | .siteState active carrier audio fallback => s.validFrame fun t => t.handleState active carrier audio fallback
  | _ => some s

/-! ### The assembly of frames (R168) -/

/-- The state with the frame being received on the site port written. -/
def State.putSiteOpen (s : State) (f : Option OpenFrame) : State := { s with site := { s.site with opened := f } }

/-- A frame abandoned: it is discarded and the site discard count rises, up to 65,535 (R168). -/
def State.abandonSite (s : State) : State :=
  { s with site := { s.site with opened := none, discards := countUp 65535 s.site.discards } }

/-- The progress of a site frame's bytes, its start byte first (R168, R199, R205). -/
def siteProgress (bytes : List Byte) : FrameProgress :=
  match bytes with
  | _ :: kind :: rest =>
    match siteLength kind.toNat with
    | none => .abandoned
    | some n =>
      match rest with
      | sequence :: len :: body =>
        if len.toNat ≠ n then .abandoned
        else if body.length < n + 2 then .more
        else if beNat (body.drop n) = crc (kind :: sequence :: len :: body.take n) then
          .complete (decodeSite kind.toNat sequence.toNat (body.take n))
        else .abandoned
      | _ => .more
  | _ => .more

/-- A byte with no frame open: a start byte opens one, any other is dropped (R168). -/
def State.siteStart (s : State) (b : Byte) : State :=
  if b = 0xC3#8 then s.putSiteOpen (some { bytes := [b], lastAt := s.clock.mono }) else s

/-- One byte received on the site port (R168). -/
def State.siteByte (b : Byte) (s : State) : Option State :=
  match s.site.opened with
  | none => some (s.siteStart b)
  | some f =>
    if f.gapped s.clock.mono then some (s.abandonSite.siteStart b)
    else
      match siteProgress (f.bytes ++ [b]) with
      | .more => some (s.putSiteOpen (some { bytes := f.bytes ++ [b], lastAt := s.clock.mono }))
      | .abandoned => some s.abandonSite
      | .complete (some i) => (s.putSiteOpen none).takeSiteFrame i
      | .complete none => some s.abandonSite

/-! ### Timeouts and the outgoing queue (R169, R173, R176) -/

/-- The frame of an entry in flight, with its own sequence and content (R176). -/
def InFlight.frame (e : InFlight) : SiteFrame :=
  match e.target with
  | .set p v none => .set e.sequence p v
  | .set p _ (some (code, _)) => .set e.sequence p code
  | .poll c => .poll e.sequence c

/-- Whether a frame is answered, so that its entry in flight takes a send time (R169, R173). -/
def SiteFrame.answered : SiteFrame → Bool
  | .set _ _ _ => true
  | .poll _ _ => true
  | .keep _ _ _ => false

/-- The last byte of the frame at the head of the outgoing queue has left: the port has sent that frame's bytes, and its
entry in flight takes the send time (R169, R173, R205). -/
def State.siteSent (s : State) : State :=
  match s.site.outgoing with
  | [] => s
  | f :: rest =>
    { s with site := { s.site with
        outgoing := rest
        lastSent := f.bytes
        inFlight := s.site.inFlight.map fun e =>
          if f.answered ∧ e.sequence = f.sequence ∧ e.sentAt = none then { e with sentAt := some s.clock.mono }
          else e } }

/-- An entry whose acknowledgement timeout has expired with tries below 3 is sent again (R176). -/
def State.sendAgain (s : State) (e : InFlight) : State :=
  { s with site := { s.site with
      outgoing := s.site.outgoing ++ [e.frame]
      inFlight := s.site.inFlight.map fun x =>
        if x.sequence = e.sequence then { x with tries := x.tries + 1, sentAt := none } else x } }

/-- An entry given up at its third timeout (R176). -/
def State.giveUp (s : State) (e : InFlight) : State :=
  let t := s.dropInFlight e.sequence
  match e.target with
  | .poll c => t.putReading c { t.site.readings[c] with state := .none }
  | .set p sent _ =>
    let u := t.raise .setUnconfirmed (some (.setUnconfirmed p))
    if (u.param p).desired = some sent then
      u.putParam p { u.param p with state := .unconfirmed, retryAt := some (u.clock.mono + 30000) }
    else u.resend p

/-- Whether an entry's acknowledgement timeout has come (R176). -/
def InFlight.timedOut (e : InFlight) (now : Nat) : Bool :=
  match e.sentAt with
  | some t => decide (t + 400 ≤ now)
  | none => false

/-- The next channel in the table's order after the last one made due (R181). -/
def Site.nextChannel (x : Site) : Fin 8 :=
  match x.lastChannel with
  | none => 0
  | some c => c + 1

/-- A KEEP produced (R169). -/
def State.sendKeep (s : State) : State :=
  let present := decide (s.bus.monitor.state = .sound) || decide (s.bus.monitor.state = .quiet)
  s.produce fun n => .keep n s.alertOnAir present

end Sys2Proof.Machine
end

