-- ==== Sys2Proof/Machine/Wire.lean ====
section
/-! DEFINITION. The field bytes of responses (R198, R202, R203): the fields in the order in which the owner's rule lists
them, each at the width of R198. Enumerated fields are numbered from 1 in the order of their own tables, 0 for absent. A
value or record that may be absent and is not enumerated has a yes/no byte before it, and a sequence of varying length a
count byte (log entry 8). -/

namespace Sys2Proof.Machine

/-! ### Primitive fields -/

/-- A yes/no field (R198). -/
def flagB (b : Bool) : List Byte := be 1 (if b then 1 else 0)

/-- A value that may be absent. -/
def optB {α : Type} (f : α → List Byte) : Option α → List Byte
  | none => flagB false
  | some a => flagB true ++ f a

/-- A sequence of varying length. -/
def listB {α : Type} (f : α → List Byte) (l : List α) : List Byte := be 1 l.length ++ l.flatMap f

/-- An enumerated field that may be absent. -/
def codeB {α : Type} (f : α → Nat) : Option α → List Byte
  | none => be 1 0
  | some a => be 1 (f a)

/-- The number of an index counted from 1. -/
def numberOf {n : Nat} (i : Fin n) : Nat := i.val + 1

/-- A handle (R198). -/
def handleB (h : Nat) : List Byte := be 2 h

/-- A station time or a monotonic time (R198). -/
def timeB (t : Nat) : List Byte := be 6 t

/-- A duration in ms (R198). -/
def msB (d : Nat) : List Byte := be 4 d

/-- The ms until an instant; 0 once it has come. -/
def untilB (now t : Nat) : List Byte := msB (t - now)

/-! ### The running order (R202) -/

def timingCode : Timing → Nat
  | .fixed => 1
  | .stretch _ _ => 2
  | .drop => 3

def stretchBounds : Timing → Nat × Nat
  | .stretch lo hi => (lo, hi)
  | .fixed => (0, 0)
  | .drop => (0, 0)

def endActionCode : EndAction → Nat
  | .hold => 1
  | .release => 2

/-- The post of an item as its time of day and post kind; 0 and 0 for no post (R202). -/
def postFields : Option Post → Nat × Nat
  | none => (0, 0)
  | some p => (p.timeOfDay, match p.kind with | .exact => 1 | .nearest => 2)

def boolNat (b : Bool) : Nat := if b then 1 else 0

/-- An entry body with every field absent but the list and the kind. -/
def bareEntry (list kind : Nat) : RawEntry :=
  { list, kind, cart := 0, planned := 0, segue := 0, timing := 0, stretchMin := 0, stretchMax := 0, postTime := 0,
    postKind := 0, waitForGo := 0, breakAfter := 0, oneShot := 0, timed := 0, cueStart := 0, spanCount := 0,
    breakNumber := 0, callers := 0, endAction := 0, endOnLast := 0 }

/-- The item fields put into an entry body. -/
def withItem (e : RawEntry) (i : ItemFields) : RawEntry :=
  { e with
    planned := i.planned, timing := timingCode i.timing, stretchMin := (stretchBounds i.timing).1,
    stretchMax := (stretchBounds i.timing).2, postTime := (postFields i.post).1, postKind := (postFields i.post).2,
    waitForGo := boolNat i.waitForGo, breakAfter := boolNat i.breakAfter, oneShot := boolNat i.oneShot }

/-- The entry body of a stored entry: a field that it does not carry is 0 (R202). -/
def rawOf (list : Nat) (b : Body) : RawEntry :=
  let e := bareEntry list b.kindCode
  match b with
  | .audio _ cart segue item => { withItem e item with cart, segue }
  | .live timed item => { withItem e item with timed := boolNat timed }
  | .phone timed part item =>
    { withItem e item with timed := boolNat timed, callers := part.callers, endAction := endActionCode part.endAction,
                           endOnLast := boolNat part.endOnLast }
  | .join timed cueStart item => { withItem e item with timed := boolNat timed, cueStart := boolNat cueStart }
  | .spanStart count => { e with spanCount := count }
  | .call l => { e with breakNumber := l.val }
  | .spanEnd => e
  | .holdPoint => e
  | .endMark => e

/-- The 38 bytes of an entry body (R202). -/
def bodyB (l : ListId) (b : Body) : List Byte := packFields (entryWidths.zip (rawOf l.val b).toFields)

/-- Where an entry stands: its position in its list and its neighbours' handles (R16). -/
def neighbours (st : Store) (h : Nat) (l : ListId) : List Byte :=
  be 2 (placeIn h (st.order l) 1) ++ handleB (beforeIn h 0 (st.order l)) ++ handleB (followerIn h (st.order l))

/-- The 46 bytes of an RO_READ response (R16, R202). -/
def readB (st : Store) (h : Nat) (e : Entry) : List Byte := handleB h ++ bodyB e.list e.body ++ neighbours st h e.list

/-- The entries of a list from a start handle on (R17). -/
def listFrom (start : Nat) (l : List Nat) : List Nat :=
  if start = 0 then l else (l.dropWhile (· ≠ start)).drop 1

/-- The fields of an RO_LIST response (R17). -/
def pageB (st : Store) (l : ListId) (start : Nat) : List Byte :=
  let rest := listFrom start (st.order l)
  be 2 (st.order l).length ++ be 2 st.freeCount ++ listB handleB (rest.take 16) ++ flagB (decide (16 < rest.length))

/-! ### Resolved entries, the sequencer and the players -/

/-- The number of a resolved entry's source (R24). -/
def sourceCode : Source → Nat
  | .item _ _ _ => 1
  | .hold _ _ => 2
  | .endMark _ => 3
  | .alert _ => 4

def listB1 (l : ListId) : List Byte := be 1 l.val

/-- A position: form, list, handle (R22). -/
def positionB : Position → List Byte
  | .start l => be 1 1 ++ listB1 l ++ handleB 0
  | .at h l => be 1 2 ++ listB1 l ++ handleB h
  | .after h l => be 1 3 ++ listB1 l ++ handleB h

/-- An alert part (R24). -/
def partB (p : AlertPart) : List Byte :=
  be 1 p.origin ++ be 2 p.number ++ be 1 p.slot.val ++ be 1 p.rank ++ timeB p.waitingSince ++ be 2 p.declared

/-- An iteration's remaining counts (R24). -/
def iterationB (i : List Nat) : List Byte := listB (be 1) i

/-- The planned values of an ITEM entry in the order of R24: kind, cart, planned length, segue, timing class, stretch
bounds, post, wait-for-go, break-after, one-shot, phone part, timed and cue-start (R198). The widths, and 0 at the place
of a field that the kind does not carry, are those of R202's entry body (log entry 8). -/
def plannedB (b : Body) : List Byte :=
  let e := rawOf 0 b
  packFields
    [(1, e.kind), (4, e.cart), (4, e.planned), (4, e.segue), (1, e.timing), (4, e.stretchMin), (4, e.stretchMax),
     (4, e.postTime), (1, e.postKind), (1, e.waitForGo), (1, e.breakAfter), (1, e.oneShot),
     (1, e.callers), (1, e.endAction), (1, e.endOnLast), (1, e.timed), (1, e.cueStart)]

/-- The alert part of a source. -/
def Source.part? : Source → Option AlertPart
  | .alert p => some p
  | _ => none

/-- A lookahead entry with its index (R38). Only an ITEM entry has planned values: an ALERT entry's FIXED and segue 0
(R24) are not sent as such (DESIGN CHOICE, log entry 67). -/
def resolvedB (i : Nat) (r : Resolved) : List Byte :=
  be 1 i ++ be 1 (sourceCode r.source) ++ handleB r.source.handle ++ optB listB1 r.source.list? ++
  iterationB r.iteration ++ codeB Fin.val r.fromBreak ++ flagB r.breakStart ++ optB plannedB r.source.body? ++
  optB partB r.source.part? ++ msB r.effective ++ flagB r.dropMark ++ positionB r.after.pos

def walkFaultCode : WalkFault → Nat
  | .spanUnmatched => 1 | .spanDepth => 2 | .callInBreak => 3 | .breakEmpty => 4 | .spanNoItem => 5 | .staleHandle => 6

/-- The entries of a page with their indices. -/
def numbered (i : Nat) : List Resolved → List (Nat × Resolved)
  | [] => []
  | r :: rest => (i, r) :: numbered (i + 1) rest

/-- The fields of a LOOKAHEAD_READ response (R38). -/
def lookaheadB (s : State) (start : Nat) : List Byte :=
  be 1 s.interp.look.length ++ be 2 s.interp.seqNo ++ flagB s.interp.held ++ positionB s.interp.play.pos ++
  be 1 s.interp.play.stack.length ++ codeB (fun f : CallFrame => f.brk.val) s.interp.play.call ++
  be 1 (s.interp.placement.countP fun q => !q.placed) ++
  optB (fun f : Nat × WalkFault => handleB f.1 ++ be 1 (walkFaultCode f.2)) s.interp.lastFault ++
  listB (fun e : Nat × Resolved => resolvedB e.1 e.2) (numbered start ((s.interp.look.drop start).take 8))

def airStateCode : AirState → Nat
  | .stopped => 1 | .running => 2 | .waitGo => 3 | .held => 4 | .postWait => 5 | .preempted => 6

def modeCode : AirMode → Nat
  | .auto => 1 | .assist => 2

def endingCode : Ending → Nat
  | .complete => 1 | .cut => 2 | .missed => 3 | .dropped => 4

/-- The copied kind of an entry on air; 0 where it has none (R42). -/
def sourceKind (src : Source) : Nat := (src.body?.map Body.kindCode).getD 0

/-- The on-air record (R42). -/
def onAirB (o : OnAir) : List Byte :=
  be 1 (sourceCode o.source) ++ handleB o.source.handle ++ be 1 (sourceKind o.source) ++
  be 1 (match o.phase with | .cueing _ => 1 | .playing _ _ => 2) ++ codeB numberOf o.player ++ msB o.frozen ++
  msB o.segue ++
  (match o.phase with
   | .cueing d => flagB false ++ flagB true ++ timeB d
   | .playing m t => flagB true ++ timeB m ++ timeB t ++ flagB false)

/-- The outgoing record (R42). -/
def outgoingB (o : Outgoing) : List Byte :=
  handleB o.handle ++ be 1 (Body.kindCode (.audio o.kind 0 0
    { planned := 0, timing := .fixed, post := none, waitForGo := false, breakAfter := false, oneShot := false })) ++
  be 1 (numberOf o.player) ++ msB o.frozen ++ timeB o.endsAt

/-- The post watch (R65). -/
def watchB : PostWatch → List Byte
  | .armed w => be 1 1 ++ handleB w.handle ++ timeB w.instant ++ timeB w.cut
  | .disarmed => be 1 2
  | .deferred w => be 1 3 ++ handleB w.handle ++ timeB w.instant ++ timeB w.cut

/-- A player's cue while it holds one (R44). -/
def Player.cue? : Player → Option Cue
  | .empty => none
  | .cued c => some c
  | .onAir c _ => some c
  | .ended c => some c

def Player.code : Player → Nat
  | .empty => 1 | .cued _ => 2 | .onAir _ _ => 3 | .ended _ => 4

/-- A player record (R44). -/
def playerB (p : Player) : List Byte :=
  be 1 p.code ++ optB (fun c : Cue => be 4 c.cart ++ msB c.length) p.cue?

/-- The fields of an AIR_STATUS response (R65). -/
def airStatusB (s : State) : List Byte :=
  be 1 (airStateCode s.air.state) ++ be 1 (modeCode s.air.mode) ++ optB onAirB s.air.onAir ++
  optB outgoingB s.air.outgoing ++ flagB s.air.holdDemand ++ flagB s.air.holdAtPoint ++ flagB s.air.goLatch ++
  watchB s.air.watch ++
  optB (fun e : Nat × Ending => handleB e.1 ++ be 1 (endingCode e.2)) s.air.lastEnding ++
  s.air.players.toList.flatMap playerB ++ codeB numberOf s.air.fillPlayer ++ codeB numberOf s.air.fillPending

/-- The fields of a PLAYER_READ response (R44). -/
def playerReadB (s : State) (p : Fin 4) : List Byte :=
  playerB (s.player p) ++ flagB (decide (s.air.fillPlayer = some p))

/-! ### The timing record (R68) -/

def directionCode : Direction → Nat
  | .none => 1 | .shrink => 2 | .extend => 3

def postKindCode : PostKind → Nat
  | .exact => 1 | .nearest => 2

def timingStateCode : TimingState → Nat
  | .noPost => 1 | .postBeyond => 2 | .computed _ => 3

def TimingState.computed? : TimingState → Option Computed
  | .computed c => some c
  | .noPost => none
  | .postBeyond => none

/-- The fields of a TIMING_READ response (R85, R68). -/
def timingB (r : TimingRecord) : List Byte :=
  let c := r.state.computed?
  be 1 (timingStateCode r.state) ++ be 2 r.seqNo ++ timeB r.t0 ++ msB r.tolerance ++
  optB (fun c : Computed => handleB c.handle ++ iterationB c.iteration ++ be 1 c.index) c ++
  codeB (fun c : Computed => postKindCode c.postKind) c ++ optB (fun c : Computed => msB c.timeOfDay) c ++
  optB (fun c : Computed => timeB c.instant) c ++ optB (fun c : Computed => msB c.remainder) c ++
  optB (fun c : Computed => timeB c.projection) c ++ optB (fun c : Computed => beInt 4 c.float) c ++
  codeB (fun c : Computed => directionCode c.direction) c ++ optB (fun c : Computed => msB c.amount) c ++
  be 1 r.dropCount ++ be 1 r.stretchCount ++ optB (fun c : Computed => beInt 4 c.residual) c

/-! ### The programme bus (R102) -/

def lawCode : GainLaw → Nat
  | .follow => 1 | .fade _ _ _ => 2 | .cut _ _ _ => 3

def monitorCode : MonitorState → Nat
  | .sound => 1 | .quiet => 2 | .dead => 3 | .escalated => 4

/-- A source record with its gain target (R87, R102). Its signed step values, the trim among them, are sent in 2 bytes
(DESIGN CHOICE, log entry 60). -/
def sourceB (s : State) (i : Fin 14) : List Byte :=
  let r := s.source i
  optB (beInt 2) r.fader ++ optB flagB r.micOn ++ beInt 2 r.trim ++ beInt 2 (s.gainTarget i) ++ beInt 2 r.current ++
  be 1 (lawCode r.law)

/-- The fields of a BUS_READ response (R102). The fill reason set is sent as two yes/no bytes, DEAD_AIR and then POST_WAIT
(DESIGN CHOICE, log entry 61). The dead-air limit is sent in s, as it is configured and not as a count of windows (DESIGN
CHOICE, log entry 62), in 1 byte like the duck depth; the signed threshold takes 2 (DESIGN CHOICE, log entry 60). -/
def busB (s : State) : List Byte :=
  allSources.flatMap (sourceB s) ++ flagB s.duckActive ++ be 1 s.bus.duckDepth ++ codeB numberOf s.air.fillPlayer ++
  flagB s.bus.fillDeadAir ++ flagB s.bus.fillPostWait ++ flagB s.fillActive ++
  be 1 (monitorCode s.bus.monitor.state) ++ be 2 s.bus.monitor.silence ++ be 2 s.bus.monitor.escalation ++
  be 2 s.bus.monitor.recovery ++ be 4 s.bus.monitor.lastPeak ++ beInt 2 s.bus.threshold ++
  be 1 s.bus.deadAirLimit ++ flagB s.bus.escalationFlag

/-! ### Caller lines (R203, R124) -/

def lineStateCode : LineState → Nat
  | .idle => 1 | .ringing => 2 | .screening => 3 | .ready => 4 | .onAir => 5 | .hold => 6 | .clearing => 7
  | .outOfService => 8

def lastEndCode : LastEnd → Nat
  | .missed => 1 | .rejected => 2 | .released => 3 | .hungUp => 4 | .segmentEnd => 5

/-- Name characters in 24 bytes, unused ones 00h (R203). -/
def namePad (name : List Byte) : List Byte := (name ++ List.replicate 24 0).take 24

/-- The 57 bytes of a caller record (R203). -/
def callerB (s : State) (l : Fin 6) : List Byte :=
  let c := s.caller l
  be 1 (numberOf l) ++ be 1 (lineStateCode c.state) ++
  (match c.name with | some n => be 1 n.length | none => be 1 0xFF) ++ namePad (c.name.getD []) ++
  be 2 (c.topic.getD 0xFFFF) ++ be 1 c.priority ++ timeB (c.ringStart.getD 0xFFFFFFFFFFFF) ++
  timeB (c.queuedAt.getD 0xFFFFFFFFFFFF) ++ be 4 (c.airTimeAt s.clock.mono) ++
  (match c.holdTimer with | some t => untilB s.clock.mono t | none => be 4 0xFFFFFFFF) ++
  flagB c.overdue ++ flagB c.pinned ++ flagB c.restore ++ codeB lastEndCode c.lastEnd ++
  flagB c.ring ++ flagB c.loop ++ flagB (s.hook l)

/-- The position of a line in the queue, from 1. -/
def queuePosition (l : Fin 6) : List (Fin 6) → Nat → Nat
  | [], _ => 0
  | q :: rest, n => if q = l then n else queuePosition l rest (n + 1)

/-- One line of the queue with its priority and flags (R124). -/
def queueEntryB (s : State) (l : Fin 6) : List Byte :=
  be 1 (numberOf l) ++ be 1 (s.caller l).priority ++ flagB (s.caller l).pinned ++ flagB (s.caller l).overdue

/-- The caller queue (R124, R115). -/
def queueB (s : State) : List Byte := listB (queueEntryB s) s.lines.queue

/-- The phone segment record while active (R120). -/
def segmentB (g : Segment) : List Byte :=
  handleB g.handle ++ be 1 g.part.callers ++ be 1 (endActionCode g.part.endAction) ++ flagB g.part.endOnLast ++
  flagB g.seen ++ flagB g.suspended

/-- The fields of a QUEUE_READ response (R124); the hold limit in 1 byte (DESIGN CHOICE, log entry 60). -/
def queueReadB (s : State) : List Byte :=
  queueB s ++ allLines.flatMap (fun l => be 1 (lineStateCode (s.caller l).state)) ++ be 1 s.linesOnAir.length ++
  flagB s.lines.alertHold ++ optB segmentB s.lines.segment ++ be 1 s.lines.holdLimit

/-! ### Alerts (R138, R147, R165) -/

def actionCode : ClassAction → Nat
  | .mandatoryNow => 1 | .mandatoryBreak => 2 | .voluntaryBreak => 3 | .holdForOperator => 4 | .ignore => 5

/-- A class action entry (R138). -/
def classB (e : ClassEntry) : List Byte :=
  be 1 (actionCode e.action) ++ be 2 e.deadline ++ flagB e.required ++ optB (be 2) e.ceiling

/-- The fields of a CLASS_PROBE response (R140). -/
def probeB (s : State) : List Byte :=
  be 1 (actionCode .mandatoryNow) ++ be 2 900 ++ flagB true ++ be 1 127 ++ flagB s.receiver.lock

def alertStateCode : AlertState → Nat
  | .pending => 1 | .waiting => 2 | .onAir => 3 | .carried => 4 | .failed => 5

def retirementCode : Retirement → Nat
  | .cancelled => 1 | .expired => 2 | .evicted => 3 | .dismissed => 4

/-- An alert record (R129). -/
def alertB (a : Alert) : List Byte :=
  be 1 a.frame.origin ++ be 2 a.frame.number ++ be 1 a.frame.revision ++ be 1 a.frame.cls ++
  timeB a.frame.validFrom ++ timeB a.frame.expires ++ be 2 a.frame.declared ++ be 1 a.frame.required ++
  be 1 a.frame.interval ++ be 1 a.frame.test ++ be 1 (alertStateCode a.state) ++ be 1 a.carried ++ be 1 a.failed ++
  be 1 a.rank ++ flagB a.operatorCarry ++ timeB a.storedAt ++ optB timeB a.waitingSince ++
  optB timeB a.nextEligible ++ optB (be 1) a.revisionOnAir

/-- The fields of an ALERT_READ response (R147). -/
def alertReadB (s : State) (k : Fin 8) (a : Alert) : List Byte :=
  alertB a ++ be 1 k.val ++ msB (s.clock.mono - a.storedAt) ++ be 1 (actionCode (s.classEntry a.frame.cls).action)

/-- The fields of an ALERT_LIST response (R147). -/
def alertListB (s : State) : List Byte :=
  allSlots.flatMap (fun k => optB (fun a : Alert =>
    be 1 a.frame.origin ++ be 2 a.frame.number ++ be 1 a.frame.revision ++ be 1 (alertStateCode a.state) ++
    be 1 a.rank) (s.alert? k)) ++
  be 1 s.mandatoryCount ++ flagB s.receiver.lock ++ be 2 s.receiver.discards ++
  optB (fun n : RetirementNote => be 1 n.origin ++ be 2 n.number ++ be 1 n.revision ++ be 1 (retirementCode n.reason))
    s.receiver.lastRetirement

def wayCode : Way → Nat
  | .operator => 1 | .break => 2 | .immediate => 3

def eligibilityCode : Eligibility → Nat
  | .none => 1 | .deferred => 2 | .linkWait => 3 | .eligible => 4

def endReasonCode : EndReason → Nat
  | .ended => 1 | .fail => 2 | .guard => 3 | .retired => 4

def policyCode : Policy → Nat
  | .resume => 1 | .next => 2

/-- The carriage record while ACTIVE (R151, R165). -/
def carriageB (s : State) (c : Carriage) : List Byte :=
  be 1 c.slot.val ++ be 1 c.origin ++ be 2 c.number ++ be 1 (wayCode c.way) ++ timeB c.startMono ++
  timeB c.startStation ++ be 1 c.revision ++ flagB c.linkLost ++ flagB c.playSent ++ timeB c.guardAt ++
  msB (s.clock.mono - c.startMono) ++ untilB s.clock.mono c.guardAt

/-- A schedule entry (R151, R165). -/
def schedB (s : State) (k : Fin 8) : List Byte :=
  let e := s.sched? k
  be 1 (eligibilityCode e.eligibility) ++ codeB wayCode (s.way? k) ++ flagB e.placed ++ optB timeB e.base ++
  flagB e.passed ++ optB (untilB s.clock.mono) (s.deadlineOf k)

/-- The preemption record (R157). Its state before is numbered by R41's table of the states (DEDUCED, log entry 57). -/
def preemptionB (p : Preemption) : List Byte :=
  optB (fun o : OnAir => handleB o.source.handle ++ be 1 (sourceKind o.source) ++ iterationB o.iteration)
    p.interrupted ++
  optB msB (if p.policy = .resume then some p.elapsed else none) ++ be 1 (policyCode p.policy) ++
  be 1 (airStateCode p.before) ++ flagB p.outgoingCut

/-- The last carriage note (R151). -/
def noteB (n : CarriageNote) : List Byte :=
  be 1 n.origin ++ be 2 n.number ++ be 1 n.revision ++ be 1 (wayCode n.way) ++ timeB n.startStation ++
  msB n.duration ++ be 1 (endReasonCode n.reason) ++ flagB n.counted

/-- The fields of a CARRIAGE_READ response (R165). An immediate candidate is sent as its slot number alone (DESIGN CHOICE,
log entry 81). -/
def carriageReadB (s : State) : List Byte :=
  optB (carriageB s) s.sched.carriage ++ allSlots.flatMap (schedB s) ++
  listB (fun k : Fin 8 => be 1 k.val) s.candidates ++ optB preemptionB s.air.preemption ++ optB noteB s.sched.lastNote

/-! ### The site link (R184) -/

def paramCode (p : Param) : Nat := numberOf (paramIndex p)

def paramStateCode : ParamState → Nat
  | .notSet => 1 | .settled => 2 | .dirty => 3 | .sent => 4 | .unconfirmed => 5 | .refused => 6

def siteRefusalCode : SiteRefusal → Nat
  | .range => 1 | .interlock => 2 | .busy => 3 | .changeover => 4 | .noApply => 5

/-- The width of a parameter's value in a response (R198): 2 bytes for POWER, 1 for the codes of the enumerated
parameters, and 1 for MOD_LIMIT, a limit in % like the fold-back limit (DESIGN CHOICE, log entry 60). -/
def paramWidth : Param → Nat
  | .power => 2
  | .carrier | .txSelect | .siteAudio | .alertFlag | .modLimit => 1

/-- A parameter's value in a response, an enumerated one as its code of R205. -/
def paramValueB (p : Param) (v : Nat) : List Byte := be (paramWidth p) v

/-- A parameter record; POWER's with its confirmed code (R170, R184). -/
def paramB (s : State) (p : Param) : List Byte :=
  let r := s.param p
  optB (paramValueB p) r.desired ++ optB (paramValueB p) r.confirmed ++
  (if p = .power then optB (be 2) s.site.powerCode else []) ++ be 1 (paramStateCode r.state) ++
  codeB siteRefusalCode r.refusal ++ optB (untilB s.clock.mono) r.retryAt

/-- An entry in flight: sequence, kind, target, tries (R173, R184). -/
def inFlightB (e : InFlight) : List Byte :=
  be 1 e.sequence ++
  (match e.target with
   | .set p v power =>
     be 1 1 ++ be 1 (paramCode p) ++ paramValueB p v ++
     (match power with | some (code, cal) => be 2 code ++ beInt 2 cal | none => [])
   | .poll c => be 1 2 ++ be 1 (numberOf c)) ++
  be 1 e.tries

def linkCode : LinkState → Nat
  | .up => 1 | .degraded => 2 | .lost => 3

def readingStateCode : ReadingState → Nat
  | .valid => 1 | .stale => 2 | .none => 3

/-- The site state record (R177). -/
def reportB (r : SiteReport) : List Byte :=
  optB (be 1) r.active ++ flagB r.carrierUp ++ optB (be 1) r.audio ++ flagB r.fallback ++ timeB r.takenAt

/-- A reading record with its age (R182); the value of every channel in 2 bytes (DESIGN CHOICE, log entry 77). -/
def readingB (now : Nat) (r : Reading) : List Byte :=
  optB (beInt 2) r.value ++ be 1 (readingStateCode r.state) ++ optB (fun t => msB (now - t)) r.takenAt

/-- The fields of a SITE_READ response (R184); the fold-back limit in 1 byte and the signed calibration offsets in 2
(DESIGN CHOICE, log entry 60). -/
def siteB (s : State) : List Byte :=
  allParams.flatMap (paramB s) ++ listB inFlightB s.site.inFlight ++ be 1 (linkCode s.site.link) ++
  optB (fun t => msB (s.clock.mono - t)) s.site.lastValidAt ++ optB reportB s.site.report ++
  optB (fun c : Changeover => be 1 c.target ++ timeB c.startedAt) s.site.changeover ++
  optB msB s.site.lastChangeover ++ s.site.readings.toList.flatMap (readingB s.clock.mono) ++
  flagB s.site.foldActive ++ be 1 s.site.strikes ++ be 1 s.site.foldLimit ++ beInt 2 s.site.calMain ++
  beInt 2 s.site.calReserve ++ be 2 s.site.discards

/-! ### Configuration, the clock and events (R190 to R196) -/

/-- A player designation as a configuration value: 0 for none (R201). -/
def fillValue (p : Option (Fin 4)) : Int := (p.map fun k => ((numberOf k : Nat) : Int)).getD 0

/-- The width of a configuration value in a response (R198): 4 bytes for the tolerance and the cue grace, which are
durations in ms, 1 for the fill player's code, 2 for the threshold and the calibration offsets, which are signed, and 1
for the dead-air limit, duck depth, hold limit and fold-back limit, sent as counts that fit (DESIGN CHOICE, log entry 60). -/
def configWidth : Nat → Nat
  | 1 => 4
  | 2 => 4
  | 4 => 2
  | 9 => 2
  | 10 => 2
  | _ => 1

/-- A configuration value at its item's width, two's complement where it is signed (R198). -/
def configValueB (item : Nat) (value : Int) : List Byte := beInt (configWidth item) value

/-- The fields of a CONFIG_WRITE response: the item and its stored value (R190). -/
def configB (item : Nat) (value : Int) : List Byte := be 1 item ++ configValueB item value

/-- The fields of a CONFIG_READ response: the items in the order of R190, then the pending fill designation. -/
def configReadB (s : State) : List Byte :=
  configValueB 1 s.timer.tolerance ++ configValueB 2 s.air.cueGrace ++ configValueB 3 (fillValue s.air.fillPlayer) ++
  configValueB 4 s.bus.threshold ++ configValueB 5 s.bus.deadAirLimit ++ configValueB 6 s.bus.duckDepth ++
  configValueB 7 s.lines.holdLimit ++ configValueB 8 s.site.foldLimit ++ configValueB 9 s.site.calMain ++
  configValueB 10 s.site.calReserve ++ codeB numberOf s.air.fillPending

/-- The fields of a CLOCK_READ response (R192). -/
def clockB (s : State) : List Byte :=
  timeB s.clock.station ++ be 2 (s.clock.station / Config.dayMs) ++ be 4 (timeOfDay s.clock.station) ++
  timeB s.clock.mono ++ flagB s.clock.unset

/-- The fields of an IDENT response (R192); the largest request frame length in 1 byte (DESIGN CHOICE, log entry 60). -/
def identB : List Byte := be 2 Config.partCode ++ be 1 Config.revisionCode ++ be 1 Config.maxRequest

/-- The details of an occurrence, in the order in which its rule names them (R194). -/
def detailB : Detail → List Byte
  | .alertFailed o n => be 1 o ++ be 2 n
  | .alertStarted o n r w lost => be 1 o ++ be 2 n ++ be 1 r ++ be 1 (wayCode w) ++ flagB lost
  | .alertEnded o n r counted => be 1 o ++ be 2 n ++ be 1 (endReasonCode r) ++ flagB counted
  | .alertReceived o n rank => be 1 o ++ be 2 n ++ be 1 rank
  | .changeoverFailed t => be 1 t
  | .foldback w => optB (be 2) w
  | .setUnconfirmed p => be 1 (paramCode p)
  | .siteRefused p r => be 1 (paramCode p) ++ be 1 (siteRefusalCode r)
  | .lookaheadFault h r => handleB h ++ be 1 (walkFaultCode r)
  | .timingChanged n e => be 1 n ++ optB (beInt 4) e
  | .entryEnded h e => handleB h ++ be 1 (endingCode e)
  | .callerOverdue l st => be 1 (numberOf l) ++ be 1 (lineStateCode st)
  | .callerCleared l st => be 1 (numberOf l) ++ be 1 (lineStateCode st)
  | .phoneEmpty h => handleB h
  | .callerRinging l => be 1 (numberOf l)
  | .portOverrun code => optB (fun b : Byte => [b]) code

/-- The pending set, one yes/no byte for each event in the order of R195 (DESIGN CHOICE, log entry 73). -/
def pendingB (s : State) : List Byte := s.pendingSet.flatMap flagB

/-- The mask, one byte for each event in the order of R195 (DESIGN CHOICE, log entry 73). -/
def maskB (s : State) : List Byte := s.events.mask.toList.flatMap flagB

/-- The number of the first pending, unmasked event, and the event (R195). -/
def State.firstEvent (s : State) : Option (Nat × Event) :=
  ((List.range 24).zip eventTable).find? fun e => s.eventPending e.2 && !(s.events.mask.toList.getD e.1 true)

/-- The counts of the pending occurrences, in the order of R195, with no event number beside them (DESIGN CHOICE, log entry
80). -/
def pendingCounts (s : State) : List Nat :=
  eventTable.filterMap fun e =>
    match e with
    | .occurrence o => if (s.occurrence o).count = 0 then none else some (s.occurrence o).count
    | .condition _ => none

/-- The first event: its number, and its count and details when it is an occurrence; 0 for none (R195). -/
def firstEventB (s : State) : List Byte :=
  match s.firstEvent with
  | none => be 1 0
  | some (i, .condition _) => be 1 (i + 1)
  | some (i, .occurrence o) =>
    be 1 (i + 1) ++ be 1 (s.occurrence o).count ++ ((s.occurrence o).detail.map detailB).getD []

/-- The fields of an EVENTS_READ response (R195). -/
def eventsB (s : State) : List Byte := pendingB s ++ maskB s ++ listB (be 1) (pendingCounts s) ++ firstEventB s

end Sys2Proof.Machine
end

