-- ==== Sys2Proof/Machine/RunningOrder.lean ====
section
/-! DEFINITION. The running-order family: RO_INSERT, RO_CHANGE, RO_MOVE, RO_DELETE, BREAK_CLEAR, RO_READ and RO_LIST (R8 to
R17). -/

namespace Sys2Proof.Machine

/-! ### Shared checks -/

/-- Whether an entry is protected (R9): the on-air record, the outgoing record, or the preemption record under RESUME
names its handle. -/
def State.protects (s : State) (h : Nat) : Bool :=
  (s.air.onAir.any fun o => o.source.handle = h) || (s.air.outgoing.any fun o => o.handle = h) ||
  (s.air.preemption.any fun p => p.policy = .resume && p.interrupted.any fun o => o.source.handle = h)

/-- The refusal that a handle gets where an entry is required: by its form, then by its liveness (R4); none if it is
live. -/
def State.handleRefusal (s : State) (h : Nat) : Option Status :=
  if handleClass h ≠ .formed then some .badField else if s.store.live h then none else some .stale

/-- An accepted edit: the store is written, the notice given, and a waiting sequencer answers a changed head (R10, R33,
R61). -/
def State.edited (s : State) (st : Store) (n : Notice) : Option State :=
  settleHead s ({ s with store := st }.takeNotice n)

/-- A refusal of an owner, with the state unchanged. -/
def refused (s : State) (status : Status) : Option (State × Reply) := some (s, .refuse status)

/-- An owner's acceptance, with its response fields. -/
def accepted (t : Option State) (fields : State → List Byte) : Option (State × Reply) :=
  t.map fun u => (u, .ok (fields u))

/-! ### RO_INSERT -/

/-- RO_INSERT in the store (R8, R11). -/
def insertEntry (anchor : Nat) (e : RawEntry) (s : State) : Option (State × Reply) :=
  match readList e.list, readBody e with
  | some l, some body =>
    if handleClass anchor = .malformed then refused s .badField
    else if anchor ≠ 0 ∧ s.store.live anchor = false then refused s .stale
    else if anchor ≠ 0 ∧ (s.store.order l).contains anchor = false then refused s .badField
    else
      match s.store.insert l anchor body with
      | none => refused s .full
      | some (st, h) =>
        accepted (s.edited st { lists := [l], departed := [] }) fun _ => handleB h ++ bodyB l body
  | _, _ => refused s .badField

/-- RO_INSERT (R11). -/
def execRoInsert (role : Role) (anchor : Nat) (body : RawEntry) (s : State) : Result :=
  request 0x10 role roleAutomation s (insertEntry anchor body)

/-! ### RO_CHANGE -/

/-- RO_CHANGE in the store (R8, R12): the list byte of the body is no field of this request. -/
def changeEntry (h : Nat) (e : RawEntry) (s : State) : Option (State × Reply) :=
  match readBody e with
  | none => refused s .badField
  | some body =>
    match s.handleRefusal h, s.store.find? h with
    | some st, _ => refused s st
    | none, none => refused s .stale
    | none, some old =>
      if body.kindCode ≠ old.body.kindCode then refused s .badField
      else if s.protects h then refused s .onAir
      else
        accepted (s.edited (s.store.putEntry h { old with body }) { lists := [old.list], departed := [] })
          fun _ => bodyB old.list body

/-- RO_CHANGE (R12). -/
def execRoChange (role : Role) (handle : Nat) (body : RawEntry) (s : State) : Result :=
  request 0x11 role roleAutomation s (changeEntry handle body)

/-! ### RO_MOVE -/

/-- The response of a move: the mover's list, position and neighbours (R13). -/
def moveB (st : Store) (h : Nat) (l : ListId) : List Byte := listB1 l ++ neighbours st h l

/-- A move that has passed its checks (R13): one that leaves the order as it was gives no notice. -/
def moveLive (h : Nat) (e : Entry) (l : ListId) (anchor : Nat) (s : State) : Option (State × Reply) :=
  let st := s.store.move h e l anchor
  if l = e.list ∧ st.order l = s.store.order l then accepted (some s) fun _ => moveB s.store h l
  else
    accepted (s.edited st { lists := if l = e.list then [l] else [e.list, l],
                            departed := (s.store.departure h e).departed })
      fun _ => moveB st h l

/-- RO_MOVE in the store (R8, R13). -/
def moveEntry (h list anchor : Nat) (s : State) : Option (State × Reply) :=
  match readList list with
  | none => refused s .badField
  | some l =>
    if handleClass anchor = .malformed then refused s .badField
    else
      match s.handleRefusal h, s.store.find? h with
      | some st, _ => refused s st
      | none, none => refused s .stale
      | none, some e =>
        if anchor ≠ 0 ∧ s.store.live anchor = false then refused s .stale
        else if anchor ≠ 0 ∧ ((s.store.order l).contains anchor = false ∨ anchor = h) then refused s .badField
        else if s.protects h then refused s .onAir
        else moveLive h e l anchor s

/-- RO_MOVE (R13). -/
def execRoMove (role : Role) (handle list anchor : Nat) (s : State) : Result :=
  request 0x12 role roleAutomation s (moveEntry handle list anchor)

/-! ### RO_DELETE and BREAK_CLEAR -/

/-- RO_DELETE in the store (R8, R14). -/
def deleteEntry (h : Nat) (s : State) : Option (State × Reply) :=
  match s.handleRefusal h, s.store.find? h with
  | some st, _ => refused s st
  | none, none => refused s .stale
  | none, some e =>
    if s.protects h then refused s .onAir
    else accepted (s.edited (s.store.remove h) (s.store.departure h e)) fun _ => []

/-- RO_DELETE (R14). -/
def execRoDelete (role : Role) (handle : Nat) (s : State) : Result :=
  request 0x13 role roleAutomation s (deleteEntry handle)

/-- BREAK_CLEAR in the store (R15): a list already empty gives no notice. -/
def clearBreak (b : Nat) (s : State) : Option (State × Reply) :=
  match readBreak b with
  | none => refused s .badField
  | some l =>
    let hs := s.store.order l
    if hs.any s.protects then refused s .onAir
    else if hs.isEmpty then accepted (some s) fun _ => be 2 0
    else
      accepted (s.edited (hs.foldl Store.remove s.store)
          { lists := [l], departed := hs.map fun h => (h, followerIn h hs) })
        fun _ => be 2 hs.length

/-- BREAK_CLEAR (R15). -/
def execBreakClear (role : Role) (brk : Nat) (s : State) : Result :=
  request 0x14 role roleAutomation s (clearBreak brk)

/-! ### RO_READ and RO_LIST -/

/-- RO_READ's answer (R16). -/
def answerRoRead (h : Nat) (s : State) : Reply :=
  match s.handleRefusal h, s.store.find? h with
  | some st, _ => .refuse st
  | none, none => .refuse .stale
  | none, some e => .ok (readB s.store h e)

/-- RO_READ (R16). -/
def execRoRead (role : Role) (handle : Nat) (s : State) : Result :=
  readRequest 0x15 role roleAll s (answerRoRead handle)

/-- RO_LIST's answer (R17). -/
def answerRoList (list start : Nat) (s : State) : Reply :=
  match readList list with
  | none => .refuse .badField
  | some l =>
    if handleClass start = .malformed then .refuse .badField
    else if start ≠ 0 ∧ s.store.live start = false then .refuse .stale
    else if start ≠ 0 ∧ (s.store.order l).contains start = false then .refuse .badField
    else .ok (pageB s.store l start)

/-- RO_LIST (R17). -/
def execRoList (role : Role) (list start : Nat) (s : State) : Result :=
  readRequest 0x16 role roleAll s (answerRoList list start)

end Sys2Proof.Machine
end

