-- ==== Sys2Proof/Machine/AirControl.lean ====
section
/-! DEFINITION. The air-control family: the AIR requests (R43, R55, R57 to R61, R65), the PLAYER requests (R44), and the
readings of the lookahead (R38) and the timing record (R85). -/

namespace Sys2Proof.Machine

/-! ### AIR_MODE -/

/-- A mode code (R201). -/
def readMode : Nat → Option AirMode
  | 1 => some .auto
  | 2 => some .assist
  | _ => none

/-- AIR_MODE in the sequencer (R43). -/
def setMode (mode : Nat) (s : State) : Option (State × Reply) :=
  match readMode mode with
  | none => refused s .badField
  | some m => accepted (some { s with air := { s.air with mode := m } }) fun _ => be 1 (modeCode m)

/-- AIR_MODE (R43). -/
def execAirMode (role : Role) (mode : Nat) (s : State) : Result :=
  request 0x20 role rolePresenterAutomationEngineer s (setMode mode)

/-! ### A go (R55) -/

/-- Whether the head is a cue-start JOIN. -/
def State.headIsCueStart (s : State) : Bool :=
  match s.head? with
  | some r => (r.source.body?.map Body.cueStartJoin).getD false
  | none => false

/-- A go by the sequencer's state (R55), and whether it had an effect that AIR_GO answers with OK. In POST_WAIT it starts a
cue-start JOIN too, as R55's row for POST_WAIT makes no exception (DEDUCED, log entry 49). -/
def State.takeGo (s : State) : Option (State × Bool) :=
  match s.air.state with
  | .waitGo => if s.headIsCueStart then some (s, false) else s.startHead.map (·, true)
  | .postWait => s.dropPostWait.startHead.map (·, true)
  | .running => some ({ s with air := { s.air with goLatch := true } }, true)
  | .stopped | .held | .preempted => some (s, false)

/-- AIR_GO in the sequencer (R55). -/
def giveGo (s : State) : Option (State × Reply) :=
  s.takeGo.map fun (t, acted) => (t, if acted then .ok [] else .refuse .wrongState)

/-- AIR_GO (R55). -/
def execAirGo (role : Role) (s : State) : Result := request 0x21 role rolePresenterAutomation s giveGo

/-! ### AIR_END_SEGMENT (R54) -/

/-- Whether a LIVE, PHONE or JOIN entry is on air. -/
def State.segmentOnAir (s : State) : Bool :=
  match s.air.onAir with
  | some o => (match o.source with
    | .item _ _ (.live _ _) => true
    | .item _ _ (.phone _ _ _) => true
    | .item _ _ (.join _ _ _) => true
    | _ => false)
  | none => false

/-- AIR_END_SEGMENT in the sequencer (R54). -/
def endAirSegment (s : State) : Option (State × Reply) :=
  if s.segmentOnAir then accepted (s.endOnAir .complete) fun _ => [] else refused s .wrongState

/-- AIR_END_SEGMENT (R54). -/
def execAirEndSegment (role : Role) (s : State) : Result := request 0x22 role rolePresenterAutomation s endAirSegment

/-! ### AIR_HOLD, AIR_RESUME, AIR_STEP, AIR_HOLD_AT_POINT (R57, R58) -/

/-- The state with the hold demand written. -/
def State.demandHold (s : State) (v : Bool) : State := { s with air := { s.air with holdDemand := v } }

/-- AIR_HOLD in the sequencer (R57). -/
def holdAir (s : State) : Option (State × Reply) :=
  match s.air.state with
  | .running => accepted (some (s.demandHold true)) fun _ => []
  | .preempted => accepted (some (s.demandHold true)) fun _ => []
  | .waitGo => accepted (some (s.enterState .held)) fun _ => []
  | .postWait => accepted (some (s.enterState .held)) fun _ => []
  | .held => accepted (some s) fun _ => []
  | .stopped => refused s .wrongState

/-- AIR_HOLD (R57). -/
def execAirHold (role : Role) (s : State) : Result := request 0x23 role rolePresenterAutomation s holdAir

/-- AIR_RESUME in the sequencer (R57). -/
def resumeAir (s : State) : Option (State × Reply) :=
  match s.air.state with
  | .running => accepted (some (s.demandHold false)) fun _ => []
  | .held => accepted (s.takeHead .resume) fun _ => []
  | .waitGo | .postWait | .stopped | .preempted => refused s .wrongState

/-- AIR_RESUME (R57). -/
def execAirResume (role : Role) (s : State) : Result := request 0x24 role rolePresenterAutomation s resumeAir

/-- AIR_STEP in the sequencer (R57). -/
def stepAir (s : State) : Option (State × Reply) :=
  match s.air.state with
  | .held => accepted ((s.demandHold true).takeHead .step) fun _ => []
  | .running | .waitGo | .postWait | .stopped | .preempted => refused s .wrongState

/-- AIR_STEP (R57). -/
def execAirStep (role : Role) (s : State) : Result := request 0x25 role rolePresenterAutomation s stepAir

/-- AIR_HOLD_AT_POINT in the sequencer (R58). -/
def setHoldAtPoint (value : Nat) (s : State) : Option (State × Reply) :=
  match readFlag value with
  | none => refused s .badField
  | some v => accepted (some { s with air := { s.air with holdAtPoint := v } }) fun _ => []

/-- AIR_HOLD_AT_POINT (R58). -/
def execAirHoldAtPoint (role : Role) (value : Nat) (s : State) : Result :=
  request 0x26 role rolePresenterAutomation s (setHoldAtPoint value)

/-! ### AIR_STOP (R59) -/

/-- Whether an ALERT entry is the on-air entry. -/
def State.alertEntryOnAir (s : State) : Bool :=
  match s.air.onAir with
  | some o => (match o.source with | .alert _ => true | _ => false)
  | none => false

/-- The on-air entry cut without being released: its outcome CUT is recorded, reported and raised; one in CUEING is given
up without an outcome (R59). -/
def State.stopEntry (s : State) : State :=
  match s.air.onAir with
  | none => s
  | some o => match o.phase with
    | .cueing _ => s
    | .playing _ _ =>
      let h := o.source.handle
      let t := s.cutParts o
      let t := { t with air := { t.air with lastEnding := some (h, .cut) } }
      (t.reportEnding h .cut).raise .entryEnded (some (.entryEnded h .cut))

/-- The air stopped (R59). The back-timer computes also where no entry ends by it (DESIGN CHOICE, log entry 51). -/
def State.stopAll (s : State) : State :=
  let t := ((s.stopEntry.putOnAir none).unhold).cutOutgoing
  (({ t with air := { t.air with holdDemand := false, goLatch := false } }).enterState .stopped).compute

/-- AIR_STOP in the sequencer (R59). -/
def stopAir (s : State) : Option (State × Reply) :=
  if s.air.state = .preempted ∨ s.alertEntryOnAir = true then refused s .wrongState
  else if s.air.state = .stopped then accepted (some s) fun _ => []
  else accepted (some s.stopAll) fun _ => []

/-- AIR_STOP (R59). -/
def execAirStop (role : Role) (s : State) : Result := request 0x27 role rolePresenterAutomationEngineer s stopAir

/-! ### AIR_START (R60) and AIR_CUE_TO (R61) -/

/-- Whether the lookahead holds an entry of source ITEM or ALERT (R60). -/
def State.somethingToStart (s : State) : Bool :=
  s.interp.look.any fun r => match r.source with
    | .item _ _ _ => true
    | .alert _ => true
    | .hold _ _ => false
    | .endMark _ => false

/-- AIR_START in the sequencer (R60). -/
def startAir (s : State) : Option (State × Reply) :=
  if s.air.state ≠ .stopped then refused s .wrongState
  else if s.head?.any Resolved.isEnd then refused s .ended
  else if s.somethingToStart then accepted (s.takeHead (.boundary true)) fun _ => []
  else refused s .empty

/-- AIR_START (R60). -/
def execAirStart (role : Role) (s : State) : Result := request 0x28 role rolePresenterAutomationEngineer s startAir

/-- AIR_CUE_TO in the sequencer and the interpreter (R61, R34). -/
def cueAirTo (h : Nat) (s : State) : Option (State × Reply) :=
  match s.air.state with
  | .running => refused s .onAir
  | .preempted => refused s .wrongState
  | .stopped | .waitGo | .held | .postWait =>
    match s.handleRefusal h, s.store.find? h with
    | some st, _ => refused s st
    | none, none => refused s .stale
    | none, some e => accepted (settleHead s (s.cueTo h e.list)) fun _ => []

/-- AIR_CUE_TO (R61). -/
def execAirCueTo (role : Role) (handle : Nat) (s : State) : Result :=
  request 0x29 role rolePresenterAutomationEngineer s (cueAirTo handle)

/-- AIR_STATUS (R65). -/
def execAirStatus (role : Role) (s : State) : Result :=
  readRequest 0x2A role roleAll s fun t => .ok (airStatusB t)

/-! ### Players (R44) -/

/-- A player's record becomes CUED (R44, R49, R97): a fill player that so becomes CUED may start fill, and an entry in
CUEING is offered the cue. -/
def State.cuePlayer (s : State) (p : Fin 4) (cue : Cue) : State :=
  let was := (s.player p).isCued
  let t := s.putPlayer p (.cued cue)
  (if t.air.fillPlayer = some p ∧ was = false then t.fillCued else t).offerCues

/-- PLAYER_CUE in the player table (R44). Where the cue is bound to an entry in CUEING or starts fill at once, "the player
record as stored" is the record after that, ON_AIR (DESIGN CHOICE, log entry 75). -/
def cuePlayer (player cart length : Nat) (s : State) : Option (State × Reply) :=
  match readPlayer player with
  | none => refused s .badField
  | some p =>
    if cart = 0 ∨ Config.maxLength < length then refused s .badField
    else if (s.player p).isOnAir then refused s .onAir
    else accepted (some (s.cuePlayer p { cart, length })) fun t => playerB (t.player p)

/-- PLAYER_CUE (R44). -/
def execPlayerCue (role : Role) (player cart length : Nat) (s : State) : Result :=
  request 0x2B role roleAutomation s (cuePlayer player cart length)

/-- PLAYER_CLEAR in the player table (R44). -/
def clearPlayer (player : Nat) (s : State) : Option (State × Reply) :=
  match readPlayer player with
  | none => refused s .badField
  | some p =>
    if (s.player p).isOnAir then refused s .onAir
    else accepted (some (s.putPlayer p .empty)) fun t => playerB (t.player p)

/-- PLAYER_CLEAR (R44). -/
def execPlayerClear (role : Role) (player : Nat) (s : State) : Result :=
  request 0x2C role roleAutomation s (clearPlayer player)

/-- PLAYER_READ's answer (R44). -/
def answerPlayerRead (player : Nat) (s : State) : Reply :=
  match readPlayer player with
  | none => .refuse .badField
  | some p => .ok (playerReadB s p)

/-- PLAYER_READ (R44). -/
def execPlayerRead (role : Role) (player : Nat) (s : State) : Result :=
  readRequest 0x2D role roleAll s (answerPlayerRead player)

/-! ### LOOKAHEAD_READ (R38) and TIMING_READ (R85) -/

/-- LOOKAHEAD_READ's answer (R38). -/
def answerLookahead (start : Nat) (s : State) : Reply :=
  if 63 < start then .refuse .badField else .ok (lookaheadB s start)

/-- LOOKAHEAD_READ (R38). -/
def execLookaheadRead (role : Role) (start : Nat) (s : State) : Result :=
  readRequest 0x30 role roleAll s (answerLookahead start)

/-- TIMING_READ (R85). -/
def execTimingRead (role : Role) (s : State) : Result :=
  readRequest 0x31 role roleAll s fun t => .ok (timingB t.timer.record)

end Sys2Proof.Machine
end

