-- ==== Sys2Proof/Machine/BusRequests.lean ====
section
/-! DEFINITION. The programme-bus family of requests: BUS_FADER, BUS_TRIM, MIC_SWITCH and BUS_READ (R88, R102). -/

namespace Sys2Proof.Machine

/-- A source that BUS_FADER accepts: 5..12 (R88). -/
def readFaderSource (k : Nat) : Option (Fin 14) := if 5 ≤ k ∧ k ≤ 12 then readSource k else none

/-- A source that MIC_SWITCH accepts: 5 or 6 (R88). -/
def readMic (k : Nat) : Option (Fin 14) := if k = 5 ∨ k = 6 then readSource k else none

/-- BUS_FADER in the bus (R88): a value outside -160..+24 is clamped. -/
def setFader (source : Nat) (value : Int) (s : State) : Option (State × Reply) :=
  match readFaderSource source with
  | none => refused s .badField
  | some i =>
    accepted (some (s.putSource i { s.source i with fader := some (clampInt (-160) 24 value) })) fun t => sourceB t i

/-- BUS_FADER (R88). -/
def execBusFader (role : Role) (source : Nat) (value : Int) (s : State) : Result :=
  request 0x38 role rolePresenterEngineer s (setFader source value)

/-- BUS_TRIM in the bus (R88): a value outside -24..+24 is clamped. -/
def setTrim (source : Nat) (value : Int) (s : State) : Option (State × Reply) :=
  match readSource source with
  | none => refused s .badField
  | some i =>
    accepted (some (s.putSource i { s.source i with trim := clampInt (-24) 24 value })) fun t => sourceB t i

/-- BUS_TRIM (R88). -/
def execBusTrim (role : Role) (source : Nat) (value : Int) (s : State) : Result :=
  request 0x39 role roleEngineer s (setTrim source value)

/-- MIC_SWITCH in the bus (R88). -/
def switchMic (source value : Nat) (s : State) : Option (State × Reply) :=
  match readMic source, readFlag value with
  | some i, some v =>
    accepted (some (s.putSource i { s.source i with micOn := some v })) fun t => sourceB t i
  | _, _ => refused s .badField

/-- MIC_SWITCH (R88). -/
def execMicSwitch (role : Role) (source value : Nat) (s : State) : Result :=
  request 0x3A role rolePresenterEngineer s (switchMic source value)

/-- BUS_READ (R102). -/
def execBusRead (role : Role) (s : State) : Result := readRequest 0x3B role roleAll s fun t => .ok (busB t)

end Sys2Proof.Machine
end

