-- ==== Sys2Proof/Machine/LineRequests.lean ====
section
/-! DEFINITION. The caller-line family of requests (R107, R109 to R118, R124). -/

namespace Sys2Proof.Machine

/-! ### Fields -/

/-- A name in range: 0..24 printable characters, 20h..7Eh (R110, R203). -/
def nameInRange (name : List Byte) : Bool :=
  decide (name.length ≤ 24) && name.all fun b => decide (0x20 ≤ b.toNat) && decide (b.toNat ≤ 0x7E)

/-- A topic: 0..255, or FFFFh for absent (R110, R200); the outer none is out of range. -/
def readTopic (t : Nat) : Option (Option Nat) :=
  if t = 0xFFFF then some none else if t ≤ 255 then some (some t) else none

/-- A request that names a line, refused with BAD_FIELD for a number outside 1..6 before anything else (R107). -/
def onLine (line : Nat) (s : State) (f : Fin 6 → Option (State × Reply)) : Option (State × Reply) :=
  match readLine line with
  | none => refused s .badField
  | some l => f l

/-! ### LINE_ANSWER, LINE_ACCEPT -/

/-- A ringing line answered (R109): the ring timer stops and the line is seized. -/
def State.answerLine (s : State) (l : Fin 6) : State :=
  s.putCaller l (({ s.caller l with state := .screening, ringTimer := none }).seize s.clock.mono)

/-- LINE_ANSWER (R109). -/
def execLineAnswer (role : Role) (line : Nat) (s : State) : Result :=
  request 0x40 role roleScreener s fun t => onLine line t fun l =>
    if (t.caller l).state = .ringing then accepted (some (t.answerLine l)) fun _ => [] else refused t .wrongState

/-- A screened line accepted into the queue (R110, R114, R119). -/
def State.acceptLine (s : State) (l : Fin 6) (name : List Byte) (topic : Option Nat) (priority : Nat) : State :=
  let q := s.joinQueue l priority s.lines.queue
  let t := s.putCaller l { s.caller l with
    state := .ready, name := some name, topic, priority, queuedAt := some s.clock.mono, pinned := false,
    holdTimer := some s.holdExpiry }
  { t with lines := { t.lines with queue := q } }

/-- LINE_ACCEPT in the caller-line unit (R110). "The record" in the response is the 57 bytes of R203 (DESIGN CHOICE, log
entry 70). -/
def acceptCaller (line : Nat) (name : List Byte) (topic priority : Nat) (s : State) : Option (State × Reply) :=
  onLine line s fun l =>
    match readTopic topic with
    | none => refused s .badField
    | some tp =>
      if nameInRange name = false ∨ 3 < priority then refused s .badField
      else if (s.caller l).state = .screening then
        accepted (some (s.acceptLine l name tp priority))
          fun t => callerB t l ++ be 1 (queuePosition l t.lines.queue 1)
      else refused s .wrongState

/-- LINE_ACCEPT (R110). -/
def execLineAccept (role : Role) (line : Nat) (name : List Byte) (topic priority : Nat) (s : State) : Result :=
  request 0x41 role roleScreener s (acceptCaller line name topic priority)

/-! ### LINE_REJECT, LINE_RELEASE -/

/-- LINE_REJECT in the caller-line unit (R111). -/
def rejectCaller (line : Nat) (s : State) : Option (State × Reply) :=
  onLine line s fun l =>
    match (s.caller l).state with
    | .screening | .ready | .hold => accepted (some (s.enterClearing l .rejected)) fun _ => []
    | .idle | .ringing | .onAir | .clearing | .outOfService => refused s .wrongState

/-- LINE_REJECT (R111). -/
def execLineReject (role : Role) (line : Nat) (s : State) : Result :=
  request 0x42 role roleScreener s (rejectCaller line)

/-- A line that leaves its call with a last end; one that was ON_AIR is tested for the segment's last caller (R111,
R112, R121). -/
def State.clearCall (s : State) (l : Fin 6) (e : LastEnd) : Option State :=
  let t := s.enterClearing l e
  if (s.caller l).state = .onAir then t.testLastCaller else some t

/-- LINE_RELEASE in the caller-line unit (R111). -/
def releaseCaller (role : Role) (line : Nat) (s : State) : Option (State × Reply) :=
  onLine line s fun l =>
    match (s.caller l).state with
    | .screening | .ready | .hold => accepted (s.clearCall l .released) fun _ => []
    | .onAir => if role = .screener then refused s .onAir else accepted (s.clearCall l .released) fun _ => []
    | .idle | .ringing | .clearing | .outOfService => refused s .wrongState

/-- LINE_RELEASE (R111). -/
def execLineRelease (role : Role) (line : Nat) (s : State) : Result :=
  request 0x43 role roleScreenerPresenter s (releaseCaller role line)

/-! ### LINE_TAKE, LINE_DROP -/

/-- LINE_TAKE in the caller-line unit (R117). -/
def takeCaller (line : Nat) (s : State) : Option (State × Reply) :=
  onLine line s fun l =>
    match (s.caller l).state with
    | .onAir => accepted (some s) fun _ => []
    | .ready | .hold =>
      if s.lines.alertHold then refused s .wrongState
      else if 2 ≤ s.linesOnAir.length then refused s .full
      else accepted (some (s.enterOnAir l)) fun _ => []
    | .screening | .idle | .ringing | .clearing | .outOfService => refused s .wrongState

/-- LINE_TAKE (R117). -/
def execLineTake (role : Role) (line : Nat) (s : State) : Result :=
  request 0x44 role rolePresenter s (takeCaller line)

/-- LINE_DROP in the caller-line unit (R118). -/
def dropCaller (line : Nat) (s : State) : Option (State × Reply) :=
  onLine line s fun l =>
    if (s.caller l).state = .onAir then accepted (s.enterHold l (s.caller l).restore).testLastCaller fun _ => []
    else refused s .wrongState

/-- LINE_DROP (R118). -/
def execLineDrop (role : Role) (line : Nat) (s : State) : Result :=
  request 0x45 role rolePresenter s (dropCaller line)

/-! ### LINE_SERVICE -/

/-- The state with a caller record in another state, nothing else of it changed. -/
def State.moveLine (s : State) (l : Fin 6) (x : LineState) : State := s.putCaller l { s.caller l with state := x }

/-- LINE_SERVICE in the caller-line unit (R113). -/
def serviceLine (line value : Nat) (s : State) : Option (State × Reply) :=
  onLine line s fun l =>
    match readFlag value, (s.caller l).state with
    | none, _ => refused s .badField
    | some false, .idle => accepted (some (s.moveLine l .outOfService)) fun _ => []
    | some true, .outOfService => accepted (some (s.moveLine l .idle)) fun _ => []
    | some true, .idle => accepted (some s) fun _ => []
    | some false, .outOfService => accepted (some s) fun _ => []
    | some _, _ => refused s .wrongState

/-- LINE_SERVICE (R113). -/
def execLineService (role : Role) (line value : Nat) (s : State) : Result :=
  request 0x46 role roleEngineer s (serviceLine line value)

/-! ### QUEUE_MOVE, LINE_PIN, LINE_NOTES -/

/-- A line placed at a position, counted from 1, among the others of the queue (R115). -/
def placeAtPosition (l : Fin 6) (position : Nat) (q : List (Fin 6)) : List (Fin 6) :=
  let others := q.filter (· ≠ l)
  others.take (position - 1) ++ l :: others.drop (position - 1)

/-- QUEUE_MOVE in the caller-line unit (R115). The queue of its response has each line's priority and flags, as QUEUE_READ
gives them (DEDUCED, log entry 54). -/
def moveInQueue (line position : Nat) (s : State) : Option (State × Reply) :=
  onLine line s fun l =>
    if position = 0 ∨ 6 < position then refused s .badField
    else if (s.caller l).state ≠ .ready then refused s .wrongState
    else if s.lines.queue.length < position then refused s .badField
    else
      accepted (some { s with lines := { s.lines with queue := placeAtPosition l position s.lines.queue } }) queueB

/-- QUEUE_MOVE (R115). -/
def execQueueMove (role : Role) (line position : Nat) (s : State) : Result :=
  request 0x47 role roleScreener s (moveInQueue line position)

/-- LINE_PIN in the caller-line unit (R116). -/
def pinLine (line : Nat) (s : State) : Option (State × Reply) :=
  onLine line s fun l =>
    if (s.caller l).state = .ready then
      accepted (some (s.putCaller l { s.caller l with pinned := true })) fun _ => []
    else refused s .wrongState

/-- LINE_PIN (R116). -/
def execLinePin (role : Role) (line : Nat) (s : State) : Result :=
  request 0x48 role roleScreener s (pinLine line)

/-- LINE_NOTES in the caller-line unit (R116). "The record" in the response is the 57 bytes of R203 (DESIGN CHOICE, log
entry 70). -/
def noteCaller (line : Nat) (name : List Byte) (topic : Nat) (s : State) : Option (State × Reply) :=
  onLine line s fun l =>
    match readTopic topic with
    | none => refused s .badField
    | some tp =>
      if nameInRange name = false then refused s .badField
      else
        match (s.caller l).state with
        | .screening | .ready | .hold =>
          accepted (some (s.putCaller l { s.caller l with name := some name, topic := tp, pinned := false }))
            fun t => callerB t l
        | .onAir => refused s .onAir
        | .idle | .ringing | .clearing | .outOfService => refused s .wrongState

/-- LINE_NOTES (R116). -/
def execLineNotes (role : Role) (line : Nat) (name : List Byte) (topic : Nat) (s : State) : Result :=
  request 0x49 role roleScreener s (noteCaller line name topic)

/-! ### CALLER_READ, QUEUE_READ (R124) -/

/-- CALLER_READ's answer (R124, R203). -/
def answerCaller (line : Nat) (s : State) : Reply :=
  match readLine line with
  | none => .refuse .badField
  | some l => .ok (callerB s l)

/-- CALLER_READ (R124). -/
def execCallerRead (role : Role) (line : Nat) (s : State) : Result :=
  readRequest 0x4A role roleAll s (answerCaller line)

/-- QUEUE_READ (R124). -/
def execQueueRead (role : Role) (s : State) : Result := readRequest 0x4B role roleAll s fun t => .ok (queueReadB t)

end Sys2Proof.Machine
end

