-- ==== Sys2Proof/Machine/AlertRequests.lean ====
section
/-! DEFINITION. The alert family of requests: the class action table and its lock (R138 to R143), the operator requests
(R144 to R147) and CARRIAGE_READ (R165). -/

namespace Sys2Proof.Machine

/-! ### The class action table -/

/-- CLASS_READ's answer (R138). -/
def answerClass (c : Nat) (s : State) : Reply :=
  if classInRange c then .ok (classB (s.classEntry c) ++ flagB s.receiver.lock) else .refuse .badField

/-- CLASS_READ (R138). -/
def execClassRead (role : Role) (cls : Nat) (s : State) : Result := readRequest 0x50 role roleAll s (answerClass cls)

/-- CLASS_WRITE in the receiver (R139): every value but the class number is accepted and settled. -/
def writeClassEntry (c action deadline required : Nat) (s : State) : Option (State × Reply) :=
  if classInRange c then
    accepted (s.writeClass c (settleClass s.receiver.lock (s.classEntry c) action deadline required))
      fun t => classB (t.classEntry c)
  else refused s .badField

/-- CLASS_WRITE (R139). -/
def execClassWrite (role : Role) (cls action deadline required : Nat) (s : State) : Result :=
  request 0x51 role roleEngineer s (writeClassEntry cls action deadline required)

/-- CLASS_PROBE (R140): its fields are not looked at and nothing is written. -/
def execClassProbe (role : Role) (_cls _action _deadline _required : Nat) (s : State) : Result :=
  readRequest 0x52 role roleAll s fun t => .ok (probeB t)

/-- The number of required entries, which the lock gives a ceiling (R141). -/
def State.requiredClasses (s : State) : Nat := s.receiver.classes.countP fun e => e.2.required

/-- COMPLIANCE_LOCK in the receiver (R141). -/
def lockCompliance (s : State) : Option (State × Reply) :=
  if s.receiver.lock then accepted (some s) fun _ => be 1 0
  else
    accepted (some { s with receiver := { s.receiver with lock := true, classes := lockClasses s.receiver.classes } })
      fun _ => be 1 s.requiredClasses

/-- COMPLIANCE_LOCK (R141). -/
def execComplianceLock (role : Role) (s : State) : Result := request 0x53 role roleEngineer s lockCompliance

/-! ### Operator requests -/

/-- The record an operator request names, or the refusal it gets (R144). -/
def State.namedAlert (s : State) (origin number : Nat) : Except Status (Fin 8 × Alert) :=
  if 63 < origin then .error .badField
  else
    match s.slotOf origin number with
    | none => .error .stale
    | some k => match s.alert? k with
      | some a => .ok (k, a)
      | none => .error .stale

/-- A record of rank 1 released for carriage at a break (R145). -/
def State.carryAlert (s : State) (k : Fin 8) (a : Alert) : Option State :=
  if a.rank = 1 then (s.putAlert k (some { a with operatorCarry := true, rank := 2 })).rankNotice k else some s

/-- The record of a slot, as a response gives it. -/
def slotB (k : Fin 8) (s : State) : List Byte := ((s.alert? k).map alertB).getD []

/-- ALERT_CARRY in the receiver (R144, R145). Its OK carries the record at every rank (DEDUCED, log entry 55). -/
def carryNamed (origin number : Nat) (s : State) : Option (State × Reply) :=
  match s.namedAlert origin number with
  | .error st => refused s st
  | .ok (k, a) => accepted (s.carryAlert k a) (slotB k)

/-- ALERT_CARRY (R145). -/
def execAlertCarry (role : Role) (origin number : Nat) (s : State) : Result :=
  request 0x54 role rolePresenterAutomation s (carryNamed origin number)

/-- ALERT_DISMISS in the receiver (R144, R146). -/
def dismissNamed (origin number : Nat) (s : State) : Option (State × Reply) :=
  match s.namedAlert origin number with
  | .error st => refused s st
  | .ok (k, a) =>
    if 3 ≤ a.rank then refused s .locked
    else if a.state = .onAir then refused s .onAir
    else accepted (s.retire k .dismissed) fun _ => []

/-- ALERT_DISMISS (R146). -/
def execAlertDismiss (role : Role) (origin number : Nat) (s : State) : Result :=
  request 0x55 role rolePresenterAutomationEngineer s (dismissNamed origin number)

/-- ALERT_READ's answer (R144, R147). -/
def answerAlert (origin number : Nat) (s : State) : Reply :=
  match s.namedAlert origin number with
  | .error st => .refuse st
  | .ok (k, a) => .ok (alertReadB s k a)

/-- ALERT_READ (R147). -/
def execAlertRead (role : Role) (origin number : Nat) (s : State) : Result :=
  readRequest 0x56 role roleAll s (answerAlert origin number)

/-- ALERT_LIST (R147). -/
def execAlertList (role : Role) (s : State) : Result := readRequest 0x57 role roleAll s fun t => .ok (alertListB t)

/-- CARRIAGE_READ (R165). -/
def execCarriageRead (role : Role) (s : State) : Result :=
  readRequest 0x58 role roleAll s fun t => .ok (carriageReadB t)

end Sys2Proof.Machine
end

