-- ==== Sys2Proof/Machine/SiteRequests.lean ====
section
/-! DEFINITION. The site-link family of requests: SITE_SET (R171) and SITE_READ (R184). -/

namespace Sys2Proof.Machine

/-- The value that a SITE_SET stores for a parameter, or the refusal it gets (R171). -/
def siteValue (p : Param) (v : Nat) : Except Status Nat :=
  match p with
  | .alertFlag => .error .locked
  | .carrier | .txSelect | .siteAudio => if v ≤ 1 then .ok v else .error .badField
  | .power => .ok (min v 1000)
  | .modLimit => .ok (max 50 (min v 110))

/-- What an accepted SITE_SET clears besides (R171): the bus's escalation flag for SITE_AUDIO, the fold-back active flag
and the strike count for POWER and CARRIER. -/
def State.clearedBy (s : State) (p : Param) : State :=
  match p with
  | .siteAudio => { s with bus := { s.bus with escalationFlag := false } }
  | .power | .carrier => { s with site := { s.site with foldActive := false, strikes := 0 } }
  | .txSelect | .alertFlag | .modLimit => s

/-- SITE_SET in the site-link unit (R171): it always counts as a new desired value. -/
def setSite (param value : Nat) (s : State) : Option (State × Reply) :=
  match readParam param with
  | none => refused s .badField
  | some p =>
    match siteValue p value with
    | .error st => refused s st
    | .ok v => accepted (some ((s.newDesired p v).clearedBy p).fillTable) fun t => paramB t p

/-- SITE_SET (R171). -/
def execSiteSet (role : Role) (param value : Nat) (s : State) : Result :=
  request 0x60 role roleEngineer s (setSite param value)

/-- SITE_READ (R184). -/
def execSiteRead (role : Role) (s : State) : Result := readRequest 0x61 role roleAll s fun t => .ok (siteB t)

end Sys2Proof.Machine
end

