-- ==== Sys2Proof/Machine/PartRequests.lean ====
section
/-! DEFINITION. The requests of the part as a whole: CONFIG_WRITE and CONFIG_READ (R190), CLOCK_SET, CLOCK_READ and IDENT
(R191, R192), EVENTS_READ, EVENTS_CLEAR and EVENTS_MASK (R194 to R196). CONTROLLER_RESET stands in Resets.lean. -/

namespace Sys2Proof.Machine

/-! ### CONFIG_WRITE (R190) -/

/-- The cut instant of an armed watch follows a change of tolerance (R62, R83). -/
def PostWatch.retune (w : PostWatch) (tolerance : Nat) : PostWatch :=
  match w with
  | .armed v => .armed { v with cut := v.instant + tolerance }
  | .disarmed => .disarmed
  | .deferred v => .deferred v

/-- The tolerance handed to the back-timer, which computes (R83). -/
def State.setTolerance (s : State) (v : Nat) : State :=
  ({ s with timer := { s.timer with tolerance := v }
            air := { s.air with watch := s.air.watch.retune v } }).compute

/-- CONFIG_WRITE of the tolerance (R83). -/
def execConfigWriteTolerance (role : Role) (value : Int) (s : State) : Result :=
  request 0x70 role roleEngineer s fun t =>
    accepted (some (t.setTolerance (clampNat 0 5000 value))) fun u => configB 1 u.timer.tolerance

/-- CONFIG_WRITE of the cue grace (R49). -/
def execConfigWriteCueGrace (role : Role) (value : Int) (s : State) : Result :=
  request 0x70 role roleEngineer s fun t =>
    accepted (some { t with air := { t.air with cueGrace := clampNat 0 10000 value } })
      fun u => configB 2 u.air.cueGrace

/-- A fill player value: 0 for none, 1..4; the outer none is refused (R190). -/
def readFill (v : Int) : Option (Option (Fin 4)) :=
  if v = 0 then some none else if 1 ≤ v ∧ v ≤ 4 then some (readPlayer v.toNat) else none

/-- Whether a player is ON_AIR for an entry, its cut ramp included (R45, R46). -/
def Player.onAirForEntry : Player → Bool
  | .onAir _ false => true
  | _ => false

/-- A designation handed to its owners (R45, R97): it is held pending while the designated player is ON_AIR for an
entry, and takes effect at once otherwise; an entry in CUEING is offered a player that so ends its fill role (R49). -/
def State.setFill (s : State) (new : Option (Fin 4)) : State :=
  match new with
  | some p =>
    if (s.player p).onAirForEntry then { s with air := { s.air with fillPending := some p } }
    else (s.designate (some p)).offerCues
  | none => (s.designate none).offerCues

/-- CONFIG_WRITE of the fill player (R45, R190). While the designation is held pending the response gives the designation
that stands, not the one just written (DEDUCED, log entry 66). -/
def execConfigWriteFillPlayer (role : Role) (value : Int) (s : State) : Result :=
  request 0x70 role roleEngineer s fun t =>
    match readFill value with
    | none => refused t .badField
    | some new => accepted (some (t.setFill new)) fun u => configB 3 (fillValue u.air.fillPlayer)

/-- CONFIG_WRITE of the dead-air threshold (R98). -/
def execConfigWriteThreshold (role : Role) (value : Int) (s : State) : Result :=
  request 0x70 role roleEngineer s fun t =>
    accepted (some { t with bus := { t.bus with threshold := clampInt (-70) (-30) value } })
      fun u => configB 4 u.bus.threshold

/-- CONFIG_WRITE of the dead-air limit (R98). -/
def execConfigWriteDeadAirLimit (role : Role) (value : Int) (s : State) : Result :=
  request 0x70 role roleEngineer s fun t =>
    accepted (some { t with bus := { t.bus with deadAirLimit := clampNat 2 60 value } })
      fun u => configB 5 u.bus.deadAirLimit

/-- CONFIG_WRITE of the duck depth (R91). -/
def execConfigWriteDuckDepth (role : Role) (value : Int) (s : State) : Result :=
  request 0x70 role roleEngineer s fun t =>
    accepted (some { t with bus := { t.bus with duckDepth := clampNat 0 60 value } }) fun u => configB 6 u.bus.duckDepth

/-- CONFIG_WRITE of the hold limit (R119). -/
def execConfigWriteHoldLimit (role : Role) (value : Int) (s : State) : Result :=
  request 0x70 role roleEngineer s fun t =>
    accepted (some { t with lines := { t.lines with holdLimit := clampNat 1 60 value } })
      fun u => configB 7 u.lines.holdLimit

/-- CONFIG_WRITE of the fold-back limit (R183). -/
def execConfigWriteFoldBackLimit (role : Role) (value : Int) (s : State) : Result :=
  request 0x70 role roleEngineer s fun t =>
    accepted (some { t with site := { t.site with foldLimit := clampNat 1 50 value } })
      fun u => configB 8 u.site.foldLimit

/-- A calibration offset handed to the site-link unit, which tests the POWER match afresh and fills the table (R172,
R173). -/
def State.setCalibration (s : State) (reserve : Bool) (v : Int) : State :=
  let t := if reserve then { s with site := { s.site with calReserve := v } }
    else { s with site := { s.site with calMain := v } }
  (if t.activeCal = s.activeCal then t else t.retestPower).fillTable

/-- CONFIG_WRITE of a calibration offset, items 9 and 10 (R172); any other item code here names no item (R190). -/
def execConfigWriteCalibration (role : Role) (item : Nat) (value : Int) (s : State) : Result :=
  request 0x70 role roleEngineer s fun t =>
    match item with
    | 9 => accepted (some (t.setCalibration false (clampInt (-128) 127 value))) fun u => configB 9 u.site.calMain
    | 10 => accepted (some (t.setCalibration true (clampInt (-128) 127 value))) fun u => configB 10 u.site.calReserve
    | _ => refused t .badField

/-- CONFIG_READ (R190). -/
def execConfigRead (role : Role) (s : State) : Result := readRequest 0x71 role roleAll s fun t => .ok (configReadB t)

/-! ### The cut instant and the post instant (R63, R64) -/

/-- The cut instant of an armed watch, taken by the sequencer's state (R64). -/
def State.takeCut (s : State) (w : Watch) : Option State :=
  match s.air.state with
  | .running =>
    if s.alertEntryOnAir then some (s.putWatch (.deferred w))
    else if s.postStands w then s.postCut w else some (s.putWatch .disarmed)
  | .waitGo | .postWait => if s.postStands w then s.postCut w else some (s.putWatch .disarmed)
  | .preempted => some (s.putWatch (.deferred w))
  | .held | .stopped => some (s.putWatch .disarmed)

/-- The post instant taken in POST_WAIT: the fill player is withdrawn and the head taken from step 7 (R63). -/
def State.takePost (s : State) : Option State := s.dropPostWait.takeFromGo

/-! ### CLOCK_SET (R191) -/

/-- The sequencer's post watch at a clock set: a cut instant, or in POST_WAIT a Tp, that now lies in the past is taken at
once (R62). Where both lie in the past in POST_WAIT, the cut instant is taken and Tp is not (DESIGN CHOICE, log entry
78). -/
def State.watchClock (s : State) : Option State :=
  match s.air.watch.armed? with
  | none => some s
  | some w =>
    if w.cut ≤ s.clock.station then s.takeCut w
    else if w.instant ≤ s.clock.station ∧ s.air.state = .postWait then s.takePost
    else some s

/-- One record's instants at a clock set: expires first, then the valid-from of a PENDING record (R130). -/
def State.alertClock (k : Fin 8) (s : State) : Option State :=
  match s.alert? k with
  | none => some s
  | some a =>
    if a.frame.expires ≤ s.clock.station then s.retire k .expired
    else if a.state = .pending ∧ a.frame.validFrom ≤ s.clock.station then s.makeEligible k true
    else some s

/-- Whether a slot's next-eligible instant has come while its entry is DEFERRED (R152). -/
def State.eligibleDue (s : State) (k : Fin 8) : Bool :=
  decide ((s.sched? k).eligibility = .deferred) &&
    (match s.alert? k with
     | some a => (match a.nextEligible with | some t => decide (t ≤ s.clock.station) | none => false)
     | none => false)

/-- One DEFERRED entry at a clock set (R152). -/
def State.schedClock (k : Fin 8) (s : State) : Option State :=
  if s.eligibleDue k then s.makeEligible k true else some s

/-- The new station time handed to the blocks that hold absolute instants, in the order of R191. -/
def State.setClock (s : State) (time : Nat) : Option State :=
  let t := { s with clock := { s.clock with station := time, unset := false } }
  ((t.watchClock.map State.compute).bind (foldSteps State.alertClock allSlots)).bind
    (foldSteps State.schedClock allSlots)

/-- CLOCK_SET in the part (R191). -/
def setStationTime (time : Nat) (s : State) : Option (State × Reply) :=
  if Config.stationModulus ≤ time then refused s .badField
  else accepted (s.setClock time) fun _ => timeB time

/-- CLOCK_SET (R191). -/
def execClockSet (role : Role) (time : Nat) (s : State) : Result :=
  request 0x72 role roleEngineerAutomation s (setStationTime time)

/-- CLOCK_READ (R192). -/
def execClockRead (role : Role) (s : State) : Result := readRequest 0x73 role roleAll s fun t => .ok (clockB t)

/-- IDENT (R192). -/
def execIdent (role : Role) (s : State) : Result := readRequest 0x74 role roleAll s fun _ => .ok identB

/-! ### Events (R194 to R196) -/

/-- EVENTS_READ (R195). -/
def execEventsRead (role : Role) (s : State) : Result := readRequest 0x76 role roleAll s fun t => .ok (eventsB t)

/-- The occurrence of an event number; none for a condition or no event (R196). -/
def occurrenceOf (n : Nat) : Option Occurrence :=
  match eventOf n with
  | some (.occurrence o) => some o
  | some (.condition _) => none
  | none => none

/-- Whether a list has no event number twice. -/
def distinctNumbers : List Nat → Bool
  | [] => true
  | n :: rest => !rest.contains n && distinctNumbers rest

/-- A list that EVENTS_CLEAR accepts: 1..19 pairs, each naming an occurrence, none twice (R196). -/
def clearable (pairs : List (Nat × Nat)) : Bool :=
  decide (1 ≤ pairs.length) && decide (pairs.length ≤ 19) && pairs.all (fun p => (occurrenceOf p.1).isSome) &&
  distinctNumbers (pairs.map Prod.fst)

/-- An occurrence's record after a clearing of the count `k` seen (R196). -/
def OccRecord.cleared (r : OccRecord) (k : Nat) : OccRecord :=
  if r.count ≤ k then { count := 0, detail := none } else { r with count := r.count - k }

/-- One pair's clearing (R196). -/
def State.clearPair (s : State) (p : Nat × Nat) : State :=
  match occurrenceOf p.1 with
  | none => s
  | some o =>
    { s with events := { s.events with
        records := s.events.records.set (occurrenceIndex o) ((s.occurrence o).cleared p.2) } }

/-- EVENTS_CLEAR in the event summary (R196). -/
def clearEvents (pairs : List (Nat × Nat)) (s : State) : Option (State × Reply) :=
  if clearable pairs then accepted (some (pairs.foldl State.clearPair s)) pendingB else refused s .badField

/-- EVENTS_CLEAR (R196). -/
def execEventsClear (role : Role) (pairs : List (Nat × Nat)) (s : State) : Result :=
  request 0x77 role roleAll s (clearEvents pairs)

/-- EVENTS_MASK in the event summary: 0 for not masked, any other value for masked (R194, R200). -/
def maskEvents (mask : Vector Byte 24) (s : State) : Option (State × Reply) :=
  accepted (some { s with events := { s.events with mask := mask.map fun b => decide (b ≠ 0) } })
    fun t => maskB t ++ pendingB t

/-- EVENTS_MASK (R194). -/
def execEventsMask (role : Role) (mask : Vector Byte 24) (s : State) : Result :=
  request 0x78 role roleAll s (maskEvents mask)

end Sys2Proof.Machine
end

