-- ==== Sys2Proof/Machine/Resets.lean ====
section
/-! DEFINITION. The two resets: CONTROLLER_RESET (R193 with R21, R40, R67, R86, R104, R126, R150, R167 and R186) and the
power-on reset (R20, R39, R66, R86, R103, R125, R149, R166, R185, R191, R197). -/

namespace Sys2Proof.Machine

/-! ### What each block does at a controller reset -/

/-- Every occurrence cleared (R193, step 1). -/
def State.clearOccurrences (s : State) : State :=
  { s with events := { s.events with records := Vector.replicate 19 { count := 0, detail := none } } }

/-- The interpreter at a controller reset (R40): the lookahead and the placement set are emptied. -/
def State.resetInterp (s : State) : State :=
  { s with interp := { s.interp with look := [], held := false, placement := [] } }

/-- One player at a controller reset (R67, R104): one that was ON_AIR is ENDED without a ramp, its gain mute. -/
def State.resetPlayer (s : State) (p : Fin 4) : State :=
  match s.player p with
  | .onAir cue _ => (s.putPlayer p (.ended cue)).mutePlayer p
  | .empty | .cued _ | .ended _ => s

/-- The sequencer and the players at a controller reset (R67). -/
def State.resetAir (s : State) : State :=
  let t := allPlayers.foldl State.resetPlayer s
  { t with air := { t.air with
      state := .stopped, onAir := none, outgoing := none, preemption := none, holdDemand := false,
      holdAtPoint := false, goLatch := false, watch := .disarmed,
      fillPlayer := (match t.air.fillPending with | some p => some p | none => t.air.fillPlayer),
      fillPending := none } }

/-- The back-timer at a controller reset (R86). -/
def State.resetTimer (s : State) : State :=
  { s with timer := { s.timer with dropSet := [], periodicAt := s.clock.mono + 1000 } }

/-- The programme bus at a controller reset (R104). -/
def State.resetBus (s : State) : State := { s with bus := { s.bus with fillDeadAir := false, fillPostWait := false } }

/-- One line at a controller reset (R126): ON_AIR goes to HOLD, and every restore flag is cleared. -/
def State.resetLine (s : State) (l : Fin 6) : State :=
  if (s.caller l).state = .onAir then s.enterHold l false else s.putCaller l { s.caller l with restore := false }

/-- The caller-line unit at a controller reset (R126). -/
def State.resetLines (s : State) : State :=
  let t := allLines.foldl State.resetLine s
  { t with lines := { t.lines with alertHold := false, segment := none } }

/-- The record that is ON_AIR leaves it without being judged, for WAITING, or for PENDING where its valid-from lies
ahead (R150, R130). -/
def State.resetAlert (s : State) (k : Fin 8) : State :=
  match s.alert? k with
  | none => s
  | some a =>
    if a.state = .onAir then
      s.putAlert k (some { a with
        state := if s.clock.station < a.frame.validFrom then .pending else .waiting, revisionOnAir := none })
    else s

/-- The alert receiver at a controller reset (R150): an open frame is abandoned without being counted, and STOP joins
the queue for a record that was on air. -/
def State.resetReceiver (s : State) : State :=
  let t := if s.alertOnAir then s.sendAlert .stop else s
  let u := allSlots.foldl State.resetAlert t
  { u with receiver := { u.receiver with opened := none } }

/-- The alert scheduler at a controller reset (R167): the carriage is ended without being judged, and placed becomes no. -/
def State.resetSched (s : State) : State :=
  { s with sched := { s.sched with
      carriage := none, entries := s.sched.entries.map fun e => { e with placed := false } } }

/-- One parameter record at a controller reset (R186): SENT becomes DIRTY. -/
def ParamRec.resent (r : ParamRec) : ParamRec := if r.state = .sent then { r with state := .dirty } else r

/-- The site-link unit at a controller reset (R186): frames waiting in the outgoing queue are discarded, the one being
sent is not. -/
def State.resetSite (s : State) : State :=
  { s with site := { s.site with
      params := s.site.params.map ParamRec.resent, inFlight := [], outgoing := s.site.outgoing.take 1,
      silenceFrom := some s.clock.mono, strikes := 0, changeover := none, reportSinceReset := false, duePoll := none,
      keepAt := s.clock.mono + 1000, pollAt := s.clock.mono + 500, opened := none } }

/-- Steps 1 and 2 of R193. ALERT_FLAG takes the desired value OFF as a new one, so the record becomes DIRTY unless it
matches, even where OFF was desired already (R167, R186; DEDUCED, log entry 20), and the in-flight table is filled. -/
def State.resetBlocks (s : State) : State :=
  let t := s.clearOccurrences.resetInterp.resetAir.resetTimer.resetBus.resetLines.resetReceiver.resetSched.resetSite
  (t.newDesired .alertFlag 0).fillTable

/-! ### The completion of a controller reset (R193, step 3; R167) -/

/-- The record that was on air becomes ELIGIBLE where it returned to WAITING (R167, step 1). A record of rank 3 whose
carriage began with deadline passed set has the flag set again, so that it is carried again at once, as R167's last
sentence says; R152, which clears the flag at every such event, is not followed there (DEDUCED, log entry 59). A record of way BREAK is
placed here, before the slots that come before its own in step 2 (DEDUCED, log entry 79). -/
def State.resumeAlert (s : State) (was : Option (Fin 8)) (passed : Bool) : Option State :=
  match was with
  | none => some s
  | some k => match s.alert? k with
    | none => some s
    | some a =>
      if a.state = .waiting then (s.enterEligible k a (decide (a.rank = 3) && passed)).actByWay k false else some s

/-- One ELIGIBLE entry of way BREAK handed to the interpreter (R167, step 2); the one that step 1 has placed is not placed
again (DEDUCED, log entry 79). -/
def State.placeAgain (k : Fin 8) (s : State) : Option State :=
  if s.way? k = some .break ∧ (s.sched? k).placed = false then s.placeRequest k else some s

/-- The slot of the record that is ON_AIR. -/
def State.onAirSlot (s : State) : Option (Fin 8) := allSlots.find? fun k => (s.alert? k).any fun a => a.state = .onAir

/-- Whether the carriage in progress began with deadline passed set. -/
def State.carriedPassed (s : State) : Bool := s.sched.carriage.any Carriage.passed

/-- A controller reset (R193). -/
def State.controllerReset (s : State) : Option State :=
  ((s.resetBlocks.rebuild.resumeAlert s.onAirSlot s.carriedPassed).bind (foldSteps State.placeAgain allSlots)).map State.offer

/-- CONTROLLER_RESET (R193). -/
def execControllerReset (role : Role) (s : State) : Result :=
  request 0x75 role roleEngineer s fun t => accepted t.controllerReset fun _ => []

/-! ### The power-on reset -/

/-- POWER_ON_RESET: every record at its power-on value, the held levels as they stand, then the rebuild of R39 and the
computation it brings (R86). The model's own queue of waiting commands and counter of free values go on. -/
def execPowerOnReset (levels : PinLevels) (s : State) : Result :=
  .next ({ State.powerOn levels with pending := s.pending, freeUsed := s.freeUsed }).rebuild

end Sys2Proof.Machine
end

