-- ==== Sys2Proof/Machine/Inputs.lean ====
section
/-! DEFINITION. The input edges: the cue inputs (R55, R56), the players' END inputs (R46, R51, R53, R97), and the lines'
RING and LOOP (R105, R108). An edge is one only when the level that the part holds changes. -/

namespace Sys2Proof.Machine

/-! ### Cue inputs -/

/-- GO_EDGE (R55): a rise of GO is a go; a level already held high is none. -/
def execGoEdge (s : State) : Result :=
  if s.air.goLevel then .next s
  else finish (({ s with air := { s.air with goLevel := true } }).takeGo.map Prod.fst)

/-- A NET_A edge (R56): it starts a cue-start JOIN that waits in WAIT_GO, and is otherwise ignored. -/
def State.netA (s : State) : Option State :=
  if s.air.state = .waitGo ∧ s.headIsCueStart = true then s.startHead else some s

/-- NET_A_EDGE (R56). -/
def execNetAEdge (s : State) : Result :=
  if s.air.netALevel then .next s else finish ({ s with air := { s.air with netALevel := true } }).netA

/-- Whether a JOIN entry is the on-air entry. -/
def State.joinEntry (s : State) : Bool :=
  match s.air.onAir with
  | some o => (match o.source with | .item _ _ (.join _ _ _) => true | _ => false)
  | none => false

/-- A NET_B edge (R56): it ends a JOIN entry on air, and is otherwise ignored. -/
def State.netB (s : State) : Option State := if s.joinEntry then s.endOnAir .complete else some s

/-- NET_B_EDGE (R56). -/
def execNetBEdge (s : State) : Result :=
  if s.air.netBLevel then .next s else finish ({ s with air := { s.air with netBLevel := true } }).netB

/-- CUE_INPUT_FALL: the held level of a cue input falls (R55, R56). -/
def execCueInputFall (input : CueInput) (s : State) : Result :=
  .next (match input with
    | .go => { s with air := { s.air with goLevel := false } }
    | .netA => { s with air := { s.air with netALevel := false } }
    | .netB => { s with air := { s.air with netBLevel := false } })

/-! ### The players' END inputs -/

/-- Whether a player is bound to the on-air entry in PLAYING. -/
def State.boundOnAir (s : State) (p : Fin 4) : Bool := s.air.onAir.any fun o => o.player = some p

/-- Whether a player is bound to the outgoing entry. -/
def State.boundOutgoing (s : State) (p : Fin 4) : Bool := s.air.outgoing.any fun o => o.player = p

/-- The fill material has run out (R97): START is released, the record is ENDED, the gain mute, the reason set empty. -/
def State.endFill (s : State) (p : Fin 4) : State :=
  match s.player p with
  | .onAir cue _ =>
    let t := (s.putPlayer p (.ended cue)).mutePlayer p
    { t with bus := { t.bus with fillDeadAir := false, fillPostWait := false } }
  | .empty | .cued _ | .ended _ => s

/-- An END input by whom the player serves (R46). -/
def State.takeEnd (s : State) (p : Fin 4) : Option State :=
  if s.boundOnAir p then s.endOnAir .complete
  else if s.boundOutgoing p then s.endOutgoing
  else if s.air.fillPlayer = some p ∧ s.fillActive = true then some (s.endFill p)
  else some s

/-- END_INPUT (R46, R51, R53, R97). -/
def execEndInput (player : Fin 4) (s : State) : Result := finish (s.takeEnd player)

/-! ### RING and LOOP -/

/-- A ring event (R108): it begins a call on an IDLE line, restarts the ring timer in RINGING, and acts on nothing in any
other state. -/
def State.ringEvent (s : State) (l : Fin 6) : State :=
  let c := s.caller l
  match c.state with
  | .idle =>
    (s.putCaller l { c with
      state := .ringing, name := none, topic := none, priority := 0, queuedAt := none, airTime := 0, airSince := none,
      holdTimer := none, overdue := false, pinned := false, restore := false,
      ringStart := some s.clock.station, ringTimer := some (s.clock.mono + 6000) }).raise
      .callerRinging (some (.callerRinging l))
  | .ringing => s.putCaller l { c with ringTimer := some (s.clock.mono + 6000) }
  | .screening | .ready | .onAir | .hold | .clearing | .outOfService => s

/-- RING_EVENT (R105, R108): a rise of RING; a level already held high is no event. -/
def execRingEvent (line : Fin 6) (s : State) : Result :=
  if (s.caller line).ring then .next s
  else .next ((s.putCaller line { s.caller line with ring := true }).ringEvent line)

/-- RING_FALL: the held level of RING falls (R105). -/
def execRingFall (line : Fin 6) (s : State) : Result :=
  .next (s.putCaller line { s.caller line with ring := false })

/-- The loop-drop timer after an edge of LOOP (R105): a fall while HOOK is asserted starts it, a rise stops it. -/
def Caller.loopEdge (c : Caller) (level : Bool) (now : Nat) : Caller :=
  if level then { c with loop := true, loopTimer := none }
  else if c.loop && c.state.offHook then { c with loop := false, loopTimer := some (now + 400) }
  else { c with loop := false }

/-- LOOP_EDGE (R105). -/
def execLoopEdge (line : Fin 6) (level : Bool) (s : State) : Result :=
  .next (s.putCaller line ((s.caller line).loopEdge level s.clock.mono))

end Sys2Proof.Machine
end

