-- ==== Sys2Proof/Machine/AirTimers.lean ====
section
/-! DEFINITION. The sequencer's, the players' and the back-timer's timed events (R48 to R53, R62 to R64, R70, R94). A
timed event acts once its time has come, and has no effect before (log entry 2). -/

namespace Sys2Proof.Machine

/-- Whether an expiry that may be absent has come. -/
def reached (t : Option Nat) (now : Nat) : Bool :=
  match t with
  | some x => decide (x ≤ now)
  | none => false

/-! ### Ends -/

/-- Whether the on-air entry's end timer has expired. -/
def State.endDue (s : State) : Bool := reached (s.air.onAir.bind OnAir.endTimer) s.clock.mono

/-- END_TIMER (R51, R54). -/
def execEndTimer (s : State) : Result := if s.endDue then finish (s.endOnAir .complete) else .next s

/-- Whether the outgoing entry's end time has come. -/
def State.outgoingDue (s : State) : Bool := reached (s.air.outgoing.map Outgoing.endsAt) s.clock.mono

/-- OUTGOING_END (R53). -/
def execOutgoingEnd (s : State) : Result := if s.outgoingDue then finish s.endOutgoing else .next s

/-- The grace deadline of an entry in CUEING. -/
def OnAir.grace? (o : OnAir) : Option Nat :=
  match o.phase with
  | .cueing d => some d
  | .playing _ _ => none

/-- Whether the grace deadline has come with the entry still CUEING (R49). -/
def State.graceDue (s : State) : Bool := reached (s.air.onAir.bind OnAir.grace?) s.clock.mono

/-- GRACE_DEADLINE (R49). -/
def execGraceDeadline (s : State) : Result :=
  if s.graceDue then finish (s.missed.takeHead (.boundary false)) else .next s

/-! ### The segue point (R52) -/

/-- Whether the segue point of the on-air entry has come and is still to be taken. -/
def State.segueDue (s : State) : Bool := reached (s.air.onAir.bind OnAir.seguePoint) s.clock.mono

/-- Whether a segue takes place (R52): `next` is the lookahead entry directly after the on-air entry. -/
def State.segueAllowed (s : State) (o : OnAir) : Bool :=
  match s.interp.look.tail.head? with
  | some r => (match r.source with
    | .item _ _ b =>
      !r.dropMark && (!b.needsGo s.air.mode || (s.air.goLatch && !b.cueStartJoin)) && !s.air.holdDemand &&
      !s.beforePost r && decide (0 < o.segue)
    | .hold _ _ => false
    | .endMark _ => false
    | .alert _ => false)
  | none => false

/-- The audio kind of an entry on air. -/
def OnAir.audioKind? (o : OnAir) : Option AudioKind :=
  match o.source with
  | .item _ _ (.audio k _ _ _) => some k
  | _ => none

/-- A segue (R52, R53, R93): an entry still outgoing is cut, the on-air entry moves to the outgoing record under a fade
to its end, it is released without an outcome, and the head is taken from step 1. -/
def State.segue (s : State) (o : OnAir) (p : Fin 4) (k : AudioKind) : Option State :=
  let endsAt := o.endTimer.getD s.clock.mono
  let t := (s.cutOutgoing).fadePlayer p (endsAt - s.clock.mono)
  let t := { t with air := { t.air with
    onAir := none
    outgoing := some { handle := o.source.handle, kind := k, player := p, frozen := o.frozen, endsAt } } }
  (t.releaseWith none true).takeHead (.boundary false)

/-- The segue point taken (R52): where the conditions do not hold, nothing happens and it does not come again. -/
def State.takeSegue (s : State) : Option State :=
  match s.air.onAir with
  | none => some s
  | some o =>
    let passed := s.putOnAir (some { o with seguePoint := none })
    match o.player, o.audioKind? with
    | some p, some k => if s.segueAllowed o then passed.segue { o with seguePoint := none } p k else some passed
    | _, _ => some passed

/-- SEGUE_POINT (R52). -/
def execSeguePoint (s : State) : Result := if s.segueDue then finish s.takeSegue else .next s

/-! ### The post watch (R63, R64) -/

/-- Whether the post instant has come in POST_WAIT (R63). With the watch disarmed while the same head stands, no instant
comes and POST_WAIT stays (DEDUCED, log entry 52). -/
def State.postDue (s : State) : Bool :=
  decide (s.air.state = .postWait) && reached (s.air.watch.armed?.map Watch.instant) s.clock.station

/-- POST_INSTANT (R63). -/
def execPostInstant (s : State) : Result := if s.postDue then finish s.takePost else .next s

/-- Whether the cut instant of the armed watch has come (R64). -/
def State.cutDue (s : State) : Bool := reached (s.air.watch.armed?.map Watch.cut) s.clock.station

/-- The cut instant taken with what the watch holds. -/
def State.takeCutInstant (s : State) : Option State :=
  match s.air.watch.armed? with
  | some w => s.takeCut w
  | none => some s

/-- CUT_INSTANT (R64). -/
def execCutInstant (s : State) : Result := if s.cutDue then finish s.takeCutInstant else .next s

/-! ### Cut ramps (R46, R94, R97) -/

/-- Whether a player's cut ramp, of an entry or of fill, has reached mute. -/
def State.rampDone (s : State) (p : Fin 4) (fill : Bool) : Bool :=
  match (s.source (playerSource p)).law with
  | .cut _ start f => decide (f = fill) && decide (start + 20 ≤ s.clock.mono)
  | .follow => false
  | .fade _ _ _ => false

/-- CUT_COMPLETION (R46, R94): START is released and the record ENDED; an entry in CUEING is offered a player that so
ends its fill role (R49). -/
def execCutCompletion (player : Fin 4) (s : State) : Result :=
  if s.rampDone player false then .next (s.endPlayer player).offerCues else .next s

/-- A fill withdrawal's end (R97): the record returns to CUED, and the fill player starts again while a reason stands;
the player is offered to an entry in CUEING (R49). -/
def State.endWithdrawal (s : State) (p : Fin 4) : State :=
  match s.player p with
  | .onAir cue _ =>
    let t := (s.putPlayer p (.cued cue)).mutePlayer p
    (if t.air.fillPlayer = some p ∧ t.fillWanted = true then t.startFill else t).offerCues
  | .empty | .cued _ | .ended _ => s

/-- FILL_WITHDRAWAL_END (R97). -/
def execFillWithdrawalEnd (player : Fin 4) (s : State) : Result :=
  if s.rampDone player true then .next (s.endWithdrawal player) else .next s

/-! ### The periodic timer (R70) -/

/-- PERIODIC_TIMER (R70): it makes a computation and restarts. -/
def execPeriodicTimer (s : State) : Result :=
  if s.timer.periodicAt ≤ s.clock.mono then
    .next ({ s with timer := { s.timer with periodicAt := s.clock.mono + 1000 } }).compute
  else .next s

end Sys2Proof.Machine
end

