-- ==== Sys2Proof/Machine/BusTimers.lean ====
section
/-! DEFINITION. The programme bus in time: the gain update of each ms (R92 to R94), the dead-air window (R98 to R101), and
the mix of each sample period (R95, R96, R98). -/

namespace Sys2Proof.Machine

/-! ### GAIN_UPDATE -/

/-- One ms of every source's gain law (R92). -/
def State.moveGains (s : State) : State :=
  { s with bus := { s.bus with
      sources := Vector.ofFn fun i => (s.source i).moved (s.gainTarget i) s.clock.mono
      gainAt := s.bus.gainAt + 1 } }

/-- GAIN_UPDATE (R92). -/
def execGainUpdate (s : State) : Result := if s.bus.gainAt ≤ s.clock.mono then .next s.moveGains else .next s

/-! ### DEAD_AIR_WINDOW -/

/-- A peak below the threshold level 8,388,608 × 10^(threshold / 20), compared in whole numbers (R98). -/
def peakQuiet (peak : Nat) (threshold : Int) : Bool :=
  decide (peak ^ 20 * 10 ^ (-threshold).toNat < 8388608 ^ 20)

/-- The state with the monitor written. -/
def State.putMonitor (s : State) (m : Monitor) : State := { s with bus := { s.bus with monitor := m } }

/-- Whether dead-air fill is active (R98, R99). -/
def State.deadAirFill (s : State) : Bool := s.bus.fillDeadAir && s.fillActive

/-- The monitor enters DEAD (R99). -/
def State.enterDead (s : State) (m : Monitor) (silence : Nat) : State :=
  (s.putMonitor { m with state := .dead, silence, escalation := 0, recovery := 0 }).addDeadAir

/-- The monitor escalates (R100). -/
def State.escalate (s : State) (m : Monitor) (escalation : Nat) : State :=
  let t := s.putMonitor { m with state := .escalated, escalation, recovery := 0 }
  if (t.param .siteAudio).desired = some 1 then t
  else
    let u := t.writeDesired .siteAudio 1
    { u with bus := { u.bus with escalationFlag := true } }

/-- Recovery (R101). -/
def State.recover (s : State) (m : Monitor) : State :=
  let t := (s.putMonitor { m with state := .sound, silence := 0, escalation := 0, recovery := 0 }).dropDeadAir
  if t.bus.escalationFlag then
    let u := t.writeDesired .siteAudio 0
    { u with bus := { u.bus with escalationFlag := false } }
  else t

/-- The dead-air limit as a count of windows (R98). -/
def State.deadAirWindows (s : State) : Nat := s.bus.deadAirLimit * 100

/-- The monitor's answer to a window, quiet or sounding, by its state (R99). -/
def State.judgeWindow (s : State) (m : Monitor) (quiet : Bool) : State :=
  match m.state, quiet with
  | .sound, true => s.putMonitor { m with state := .quiet, silence := 1 }
  | .sound, false => s.putMonitor m
  | .quiet, true =>
    if s.deadAirWindows ≤ m.silence + 1 then s.enterDead m (m.silence + 1)
    else s.putMonitor { m with silence := m.silence + 1 }
  | .quiet, false => s.putMonitor { m with state := .sound, silence := 0 }
  | .dead, true =>
    if s.deadAirFill then s.putMonitor { m with recovery := 0 }
    else if s.deadAirWindows ≤ m.escalation + 1 then s.escalate m (m.escalation + 1)
    else s.putMonitor { m with recovery := 0, escalation := m.escalation + 1 }
  | .dead, false =>
    if 500 ≤ m.recovery + 1 then s.recover m
    else s.putMonitor { m with recovery := m.recovery + 1, escalation := 0 }
  | .escalated, true => s.putMonitor { m with recovery := 0 }
  | .escalated, false =>
    if 500 ≤ m.recovery + 1 then s.recover m else s.putMonitor { m with recovery := m.recovery + 1 }

/-- The window's end (R98): its peak is judged against the threshold in force in it, and the next window opens with the
threshold as it now stands. -/
def State.endWindow (s : State) : State :=
  let m := s.bus.monitor
  s.judgeWindow
    { m with lastPeak := m.peak, peak := 0, windowEnds := m.windowEnds + 10, windowThreshold := s.bus.threshold }
    (peakQuiet m.peak m.windowThreshold)

/-- DEAD_AIR_WINDOW (R98, R99). -/
def execDeadAirWindow (s : State) : Result :=
  if s.bus.monitor.windowEnds ≤ s.clock.mono then .next s.endWindow else .next s

/-! ### SAMPLE_PERIOD -/

/-- The binary places that `rootTen` holds. -/
def rootPlaces : Nat := 2048

/-- 10^(1/40) in `rootPlaces` binary places, rounded down. -/
def rootTen : Nat :=
  34231909067613245889639863505404335543400602868687646155228599591357831454175391119547389823961627421964684695127536135577621188368477125095771833311175369859565811943105284228824153442930118088869317904006172549827755970786000393911625849928193123198074948450764407671771194509904439386069484046692355018556302187317600806212691703319029675653677123743178174728146485191321492206335152966099938184319210778840864592017554292086700011710979380120160338082920277169231124663064738163527551880023881677640002724161736454299693988121175390585104282476203250115778816610660476223696712328757456443927829499941253558857373

/-- A source's contribution at a gain (R95), in units of 1 / mixUnit: the sample times 10^(gain / 40). The 2,048 places
decide every rounding as the exact value would: a sum of these powers that is no half of a whole number lies further
from one than the places left out can reach (log entry 13). -/
def contribution (sample gain : Int) : Int :=
  if gain ≤ -160 then 0
  else
    let q := ((gain + 160) / 40).toNat
    let r := ((gain + 160) % 40).toNat
    sample * (10 ^ q * rootTen ^ r * 2 ^ (rootPlaces * (39 - r)) : Nat)

/-- The unit of a contribution. -/
def mixUnit : Nat := 10 ^ 4 * 2 ^ (rootPlaces * 39)

/-- A count of units rounded to the nearest whole sample value, half away from zero (R95). -/
def roundMix (a : Int) : Int :=
  if 0 ≤ a then (2 * a + mixUnit) / (2 * mixUnit : Nat) else -((-2 * a + mixUnit) / (2 * mixUnit : Nat))

/-- A value saturated to full scale (R95). -/
def saturate (v : Int) : Int := clampInt (-8388608) 8388607 v

/-- A sample of a value (R95). -/
def sampleOf (v : Int) : Sample := BitVec.ofInt 24 (saturate v)

/-- The contribution of a source in a sample period. -/
def State.sourceShare (s : State) (lanes : Vector Sample 14) (i : Fin 14) : Int :=
  contribution (lanes[i]).toInt (s.source i).current

/-- The unsaturated sum of a sample period (R95). -/
def State.mixSum (s : State) (lanes : Vector Sample 14) : Int :=
  roundMix ((allSources.map (s.sourceShare lanes)).sum)

/-- The unsaturated sum less one contribution (R96, R98): where it is no whole value, a free value says whether it is
rounded up; `n` is the counter of free values used (log entry 4). -/
def lessShare (sum share : Int) (n : Nat) : Int × Nat :=
  let v := sum * mixUnit - share
  if v % mixUnit = 0 then (v / mixUnit, n)
  else (v / mixUnit + (if Config.roundUp n then 1 else 0), n + 1)

/-- The source of a line. -/
def lineSource (l : Fin 6) : Fin 14 := ⟨l.val + 6, by omega⟩

/-- One line's send, and the counter of free values after it (R96). -/
def State.lineSend (s : State) (lanes : Vector Sample 14) (talkback : Sample) (sum : Int) (l : Fin 6) (n : Nat) :
    Sample × Nat :=
  match (s.caller l).state with
  | .onAir =>
    let (v, n') := lessShare sum (s.sourceShare lanes (lineSource l)) n
    (sampleOf v, n')
  | .screening => (talkback, n)
  | .ready | .hold => (sampleOf sum, n)
  | .idle | .ringing | .clearing | .outOfService => (0, n)

/-- The six line sends in line-number order (R96). -/
def State.allSends (s : State) (lanes : Vector Sample 14) (talkback : Sample) (sum : Int) (n : Nat) :
    Vector Sample 6 × Nat :=
  allLines.foldl
    (fun (acc : Vector Sample 6 × Nat) l =>
      let (v, n') := s.lineSend lanes talkback sum l acc.2
      (acc.1.set l v, n'))
    (s.bus.sends, n)

/-- The monitored programme's value (R98): without the fill player's contribution while dead-air fill is active. -/
def State.monitored (s : State) (lanes : Vector Sample 14) (sum : Int) (n : Nat) : Int × Nat :=
  if s.deadAirFill then
    match s.air.fillPlayer with
    | some p =>
      let (v, n') := lessShare sum (s.sourceShare lanes (playerSource p)) n
      (saturate v, n')
    | none => (saturate sum, n)
  else (saturate sum, n)

/-- A sample period (R95, R96, R98): the programme sample, the line sends, and the window's peak. -/
def State.mixSample (s : State) (lanes : Vector Sample 14) (talkback : Sample) : State :=
  let sum := s.mixSum lanes
  let (sends, n1) := s.allSends lanes talkback sum s.freeUsed
  let (heard, n2) := s.monitored lanes sum n1
  { s with
    freeUsed := n2
    bus := { s.bus with
      programme := sampleOf sum
      sends
      monitor := { s.bus.monitor with peak := max s.bus.monitor.peak heard.natAbs } } }

/-- SAMPLE_PERIOD (R95, R96). -/
def execSamplePeriod (lanes : Vector Sample 14) (talkback : Sample) (s : State) : Result :=
  .next (s.mixSample lanes talkback)

end Sys2Proof.Machine
end

