-- ==== Sys2Proof/Machine/LineTimers.lean ====
section
/-! DEFINITION. The caller-line unit's timed events: the loop drop (R105, R112), the ring timer (R108), the clearing
timer (R111) and the hold timer (R119). A timed event acts once its time has come, and has no effect before (log
entry 2). -/

namespace Sys2Proof.Machine

/-- Whether a line's loop-drop timer has expired; it runs only while HOOK is asserted (R105). -/
def State.loopDue (s : State) (l : Fin 6) : Bool := reached (s.caller l).loopTimer s.clock.mono

/-- A loop drop (R112): the call is cleared with last end HUNG_UP, and CALLER_CLEARED is raised with the line and the
state it left; elsewhere than off-hook none can arise. -/
def State.loopDrop (s : State) (l : Fin 6) : Option State :=
  if (s.caller l).state.offHook then
    (s.raise .callerCleared (some (.callerCleared l (s.caller l).state))).clearCall l .hungUp
  else some s

/-- LOOP_DROP (R112). -/
def execLoopDrop (line : Fin 6) (s : State) : Result :=
  if s.loopDue line then finish (s.loopDrop line) else .next s

/-- Whether a line's ring timer has expired in RINGING (R108). -/
def State.ringDue (s : State) (l : Fin 6) : Bool :=
  decide ((s.caller l).state = .ringing) && reached (s.caller l).ringTimer s.clock.mono

/-- RING_TIMER (R108): the caller has given up, and the line is IDLE with last end MISSED. -/
def execRingTimer (line : Fin 6) (s : State) : Result :=
  if s.ringDue line then
    .next (s.putCaller line { s.caller line with state := .idle, lastEnd := some .missed, ringTimer := none })
  else .next s

/-- Whether a line's clearing timer has expired in CLEARING (R111). -/
def State.clearingDue (s : State) (l : Fin 6) : Bool :=
  decide ((s.caller l).state = .clearing) && reached (s.caller l).clearingTimer s.clock.mono

/-- CLEARING_TIMER (R111): the line is IDLE. -/
def execClearingTimer (line : Fin 6) (s : State) : Result :=
  if s.clearingDue line then
    .next (s.putCaller line { s.caller line with state := .idle, clearingTimer := none })
  else .next s

/-- Whether a line's hold timer, which runs in READY and HOLD, has expired (R119). -/
def State.holdDue (s : State) (l : Fin 6) : Bool :=
  (decide ((s.caller l).state = .ready) || decide ((s.caller l).state = .hold)) &&
    reached (s.caller l).holdTimer s.clock.mono

/-- HOLD_TIMER (R119): the overdue flag is set and CALLER_OVERDUE raised with the line and its state. -/
def execHoldTimer (line : Fin 6) (s : State) : Result :=
  if s.holdDue line then
    .next ((s.putCaller line { s.caller line with overdue := true, holdTimer := none }).raise .callerOverdue
      (some (.callerOverdue line (s.caller line).state)))
  else .next s

end Sys2Proof.Machine
end

