-- ==== Sys2Proof/Machine/AlertFrames.lean ====
section
/-! DEFINITION. The alert port's frames and the timed events of the alert table and of a carriage (R127, R128, R130, R132
to R137, R152, R155, R159). A command ISSUE, CANCEL, AUDIO_END or AUDIO_FAIL is a whole frame taken as its last byte
arrives; ALERT_FRAME_ABANDONED brings bytes as they come, one by one (log entry 12). -/

namespace Sys2Proof.Machine

/-! ### Frames taken -/

/-- The alert port as a whole frame ends: the frame that was open is that frame, or one that a gap of more than 50 ms has
abandoned (R127). -/
def State.closeAlert (s : State) : State :=
  match s.receiver.opened with
  | none => s
  | some f => if f.gapped s.clock.mono then s.abandonAlert else s.putAlertOpen none

/-- ISSUE (R132 to R135). -/
def execIssue (frame : IssueFrame) (s : State) : Result := finish (s.closeAlert.takeIssue frame)

/-- CANCEL (R132, R136). -/
def execCancel (origin number : Nat) (s : State) : Result := finish (s.closeAlert.takeCancel origin number)

/-- AUDIO_END (R128, R159). -/
def execAudioEnd (s : State) : Result := finish (s.closeAlert.takeAudio .ended)

/-- AUDIO_FAIL (R128, R159). -/
def execAudioFail (s : State) : Result := finish (s.closeAlert.takeAudio .fail)

/-- ALERT_FRAME_ABANDONED: bytes received on the alert port, each assembled as R127 says; a frame with an unknown kind, a
wrong length or a wrong check is abandoned. -/
def execAlertFrameAbandoned (bytes : List Byte) (s : State) : Result := finish (foldSteps State.alertByte bytes s)

/-- Whether the frame being received on the alert port has stood still for more than 50 ms (R127). -/
def State.alertGapDue (s : State) : Bool := s.receiver.opened.any fun f => f.gapped s.clock.mono

/-- ALERT_FRAME_GAP (R127): the open frame is abandoned. -/
def execAlertFrameGap (s : State) : Result := if s.alertGapDue then .next s.abandonAlert else .next s

/-! ### Frames sent -/

/-- Whether a sent frame is the PLAY of the carriage in progress (R158, R159). -/
def Carriage.playedBy (c : Carriage) : AlertFrame → Bool
  | .play _ _ n => decide (n = c.serial)
  | .receipt _ _ _ _ => false
  | .stop => false

/-- The frame at the head of the alert port's outgoing queue has been sent (R128): the port has sent its bytes (R204), and
the carriage whose PLAY it is has its play sent set (R158). -/
def State.alertSent (s : State) : State :=
  match s.receiver.outgoing with
  | [] => s
  | f :: rest =>
    { s with
      receiver := { s.receiver with outgoing := rest, lastSent := f.bytes }
      sched := { s.sched with
        carriage := s.sched.carriage.map fun c => if c.playedBy f then { c with playSent := true } else c } }

/-- ALERT_FRAME_SENT (R128, R158). -/
def execAlertFrameSent (s : State) : Result := .next s.alertSent

/-! ### The instants of records and entries -/

/-- Whether a PENDING record's valid-from has come (R130). -/
def State.validDue (s : State) (k : Fin 8) : Bool :=
  match s.alert? k with
  | some a => decide (a.state = .pending) && decide (a.frame.validFrom ≤ s.clock.station)
  | none => false

/-- VALID_FROM (R130, R152). -/
def execValidFrom (slot : Fin 8) (s : State) : Result :=
  if s.validDue slot then finish (s.makeEligible slot true) else .next s

/-- Whether a record's expires has come (R137). -/
def State.expiryDue (s : State) (k : Fin 8) : Bool :=
  match s.alert? k with
  | some a => decide (a.frame.expires ≤ s.clock.station)
  | none => false

/-- EXPIRY (R137): the record is retired, the record on air among them. -/
def execExpiry (slot : Fin 8) (s : State) : Result :=
  if s.expiryDue slot then finish (s.retire slot .expired) else .next s

/-- NEXT_ELIGIBLE (R152). -/
def execNextEligible (slot : Fin 8) (s : State) : Result :=
  if s.eligibleDue slot then finish (s.makeEligible slot true) else .next s

/-- DEADLINE_EXPIRY (R155). -/
def execDeadlineExpiry (slot : Fin 8) (s : State) : Result :=
  if s.deadlineDue slot then .next (s.expireDeadline slot) else .next s

/-- Whether the carriage's guard has expired (R159). -/
def State.guardDue (s : State) : Bool := reached (s.sched.carriage.map Carriage.guardAt) s.clock.mono

/-- GUARD_EXPIRY (R159). -/
def execGuardExpiry (s : State) : Result := if s.guardDue then finish (s.endCarriage .guard) else .next s

end Sys2Proof.Machine
end

