-- ==== Sys2Proof/Machine/SiteFamily.lean ====
section
/-! DEFINITION. The site link's frames and timed events (R168, R169, R173 to R182). A command ACK, NAK, READING or STATE is
a whole valid frame taken as its last byte arrives; SITE_FRAME_ABANDONED brings bytes as they come (log entry 12). -/

namespace Sys2Proof.Machine

/-! ### Frames taken -/

/-- The site port as a whole frame ends: the frame that was open is that frame, or one that a gap of more than 50 ms has
abandoned (R168). -/
def State.closeSite (s : State) : State :=
  match s.site.opened with
  | none => s
  | some f => if f.gapped s.clock.mono then s.abandonSite else s.putSiteOpen none

/-- ACK (R174, R180). -/
def execAck (sequence param value : Nat) (s : State) : Result :=
  finish (s.closeSite.validFrame fun t => t.handleAck sequence param value)

/-- NAK (R175). -/
def execNak (sequence reason : Nat) (s : State) : Result :=
  finish (s.closeSite.validFrame fun t => t.handleNak sequence reason)

/-- READING (R181 to R183). -/
def execReading (sequence channel code : Nat) (s : State) : Result :=
  finish (s.closeSite.validFrame fun t => t.handleReading sequence channel code)

/-- STATE (R177, R180). -/
def execSiteState (active carrier audio fallback : Nat) (s : State) : Result :=
  finish (s.closeSite.validFrame fun t => t.handleState active carrier audio fallback)

/-- SITE_FRAME_ABANDONED: bytes received on the site port, each assembled as R168 says. -/
def execSiteFrameAbandoned (bytes : List Byte) (s : State) : Result := finish (foldSteps State.siteByte bytes s)

/-- Whether the frame being received on the site port has stood still for more than 50 ms (R168). -/
def State.siteGapDue (s : State) : Bool := s.site.opened.any fun f => f.gapped s.clock.mono

/-- SITE_FRAME_GAP (R168): the open frame is abandoned. -/
def execSiteFrameGap (s : State) : Result := if s.siteGapDue then .next s.abandonSite else .next s

/-- SITE_FRAME_SENT (R169, R173). -/
def execSiteFrameSent (s : State) : Result := .next s.siteSent

/-! ### KEEP and POLL -/

/-- KEEP_TIMER (R169): a KEEP is produced and the timer restarts. -/
def execKeepTimer (s : State) : Result :=
  if s.site.keepAt ≤ s.clock.mono then
    let t := s.sendKeep
    .next { t with site := { t.site with keepAt := s.clock.mono + 1000 } }
  else .next s

/-- The next channel becomes the due poll, in the place of one not yet sent, and the table is filled (R181, R173). -/
def State.nextPoll (s : State) : State :=
  let c := s.site.nextChannel
  State.fillTable { s with site := { s.site with
    lastChannel := some c, duePoll := some c, pollAt := s.clock.mono + 500 } }

/-- POLL_TIMER (R181). -/
def execPollTimer (s : State) : Result := if s.site.pollAt ≤ s.clock.mono then .next s.nextPoll else .next s

/-! ### Timeouts and retries -/

/-- The entry of a sequence number while its acknowledgement timeout has come (R176). -/
def State.timedOut? (s : State) (sequence : Nat) : Option InFlight :=
  (s.inFlight? sequence).filter fun e => e.timedOut s.clock.mono

/-- An acknowledgement timeout (R176): the frame is sent again, or at its third try given up and the table filled. -/
def State.ackTimeout (s : State) (e : InFlight) : State := if e.tries < 3 then s.sendAgain e else (s.giveUp e).fillTable

/-- ACK_TIMEOUT (R176). -/
def execAckTimeout (sequence : Nat) (s : State) : Result :=
  match s.timedOut? sequence with
  | some e => .next (s.ackTimeout e)
  | none => .next s

/-- Whether an UNCONFIRMED record's retry timer has expired (R176). -/
def State.retryDue (s : State) (p : Param) : Bool :=
  decide ((s.param p).state = .unconfirmed) && reached (s.param p).retryAt s.clock.mono

/-- A retry timer's expiry (R176): while the link is LOST it restarts; else the record is DIRTY and sent in its turn. -/
def State.retry (s : State) (p : Param) : State :=
  if s.site.link = .lost then s.putParam p { s.param p with retryAt := some (s.clock.mono + 30000) }
  else (s.putParam p { s.param p with state := .dirty, retryAt := none }).fillTable

/-- RETRY_TIMER (R176). -/
def execRetryTimer (param : Param) (s : State) : Result := if s.retryDue param then .next (s.retry param) else .next s

/-! ### Link supervision, changeover and reading age -/

/-- Whether the silence timer has reached a count of ms (R178). -/
def State.silentFor (s : State) (ms : Nat) : Bool := reached (s.site.silenceFrom.map (· + ms)) s.clock.mono

/-- SILENCE_TIMER_DEGRADE (R178): from UP to DEGRADED. -/
def execSilenceTimerDegrade (s : State) : Result :=
  if s.site.link = .up ∧ s.silentFor 3000 = true then .next { s with site := { s.site with link := .degraded } }
  else .next s

/-- SILENCE_TIMER_LOSS (R178): from DEGRADED to LOST. -/
def execSilenceTimerLoss (s : State) : Result :=
  if s.site.link = .degraded ∧ s.silentFor 10000 = true then .next { s with site := { s.site with link := .lost } }
  else .next s

/-- The changeover in progress whose timer has expired (R180). -/
def State.changeoverDue? (s : State) : Option Changeover :=
  s.site.changeover.filter fun c => decide (c.startedAt + 20000 ≤ s.clock.mono)

/-- CHANGEOVER_TIMER (R180). -/
def execChangeoverTimer (s : State) : Result :=
  match s.changeoverDue? with
  | some c => .next (s.failChangeover c)
  | none => .next s

/-- Whether a VALID reading's age has passed 10,000 ms (R182). -/
def State.staleDue (s : State) (c : Fin 8) : Bool :=
  let r := s.site.readings[c]
  decide (r.state = .valid) && reached (r.takenAt.map (· + 10001)) s.clock.mono

/-- READING_STALE (R182). -/
def execReadingStale (channel : Fin 8) (s : State) : Result :=
  if s.staleDue channel then .next (s.putReading channel { s.site.readings[channel] with state := .stale })
  else .next s

end Sys2Proof.Machine
end

