-- ==== Sys2Proof/Machine/Port.lean ====
section
/-! DEFINITION. The command port's transactions (R187 to R189, R199, R200). A WRITE of a whole request is that request's own
command; WRITE_TRANSACTION_BAD and PORT_OVERRUN bring a transaction as its bytes, and READ clocks out the response. -/

namespace Sys2Proof.Machine

/-- A request handed to its owner's meaning (R188, stages 4 and 5). A command that no request frame holds changes
nothing. -/
def runRequest (i : Instr) (s : State) : Result :=
  match i with
  | .roInsert role anchor body => execRoInsert role anchor body s
  | .roChange role handle body => execRoChange role handle body s
  | .roMove role handle list anchor => execRoMove role handle list anchor s
  | .roDelete role handle => execRoDelete role handle s
  | .breakClear role brk => execBreakClear role brk s
  | .roRead role handle => execRoRead role handle s
  | .roList role list start => execRoList role list start s
  | .airMode role mode => execAirMode role mode s
  | .airGo role => execAirGo role s
  | .airEndSegment role => execAirEndSegment role s
  | .airHold role => execAirHold role s
  | .airResume role => execAirResume role s
  | .airStep role => execAirStep role s
  | .airHoldAtPoint role value => execAirHoldAtPoint role value s
  | .airStop role => execAirStop role s
  | .airStart role => execAirStart role s
  | .airCueTo role handle => execAirCueTo role handle s
  | .airStatus role => execAirStatus role s
  | .playerCue role player cart length => execPlayerCue role player cart length s
  | .playerClear role player => execPlayerClear role player s
  | .playerRead role player => execPlayerRead role player s
  | .lookaheadRead role start => execLookaheadRead role start s
  | .timingRead role => execTimingRead role s
  | .busFader role source value => execBusFader role source value s
  | .busTrim role source value => execBusTrim role source value s
  | .micSwitch role source value => execMicSwitch role source value s
  | .busRead role => execBusRead role s
  | .lineAnswer role line => execLineAnswer role line s
  | .lineAccept role line name topic priority => execLineAccept role line name topic priority s
  | .lineReject role line => execLineReject role line s
  | .lineRelease role line => execLineRelease role line s
  | .lineTake role line => execLineTake role line s
  | .lineDrop role line => execLineDrop role line s
  | .lineService role line value => execLineService role line value s
  | .queueMove role line position => execQueueMove role line position s
  | .linePin role line => execLinePin role line s
  | .lineNotes role line name topic => execLineNotes role line name topic s
  | .callerRead role line => execCallerRead role line s
  | .queueRead role => execQueueRead role s
  | .classRead role cls => execClassRead role cls s
  | .classWrite role cls action deadline required => execClassWrite role cls action deadline required s
  | .classProbe role cls action deadline required => execClassProbe role cls action deadline required s
  | .complianceLock role => execComplianceLock role s
  | .alertCarry role origin number => execAlertCarry role origin number s
  | .alertDismiss role origin number => execAlertDismiss role origin number s
  | .alertRead role origin number => execAlertRead role origin number s
  | .alertList role => execAlertList role s
  | .carriageRead role => execCarriageRead role s
  | .siteSet role param value => execSiteSet role param value s
  | .siteRead role => execSiteRead role s
  | .configWriteTolerance role value => execConfigWriteTolerance role value s
  | .configWriteCueGrace role value => execConfigWriteCueGrace role value s
  | .configWriteFillPlayer role value => execConfigWriteFillPlayer role value s
  | .configWriteThreshold role value => execConfigWriteThreshold role value s
  | .configWriteDeadAirLimit role value => execConfigWriteDeadAirLimit role value s
  | .configWriteDuckDepth role value => execConfigWriteDuckDepth role value s
  | .configWriteHoldLimit role value => execConfigWriteHoldLimit role value s
  | .configWriteFoldBackLimit role value => execConfigWriteFoldBackLimit role value s
  | .configWriteCalibration role item value => execConfigWriteCalibration role item value s
  | .configRead role => execConfigRead role s
  | .clockSet role time => execClockSet role time s
  | .clockRead role => execClockRead role s
  | .ident role => execIdent role s
  | .controllerReset role => execControllerReset role s
  | .eventsRead role => execEventsRead role s
  | .eventsClear role pairs => execEventsClear role pairs s
  | .eventsMask role mask => execEventsMask role mask s
  | _ => .next s

/-! ### WRITE -/

/-- The request code as received: the fourth byte after the transaction byte, where there is one (R189). -/
def receivedCode (bytes : List Byte) : Option Byte := bytes[3]?

/-- A WRITE answered with a status and no fields, carrying the request code as received (R188); a frame too short to
hold a code is answered with a free value in its place (log entry 5). -/
def State.answerBad (s : State) (bytes : List Byte) (status : Status) : State :=
  match receivedCode bytes with
  | some c => s.answer c.toNat (.refuse status)
  | none => (s.answer (Config.missingCode s.freeUsed).toNat (.refuse status)).useFree

/-- A WRITE taken as select is released (R187 to R189): discarded while a response is unread, else checked by the stages
of R188 and handed to its owner. -/
def portWrite (bytes : List Byte) (s : State) : Result :=
  if s.port.response.isSome then .next (s.overrun (receivedCode bytes))
  else
    match decodeRequest bytes with
    | .badRequest => .next (s.answerBad bytes .badRequest)
    | .badCheck => .next (s.answerBad bytes .badCheck)
    | .request i => runRequest i s

/-! ### READ -/

/-- The code of a status (R200). -/
def Status.code : Status → Nat
  | .ok => 0 | .badRequest => 1 | .badCheck => 2 | .badField => 3 | .role => 4 | .stale => 5 | .full => 6
  | .onAir => 7 | .wrongState => 8 | .empty => 9 | .ended => 10 | .locked => 11

/-- The response frame (R200). -/
def Response.frame (r : Response) : List Byte :=
  let covered := be 2 (r.fields.length + 4) ++ [r.code] ++ be 1 r.status.code ++ r.fields
  sentFrame 0xC5#8 covered

/-- The bytes that a READ clocks out: the frame, or the single no-response byte, and then filler (R187, R200); that filler
follows the no-response byte too is DEDUCED (log entry 74). -/
def clockedOut (frame : List Byte) (clocked : Nat) : List Byte :=
  frame.take clocked ++ List.replicate (clocked - frame.length) 0xFF#8

/-- A READ of a number of bytes (R187): the response is discarded once every byte of it has been clocked out. -/
def portRead (clocked : Nat) (s : State) : State :=
  match s.port.response with
  | none => { s with port := { s.port with dataOut := .bytes (clockedOut [0x00#8] clocked) } }
  | some r =>
    { s with port :=
        { response := if r.frame.length ≤ clocked then none else some r
          dataOut := .bytes (clockedOut r.frame clocked) } }

/-! ### The transactions -/

/-- WRITE_TRANSACTION_BAD: a transaction given as its bytes (R187, R188). A WRITE is taken; a READ clocks out as many
bytes as follow the transaction byte; any other transaction byte makes the part ignore the rest and changes nothing, the
record of what was clocked out among it (log entry 14). -/
def execWriteTransactionBad (first : Byte) (bytes : List Byte) (s : State) : Result :=
  if first = 0xA5#8 then portWrite bytes s
  else if first = 0x5A#8 then .next (portRead bytes.length s)
  else .next s

/-- PORT_OVERRUN: a WRITE given as its bytes, discarded while a response is ready and unread (R189); with none unread it
is a WRITE like any other. -/
def execPortOverrun (bytes : List Byte) (s : State) : Result := portWrite bytes s

/-- READ (R187, R200). -/
def execRead (clocked : Nat) (s : State) : Result := .next (portRead clocked s)

end Sys2Proof.Machine
end

