-- ==== Sys2Proof/Machine/Clock.lean ====
section
/-! DEFINITION. Time. While no command waits, the part takes its own timed events: those whose time has come are taken one
by one, in an order that the manual leaves free where several are due (log entries 1 and 3), and when none is due the
clocks advance by one ms (5.2). -/

namespace Sys2Proof.Machine

/-- A command where it is due. -/
def dueIf (due : Bool) (i : Instr) : List Instr := if due then [i] else []

/-- The timed events of the sequencer, the players, the bus and the back-timer that are due. -/
def State.dueAir (s : State) : List Instr :=
  dueIf (decide (s.bus.gainAt ≤ s.clock.mono)) .gainUpdate ++
  dueIf (decide (s.bus.monitor.windowEnds ≤ s.clock.mono)) .deadAirWindow ++
  dueIf (decide (s.timer.periodicAt ≤ s.clock.mono)) .periodicTimer ++
  dueIf s.endDue .endTimer ++ dueIf s.segueDue .seguePoint ++ dueIf s.outgoingDue .outgoingEnd ++
  dueIf s.graceDue .graceDeadline ++ dueIf s.postDue .postInstant ++ dueIf s.cutDue .cutInstant ++
  (allPlayers.flatMap fun p => dueIf (s.rampDone p false) (.cutCompletion p)) ++
  (allPlayers.flatMap fun p => dueIf (s.rampDone p true) (.fillWithdrawalEnd p))

/-- The timed events of the lines that are due. -/
def State.dueLines (s : State) : List Instr :=
  (allLines.flatMap fun l => dueIf (s.loopDue l) (.loopDrop l)) ++
  (allLines.flatMap fun l => dueIf (s.ringDue l) (.ringTimer l)) ++
  (allLines.flatMap fun l => dueIf (s.clearingDue l) (.clearingTimer l)) ++
  (allLines.flatMap fun l => dueIf (s.holdDue l) (.holdTimer l))

/-- The timed events of the alert port, the alert table and the carriage that are due. -/
def State.dueAlerts (s : State) : List Instr :=
  dueIf s.alertGapDue .alertFrameGap ++
  (allSlots.flatMap fun k => dueIf (s.validDue k) (.validFrom k)) ++
  (allSlots.flatMap fun k => dueIf (s.expiryDue k) (.expiry k)) ++
  (allSlots.flatMap fun k => dueIf (s.eligibleDue k) (.nextEligible k)) ++
  (allSlots.flatMap fun k => dueIf (s.deadlineDue k) (.deadlineExpiry k)) ++
  dueIf s.guardDue .guardExpiry

/-- The timed events of the site link that are due. -/
def State.dueSite (s : State) : List Instr :=
  dueIf s.siteGapDue .siteFrameGap ++
  dueIf (decide (s.site.keepAt ≤ s.clock.mono)) .keepTimer ++
  dueIf (decide (s.site.pollAt ≤ s.clock.mono)) .pollTimer ++
  (s.site.inFlight.flatMap fun e => dueIf (e.timedOut s.clock.mono) (.ackTimeout e.sequence)) ++
  (allParams.flatMap fun p => dueIf (s.retryDue p) (.retryTimer p)) ++
  dueIf (decide (s.site.link = .up) && s.silentFor 3000) .silenceTimerDegrade ++
  dueIf (decide (s.site.link = .degraded) && s.silentFor 10000) .silenceTimerLoss ++
  dueIf s.changeoverDue?.isSome .changeoverTimer ++
  (allSlots.flatMap fun c => dueIf (s.staleDue c) (.readingStale c))

/-- Every timed event that is due. -/
def State.dueCommands (s : State) : List Instr := s.dueAir ++ s.dueLines ++ s.dueAlerts ++ s.dueSite

/-- The clocks advance by one ms (5.2). -/
def State.advance (s : State) : State :=
  { s with clock := { s.clock with
      mono := s.clock.mono + 1, station := (s.clock.station + 1) % Config.stationModulus } }

/-- What the part does while no command waits: a due event joins the queue, chosen by a free value where several are
due, or the clocks advance. -/
def State.tick (s : State) : State :=
  match s.dueCommands with
  | [] => s.advance
  | [i] => { s with pending := [i] }
  | i :: j :: rest =>
    let all := i :: j :: rest
    { s.useFree with pending := [all.getD (Config.tieChoice s.freeUsed % all.length) i] }

end Sys2Proof.Machine
end

