-- ==== Sys2Proof/Machine/Dispatch.lean ====
section
/-! DEFINITION. The meaning of every command: one arm per constructor, one call of its meaning. -/

namespace Sys2Proof.Machine

def exec (i : Instr) (s : State) : Host.Outcome State Fault Refusal :=
  match i with
  | .writeTransactionBad first bytes => Sys2Proof.Machine.execWriteTransactionBad first bytes s
  | .portOverrun bytes => Sys2Proof.Machine.execPortOverrun bytes s
  | .read clocked => Sys2Proof.Machine.execRead clocked s
  | .roInsert role anchor body => Sys2Proof.Machine.execRoInsert role anchor body s
  | .roChange role handle body => Sys2Proof.Machine.execRoChange role handle body s
  | .roMove role handle list anchor => Sys2Proof.Machine.execRoMove role handle list anchor s
  | .roDelete role handle => Sys2Proof.Machine.execRoDelete role handle s
  | .breakClear role brk => Sys2Proof.Machine.execBreakClear role brk s
  | .roRead role handle => Sys2Proof.Machine.execRoRead role handle s
  | .roList role list start => Sys2Proof.Machine.execRoList role list start s
  | .airMode role mode => Sys2Proof.Machine.execAirMode role mode s
  | .airGo role => Sys2Proof.Machine.execAirGo role s
  | .airEndSegment role => Sys2Proof.Machine.execAirEndSegment role s
  | .airHold role => Sys2Proof.Machine.execAirHold role s
  | .airResume role => Sys2Proof.Machine.execAirResume role s
  | .airStep role => Sys2Proof.Machine.execAirStep role s
  | .airHoldAtPoint role value => Sys2Proof.Machine.execAirHoldAtPoint role value s
  | .airStop role => Sys2Proof.Machine.execAirStop role s
  | .airStart role => Sys2Proof.Machine.execAirStart role s
  | .airCueTo role handle => Sys2Proof.Machine.execAirCueTo role handle s
  | .airStatus role => Sys2Proof.Machine.execAirStatus role s
  | .playerCue role player cart length => Sys2Proof.Machine.execPlayerCue role player cart length s
  | .playerClear role player => Sys2Proof.Machine.execPlayerClear role player s
  | .playerRead role player => Sys2Proof.Machine.execPlayerRead role player s
  | .lookaheadRead role start => Sys2Proof.Machine.execLookaheadRead role start s
  | .timingRead role => Sys2Proof.Machine.execTimingRead role s
  | .busFader role source value => Sys2Proof.Machine.execBusFader role source value s
  | .busTrim role source value => Sys2Proof.Machine.execBusTrim role source value s
  | .micSwitch role source value => Sys2Proof.Machine.execMicSwitch role source value s
  | .busRead role => Sys2Proof.Machine.execBusRead role s
  | .lineAnswer role line => Sys2Proof.Machine.execLineAnswer role line s
  | .lineAccept role line name topic priority => Sys2Proof.Machine.execLineAccept role line name topic priority s
  | .lineReject role line => Sys2Proof.Machine.execLineReject role line s
  | .lineRelease role line => Sys2Proof.Machine.execLineRelease role line s
  | .lineTake role line => Sys2Proof.Machine.execLineTake role line s
  | .lineDrop role line => Sys2Proof.Machine.execLineDrop role line s
  | .lineService role line value => Sys2Proof.Machine.execLineService role line value s
  | .queueMove role line position => Sys2Proof.Machine.execQueueMove role line position s
  | .linePin role line => Sys2Proof.Machine.execLinePin role line s
  | .lineNotes role line name topic => Sys2Proof.Machine.execLineNotes role line name topic s
  | .callerRead role line => Sys2Proof.Machine.execCallerRead role line s
  | .queueRead role => Sys2Proof.Machine.execQueueRead role s
  | .classRead role cls => Sys2Proof.Machine.execClassRead role cls s
  | .classWrite role cls action deadline required => Sys2Proof.Machine.execClassWrite role cls action deadline required s
  | .classProbe role cls action deadline required => Sys2Proof.Machine.execClassProbe role cls action deadline required s
  | .complianceLock role => Sys2Proof.Machine.execComplianceLock role s
  | .alertCarry role origin number => Sys2Proof.Machine.execAlertCarry role origin number s
  | .alertDismiss role origin number => Sys2Proof.Machine.execAlertDismiss role origin number s
  | .alertRead role origin number => Sys2Proof.Machine.execAlertRead role origin number s
  | .alertList role => Sys2Proof.Machine.execAlertList role s
  | .carriageRead role => Sys2Proof.Machine.execCarriageRead role s
  | .siteSet role param value => Sys2Proof.Machine.execSiteSet role param value s
  | .siteRead role => Sys2Proof.Machine.execSiteRead role s
  | .configWriteTolerance role value => Sys2Proof.Machine.execConfigWriteTolerance role value s
  | .configWriteCueGrace role value => Sys2Proof.Machine.execConfigWriteCueGrace role value s
  | .configWriteFillPlayer role value => Sys2Proof.Machine.execConfigWriteFillPlayer role value s
  | .configWriteThreshold role value => Sys2Proof.Machine.execConfigWriteThreshold role value s
  | .configWriteDeadAirLimit role value => Sys2Proof.Machine.execConfigWriteDeadAirLimit role value s
  | .configWriteDuckDepth role value => Sys2Proof.Machine.execConfigWriteDuckDepth role value s
  | .configWriteHoldLimit role value => Sys2Proof.Machine.execConfigWriteHoldLimit role value s
  | .configWriteFoldBackLimit role value => Sys2Proof.Machine.execConfigWriteFoldBackLimit role value s
  | .configWriteCalibration role item value => Sys2Proof.Machine.execConfigWriteCalibration role item value s
  | .configRead role => Sys2Proof.Machine.execConfigRead role s
  | .clockSet role time => Sys2Proof.Machine.execClockSet role time s
  | .clockRead role => Sys2Proof.Machine.execClockRead role s
  | .ident role => Sys2Proof.Machine.execIdent role s
  | .controllerReset role => Sys2Proof.Machine.execControllerReset role s
  | .eventsRead role => Sys2Proof.Machine.execEventsRead role s
  | .eventsClear role pairs => Sys2Proof.Machine.execEventsClear role pairs s
  | .eventsMask role mask => Sys2Proof.Machine.execEventsMask role mask s
  | .powerOnReset levels => Sys2Proof.Machine.execPowerOnReset levels s
  | .goEdge => Sys2Proof.Machine.execGoEdge s
  | .netAEdge => Sys2Proof.Machine.execNetAEdge s
  | .netBEdge => Sys2Proof.Machine.execNetBEdge s
  | .endInput player => Sys2Proof.Machine.execEndInput player s
  | .endTimer => Sys2Proof.Machine.execEndTimer s
  | .seguePoint => Sys2Proof.Machine.execSeguePoint s
  | .outgoingEnd => Sys2Proof.Machine.execOutgoingEnd s
  | .graceDeadline => Sys2Proof.Machine.execGraceDeadline s
  | .postInstant => Sys2Proof.Machine.execPostInstant s
  | .cutInstant => Sys2Proof.Machine.execCutInstant s
  | .cutCompletion player => Sys2Proof.Machine.execCutCompletion player s
  | .fillWithdrawalEnd player => Sys2Proof.Machine.execFillWithdrawalEnd player s
  | .gainUpdate => Sys2Proof.Machine.execGainUpdate s
  | .deadAirWindow => Sys2Proof.Machine.execDeadAirWindow s
  | .periodicTimer => Sys2Proof.Machine.execPeriodicTimer s
  | .ringEvent line => Sys2Proof.Machine.execRingEvent line s
  | .loopEdge line level => Sys2Proof.Machine.execLoopEdge line level s
  | .loopDrop line => Sys2Proof.Machine.execLoopDrop line s
  | .ringTimer line => Sys2Proof.Machine.execRingTimer line s
  | .clearingTimer line => Sys2Proof.Machine.execClearingTimer line s
  | .holdTimer line => Sys2Proof.Machine.execHoldTimer line s
  | .issue frame => Sys2Proof.Machine.execIssue frame s
  | .cancel origin number => Sys2Proof.Machine.execCancel origin number s
  | .audioEnd => Sys2Proof.Machine.execAudioEnd s
  | .audioFail => Sys2Proof.Machine.execAudioFail s
  | .alertFrameAbandoned bytes => Sys2Proof.Machine.execAlertFrameAbandoned bytes s
  | .alertFrameGap => Sys2Proof.Machine.execAlertFrameGap s
  | .alertFrameSent => Sys2Proof.Machine.execAlertFrameSent s
  | .validFrom slot => Sys2Proof.Machine.execValidFrom slot s
  | .expiry slot => Sys2Proof.Machine.execExpiry slot s
  | .nextEligible slot => Sys2Proof.Machine.execNextEligible slot s
  | .deadlineExpiry slot => Sys2Proof.Machine.execDeadlineExpiry slot s
  | .guardExpiry => Sys2Proof.Machine.execGuardExpiry s
  | .ack sequence param value => Sys2Proof.Machine.execAck sequence param value s
  | .nak sequence reason => Sys2Proof.Machine.execNak sequence reason s
  | .reading sequence channel code => Sys2Proof.Machine.execReading sequence channel code s
  | .siteState active carrier audio fallback => Sys2Proof.Machine.execSiteState active carrier audio fallback s
  | .siteFrameAbandoned bytes => Sys2Proof.Machine.execSiteFrameAbandoned bytes s
  | .siteFrameGap => Sys2Proof.Machine.execSiteFrameGap s
  | .siteFrameSent => Sys2Proof.Machine.execSiteFrameSent s
  | .keepTimer => Sys2Proof.Machine.execKeepTimer s
  | .pollTimer => Sys2Proof.Machine.execPollTimer s
  | .ackTimeout sequence => Sys2Proof.Machine.execAckTimeout sequence s
  | .retryTimer param => Sys2Proof.Machine.execRetryTimer param s
  | .silenceTimerDegrade => Sys2Proof.Machine.execSilenceTimerDegrade s
  | .silenceTimerLoss => Sys2Proof.Machine.execSilenceTimerLoss s
  | .changeoverTimer => Sys2Proof.Machine.execChangeoverTimer s
  | .readingStale channel => Sys2Proof.Machine.execReadingStale channel s
  | .cueInputFall input => Sys2Proof.Machine.execCueInputFall input s
  | .ringFall line => Sys2Proof.Machine.execRingFall line s
  | .samplePeriod lanes talkback => Sys2Proof.Machine.execSamplePeriod lanes talkback s

end Sys2Proof.Machine
end

