-- ==== Sys2Proof/Safety.lean ====
section
/-! DEFINITION. What holds of the part at every moment, in the terms that the statements use: the range of station time,
the ranges of the counts, the limit on callers on air, the limits on frames in flight, and the canonical form of the two
sparse tables. Each is a property that a step keeps (Sys2Proof/Certificates/Slice0/Obligations.lean states so). -/

namespace Sys2Proof.Safety

open Sys2Proof.Machine

/-- Station time runs 0 .. 2^40-1 (5.2). -/
def stationInRange (s : State) : Prop := s.clock.station < Config.stationModulus

/-- The count of every occurrence's record is 0..255 (R194), and the two discard counts are 0..65,535 (R127, R168). -/
def countsInRange (s : State) : Prop :=
  (∀ o : Occurrence, (s.occurrence o).count ≤ 255) ∧ s.receiver.discards ≤ 65535 ∧ s.site.discards ≤ 65535

/-- At most two caller records are ON_AIR (R117). -/
def callersInLimit (s : State) : Prop := s.linesOnAir.length ≤ 2

/-- Whether an entry in flight is a SET for a parameter (R173). -/
def isSetFor (p : Param) (e : InFlight) : Bool :=
  match e.target with
  | .set q _ _ => decide (q = p)
  | .poll _ => false

/-- At most four site-link frames are in flight, and at most one of them is a SET for any one parameter (R173). -/
def flightInLimit (s : State) : Prop :=
  s.site.inFlight.length ≤ 4 ∧ ∀ p : Param, s.site.inFlight.countP (isSetFor p) ≤ 1

/-- The sparse tables, of the store's slots and of the alert classes, are in their canonical form: keys rising strictly
and no entry at its power-on value. -/
def tablesCanonical (s : State) : Prop :=
  tableWf Slot.fresh s.store.slots = true ∧ tableWf ClassEntry.fresh s.receiver.classes = true

/-- Every class with the required flag has the action MANDATORY_NOW or MANDATORY_BREAK (R139, R141). -/
def requiredIsMandatory (s : State) : Prop :=
  ∀ c : Nat, (s.classEntry c).required = true →
    (s.classEntry c).action = .mandatoryNow ∨ (s.classEntry c).action = .mandatoryBreak

/-! ### The command port, as the statements speak of it -/

/-- No response is unread, so that a WRITE is taken (R187, R189). -/
def portFree (s : State) : Prop := s.port.response = none

/-- The roles that the permission table of section 10.2 lists for a request code. -/
def permittedRoles (code : Nat) : List Role :=
  if code ∈ [0x15, 0x16, 0x2A, 0x2D, 0x30, 0x31, 0x3B, 0x4A, 0x4B, 0x50, 0x52, 0x56, 0x57, 0x58, 0x61, 0x71, 0x73, 0x74,
             0x76, 0x77, 0x78] then [.automation, .presenter, .screener, .engineer]
  else if code ∈ [0x10, 0x11, 0x12, 0x13, 0x14, 0x2B, 0x2C] then [.automation]
  else if code ∈ [0x21, 0x22, 0x23, 0x24, 0x25, 0x26, 0x54] then [.presenter, .automation]
  else if code ∈ [0x20, 0x27, 0x28, 0x29, 0x55] then [.presenter, .automation, .engineer]
  else if code ∈ [0x38, 0x3A] then [.presenter, .engineer]
  else if code ∈ [0x44, 0x45] then [.presenter]
  else if code ∈ [0x40, 0x41, 0x42, 0x47, 0x48, 0x49] then [.screener]
  else if code = 0x43 then [.screener, .presenter]
  else if code = 0x72 then [.engineer, .automation]
  else if code ∈ [0x39, 0x46, 0x51, 0x53, 0x60, 0x70, 0x75] then [.engineer]
  else []

/-- A WRITE discarded over an unread response: PORT_OVERRUN is raised with the code, and filler was clocked out. -/
def Overrun (s : State) (code : Option Byte) : State :=
  { s.raise .portOverrun (some (.portOverrun code)) with port := { s.port with dataOut := .filler } }

/-- A frame as it is sent: its start byte, the covered bytes, and their check with the high byte first (R199). -/
def frameBytes (start : Byte) (covered : List Byte) : List Byte := start :: (covered ++ be 2 (crc covered))

/-! ### A computation of the back-timer -/

/-- An unstarted entry's planned length; an alert's is its declared length (R72). -/
def plannedLength (r : Resolved) : Nat :=
  match r.source with
  | .item _ _ b => (b.item?.map ItemFields.planned).getD 0
  | .alert p => p.declared * 1000
  | .hold _ _ => 0
  | .endMark _ => 0

/-- What a pending entry adds to the projection: its planned length less its segue (R76). -/
def projected (r : Resolved) : Nat :=
  match r.source with
  | .item _ _ (.audio _ _ segue i) => i.planned - segue
  | _ => plannedLength r

/-- The timing class of an item; none for any other entry. -/
def timingOf (r : Resolved) : Option Timing :=
  match r.source with
  | .item _ _ b => b.item?.map ItemFields.timing
  | _ => none

/-- The room a pending entry has in a direction (R77, R78). -/
def roomOf (d : Direction) (r : Resolved) : Nat :=
  match d, timingOf r with
  | .shrink, some (.stretch lo _) => plannedLength r - lo
  | .extend, some (.stretch _ hi) => hi - plannedLength r
  | _, _ => 0

/-- The share of one capacity in an amount, by its place: the base share, and one ms of the remainder where the walk from
the end finds room and has an ms left (R79). -/
def shareAt (amount : Nat) (caps : List Nat) (i : Nat) : Nat :=
  let base (c : Nat) : Nat := amount * c / caps.sum
  let room (c : Nat) : Bool := decide (base c < c)
  let c := caps.getD i 0
  base c + (if room c = true ∧ (caps.drop (i + 1)).countP room < amount - (caps.map base).sum then 1 else 0)

/-- The on-air remainder by the table of R74, and by R75 in PREEMPTED while the carriage plays the revision stored. -/
def RemainderByTable (s : State) (a0 : Nat) : Prop :=
  (s.air.state = .running → ∀ o, s.air.onAir = some o →
    (∀ mono station, o.phase = .playing mono station → a0 = o.frozen - o.segue - (s.clock.mono - mono)) ∧
    (∀ d, o.phase = .cueing d → a0 = o.frozen - o.segue)) ∧
  (s.air.state = .waitGo ∨ s.air.state = .held ∨ s.air.state = .stopped ∨ s.air.state = .postWait → a0 = 0) ∧
  (s.air.state = .preempted → ∀ c a p, s.sched.carriage = some c → s.alert? c.slot = some a →
    a.frame.revision = c.revision → s.air.preemption = some p →
    (∀ o, p.policy = .resume → p.interrupted = some o →
      a0 = (a.frame.declared * 1000 - (s.clock.mono - c.startMono)) + (o.frozen - p.elapsed)) ∧
    (p.policy = .next → a0 = a.frame.declared * 1000 - (s.clock.mono - c.startMono)))

/-- The drops and stretches of a computation on its pending entries (R77 to R80). A DROP entry is marked exactly where the
float, with the shrink capacity and the DROP entries nearer the post, stays below minus the tolerance; what is then left
over is shared among the STRETCH entries by R79, and nothing else of the entries changes. -/
def DropsAndStretches (tolerance : Nat) (pending after : List Resolved) (rec : TimingRecord) (c : Computed) : Prop :=
  let marks (i : Nat) (r : Resolved) : Prop := timingOf r = some .drop ∧
    c.float + (pending.map (roomOf .shrink)).sum +
      (((pending.drop (i + 1)).filter fun q => decide (timingOf q = some .drop)).map projected).sum < -(tolerance : Int)
  let f := c.float + ((after.filter Resolved.dropMark).map projected).sum
  let caps := pending.map (roomOf c.direction)
  c.direction = (if f < -(tolerance : Int) then .shrink else if (tolerance : Int) < f then .extend else .none) ∧
  c.amount = (if c.direction = .none then 0 else min f.natAbs caps.sum) ∧
  c.residual = (match c.direction with | .shrink => f + c.amount | .extend => f - c.amount | .none => f) ∧
  after.length = pending.length ∧
  (∀ i r q, pending[i]? = some r → after[i]? = some q →
    q = { r with effective := q.effective, dropMark := q.dropMark } ∧ (q.dropMark = true ↔ marks i r) ∧
    q.effective = (match c.direction with
      | .shrink => plannedLength r - shareAt c.amount caps i
      | .extend => plannedLength r + shareAt c.amount caps i
      | .none => plannedLength r)) ∧
  rec.dropCount = after.countP Resolved.dropMark ∧
  rec.stretchCount = after.countP (fun q => decide (q.effective ≠ plannedLength q))

/-- From `s` to `t` the back-timer has computed with a post entry found: the entries from `start` on are the pending ones,
the post entry and the rest (R71 to R81), and the post watch has been handed the record (R62). -/
def TimedByPost (s t : State) (start : Nat) (pending : List Resolved) (p : Resolved) (post : Post)
    (rest : List Resolved) : Prop :=
  ∃ c, t.timer.record.state = .computed c ∧ c.handle = p.source.handle ∧ c.iteration = p.iteration ∧
    c.index = start + pending.length ∧ c.postKind = post.kind ∧ c.timeOfDay = post.timeOfDay ∧
    s.clock.station ≤ c.instant ∧ c.instant < s.clock.station + 86400000 ∧ c.instant % 86400000 = post.timeOfDay ∧
    RemainderByTable s c.remainder ∧
    c.projection = s.clock.station + c.remainder + (pending.map projected).sum ∧
    c.float = (c.instant : Int) - c.projection ∧
    DropsAndStretches s.timer.tolerance pending ((t.interp.look.drop start).take pending.length) t.timer.record c ∧
    t.interp.look.take start = s.interp.look.take start ∧
    t.interp.look.drop (start + pending.length) =
      (p :: rest).map (fun r => { r with effective := plannedLength r, dropMark := false }) ∧
    t.timer.dropSet =
      ((t.interp.look.drop start).filter Resolved.dropMark).map (fun r => (r.source.handle, r.iteration)) ∧
    ((∀ x, x ∈ t.timer.dropSet ↔ x ∈ s.timer.dropSet) → t.events = s.events) ∧
    ((¬ ∀ x, x ∈ t.timer.dropSet ↔ x ∈ s.timer.dropSet) →
      (t.occurrence .timingChanged).count = countUp 255 (s.occurrence .timingChanged).count ∧
      (t.occurrence .timingChanged).detail = some (.timingChanged t.timer.record.dropCount (some c.residual))) ∧
    (post.kind = .nearest → t.air.watch = .disarmed) ∧
    (post.kind = .exact → s.air.watch = .disarmed → t.air.watch = .armed
      { handle := c.handle, iteration := c.iteration, instant := c.instant, cut := c.instant + s.timer.tolerance }) ∧
    (∀ w, post.kind = .exact → s.air.watch = .armed w ∨ s.air.watch = .deferred w →
      t.air.watch = if w.handle = c.handle ∧ w.iteration = c.iteration then s.air.watch else .armed
        { handle := c.handle, iteration := c.iteration, instant := c.instant, cut := c.instant + s.timer.tolerance })

/-! ### Resolution -/

/-- What the walk gives a resolved entry; its effective length and its drop mark are the back-timer's. -/
def walked (r : Resolved) : Source × List Nat × Option ListId × Bool × Context :=
  (r.source, r.iteration, r.fromBreak, r.breakStart, r.after)

/-- From `s` to `t` the interpreter has made a rebuild of the new store: the positions held are repaired for the entries
that left a list, the held head stays, the rest of the lookahead is the walk from its context, or from the play position,
and the sequence number has advanced (R33, R34). -/
def Rebuilt (s t : State) (departed : List (Nat × Nat)) : Prop :=
  let kept := (if s.interp.held then s.interp.look.take 1 else []).map fun r =>
    { r with after := r.after.repair departed }
  let play := s.interp.play.repair departed
  let ctx := match kept with | r :: _ => r.after | [] => play
  t.interp.look.map walked = (resolve t.store ctx kept (Vector.replicate 17 false)).look.map walked ∧
  t.interp.play = play ∧ t.interp.held = s.interp.held ∧ t.interp.seqNo = (s.interp.seqNo + 1) % 65536

/-- From `s` to `t` the interpreter has taken a notice of lists that the lookahead does not draw on: the positions held
are repaired for the entries that left a list, and nothing else changes (R33). -/
def Repaired (s t : State) (departed : List (Nat × Nat)) : Prop :=
  t.interp = { s.interp with
    play := s.interp.play.repair departed
    look := s.interp.look.map fun r => { r with after := r.after.repair departed } } ∧
  t.timer = s.timer

/-- The walk goes on after an entry it has skipped with a fault (R29). -/
def skipped (w : Walk) (h : Nat) (l : ListId) (reported : Nat) (why : WalkFault) : Walk :=
  { w with ctx := { w.ctx with pos := .after h l }, faults := w.faults ++ [(reported, why)] }

/-- An entry appended by the walk carries the counts of its frames, outermost first, the break it came from and the
break-start flag, and starts at its planned length without a drop mark (R24). -/
def appendedBy (w : Walk) (src : Source) (effective : Nat) (after : Context) : Resolved :=
  { source := src, iteration := (w.ctx.stack.map Frame.remaining).reverse,
    fromBreak := w.ctx.call.map CallFrame.brk, breakStart := w.breakNext, effective, dropMark := false, after }

/-- The walk at an item, at a HOLD_POINT, at an END and at the end of a list (R25, R27, R28). -/
def WalkStepsBySource (st : Store) (w : Walk) : Prop :=
  (∀ h e, st.next w.ctx.pos = some h → st.find? h = some e →
    (∀ i, e.body.item? = some i →
      let after : Context :=
        { pos := .after h w.ctx.pos.list, call := w.ctx.call, stack := w.ctx.stack.map fun f => { f with pass := true } }
      w.step st = { w with
        look := w.look ++ [appendedBy w (.item h w.ctx.pos.list e.body) i.planned after]
        breakNext := false, ctx := after, drawn := w.drawn.set w.ctx.pos.list true }) ∧
    (e.body = .holdPoint →
      let after : Context := { w.ctx with pos := .after h w.ctx.pos.list }
      w.step st = { w with
        look := w.look ++ [appendedBy w (.hold h w.ctx.pos.list) 0 after]
        breakNext := false, ctx := after, drawn := w.drawn.set w.ctx.pos.list true }) ∧
    (e.body = .endMark →
      let after : Context := { w.ctx with pos := .after h w.ctx.pos.list }
      w.step st = { w with
        look := w.look ++ [appendedBy w (.endMark (some (h, w.ctx.pos.list))) 0 after]
        breakNext := false, ctx := after, drawn := w.drawn.set w.ctx.pos.list true, stopped := true })) ∧
  (st.next w.ctx.pos = none →
    let stack := w.ctx.stack.filter fun f => decide (f.list ≠ w.ctx.pos.list)
    (∀ c, w.ctx.call = some c → w.ctx.pos.list ≠ 0 → w.step st = { w with ctx := { pos := c.ret, stack, call := none } }) ∧
    (w.ctx.call = none ∨ w.ctx.pos.list = 0 →
      ∃ r, (w.step st).look = w.look ++ [r] ∧ r.source = .endMark none ∧ (w.step st).stopped = true ∧
        r.after = { pos := .at 0 w.ctx.pos.list, stack, call := w.ctx.call } ∧ (w.step st).faults = w.faults))

/-- The walk at a SPAN_START and at a SPAN_END (R26). -/
def WalkStepsBySpan (st : Store) (w : Walk) : Prop :=
  ∀ h e, st.next w.ctx.pos = some h → st.find? h = some e →
    let l := w.ctx.pos.list
    (∀ n, e.body = .spanStart n →
      w.step st = if 4 ≤ w.ctx.stack.length then skipped w h l h .spanDepth
        else { w with ctx := { w.ctx with
          pos := .after h l, stack := { handle := h, list := l, remaining := n, pass := false } :: w.ctx.stack } }) ∧
    (e.body = .spanEnd →
      (w.ctx.stack = [] → w.step st = skipped w h l h .spanUnmatched) ∧
      (∀ f below, w.ctx.stack = f :: below →
        let popped : Walk := { w with ctx := { w.ctx with stack := below } }
        w.step st =
          if f.list ≠ l then skipped w h l h .spanUnmatched
          else if f.remaining = 1 then { w with ctx := { w.ctx with pos := .after h l, stack := below } }
          else if f.pass = false then skipped popped h l f.handle .spanNoItem
          else if f.handle ∉ st.order l ∨ st.live f.handle = false then skipped popped h l f.handle .staleHandle
          else { w with ctx := { w.ctx with
            pos := .after f.handle l, stack := { f with remaining := f.remaining - 1, pass := false } :: below } }))

/-- The walk at a CALL (R27). -/
def WalkStepsByCall (st : Store) (w : Walk) : Prop :=
  ∀ h e b, st.next w.ctx.pos = some h → st.find? h = some e → e.body = .call b →
    (w.ctx.pos.list ≠ 0 → w.step st = skipped w h w.ctx.pos.list h .callInBreak) ∧
    (w.ctx.pos.list = 0 → st.order b = [] →
      w.step st = { skipped w h 0 h .breakEmpty with drawn := w.drawn.set b true }) ∧
    (w.ctx.pos.list = 0 → st.order b ≠ [] →
      w.step st = { w with
        drawn := w.drawn.set b true, breakNext := true,
        ctx := { w.ctx with pos := .start b, call := some { brk := b, ret := .after h 0 } } })

/-! ### What an edit of the running order leaves alone -/

/-- From `s` to `t`, everything is as it was but the store, the interpreter, the timing record with its drop set, the
post watch, the two occurrences LOOKAHEAD_FAULT and TIMING_CHANGED, and the response, with filler clocked out (R10, R33,
R69, R187). -/
def EditFrame (s t : State) : Prop :=
  t.clock = s.clock ∧ t.air = { s.air with watch := t.air.watch } ∧
  t.timer = { s.timer with record := t.timer.record, dropSet := t.timer.dropSet } ∧
  t.bus = s.bus ∧ t.lines = s.lines ∧ t.receiver = s.receiver ∧ t.sched = s.sched ∧ t.site = s.site ∧
  t.port.dataOut = .filler ∧ t.events.mask = s.events.mask ∧
  (∀ o, o ≠ .lookaheadFault → o ≠ .timingChanged → t.occurrence o = s.occurrence o) ∧
  t.freeUsed = s.freeUsed ∧ t.pending = s.pending

/-! ### Entries going on air and ending -/

/-- The head is a live LIVE entry with these item fields and without a drop mark (R47). -/
def LiveHead (s : State) (r : Resolved) (timed : Bool) (item : ItemFields) : Prop :=
  s.interp.look.head? = some r ∧ r.dropMark = false ∧
  ∃ h l, r.source = .item h l (.live timed item) ∧ s.store.live h = true

/-- A LIVE entry with these item fields needs no go: AUTO, and no wait-for-go (R43). -/
def NeedsNoGo (s : State) (item : ItemFields) : Prop := s.air.mode = .auto ∧ item.waitForGo = false

/-- The head has been taken and a LIVE or JOIN entry is PLAYING from the present moment, its frozen length its effective
length, with an end timer when it is timed (R47, R48, R50); the blocks that the start does not concern are as they
were. -/
def PlainStarted (s t : State) (r : Resolved) (timed : Bool) : Prop :=
  t.air.state = .running ∧ t.interp.held = true ∧ t.air.goLatch = false ∧
  t.air.onAir = some
    { source := r.source, iteration := r.iteration, phase := .playing s.clock.mono s.clock.station, player := none,
      frozen := r.effective, segue := r.segue,
      endTimer := if timed then some (s.clock.mono + r.effective) else none, seguePoint := none } ∧
  (t.occurrence .entryStarted).count = countUp 255 (s.occurrence .entryStarted).count ∧
  t.clock = s.clock ∧ t.store = s.store ∧ t.lines = s.lines ∧ t.receiver = s.receiver ∧ t.sched = s.sched ∧
  t.site = s.site ∧ t.freeUsed = s.freeUsed ∧ t.pending = s.pending

/-- The entry on air is the held head, an end-of-list END marker follows it, and no alert waits to be placed. -/
def LastBeforeEnd (s : State) (o : OnAir) (r e : Resolved) : Prop :=
  s.air.onAir = some o ∧ s.interp.look = [r, e] ∧ s.interp.held = true ∧ r.source = o.source ∧
  e.source = .endMark none ∧ s.interp.placement = []

/-- The entry of a handle is not retired when it ends COMPLETE: it is stale, or it is no one-shot (R18). -/
def KeptAtEnd (s : State) (h : Nat) : Prop :=
  ∀ en, s.store.find? h = some en → (en.body.item?.map ItemFields.oneShot).getD false = false

/-- The entry on air has ended with an outcome and the sequencer has come to the end of the running order (R47, R51). -/
def StoppedAtEnd (s t : State) (h : Nat) (x : Ending) : Prop :=
  t.air.state = .stopped ∧ t.air.onAir = none ∧ t.air.lastEnding = some (h, x) ∧ t.interp.held = false ∧
  t.interp.look.length = 1 ∧ (t.occurrence .entryEnded).count = countUp 255 (s.occurrence .entryEnded).count ∧
  (t.occurrence .entryEnded).detail = some (.entryEnded h x) ∧
  t.clock = s.clock ∧ t.store = s.store ∧ t.lines = s.lines ∧ t.receiver = s.receiver ∧ t.sched = s.sched ∧
  t.site = s.site ∧ t.freeUsed = s.freeUsed ∧ t.pending = s.pending

/-! ### The mix -/

/-- A value saturated to the 24 bits of a sample (R95). -/
def fullScale (v : Int) : Sample := BitVec.ofInt 24 (max (-8388608) (min 8388607 v))

/-- The sum of the samples of the sources at gain 0 (R95). -/
def sumAtUnity (s : State) (lanes : Vector Sample 14) : Int :=
  ((allSources.filter fun i => decide ((s.source i).current = 0)).map fun i => (lanes[i]).toInt).sum

/-! ### Callers -/

/-- A line's record as it enters ON_AIR (R117). -/
def WentOnAir (s : State) (l : Fin 6) : Caller :=
  { s.caller l with state := .onAir, holdTimer := none, overdue := false, pinned := false,
                    airSince := some s.clock.mono }

/-- The lines that a PHONE entry takes at its start: from the head of the queue, past those pinned or overdue, as many as
it asks for and as there are places (R120). -/
def TakenCallers (s : State) (part : PhonePart) : List (Fin 6) :=
  (s.lines.queue.filter fun l => !((s.caller l).pinned || (s.caller l).overdue)).take
    (min part.callers (2 - s.linesOnAir.length))

/-- The record of a line that was ON_AIR after a segment's end action (R122): on hold as R118 sets out, or clearing with
last end SEGMENT_END as R111 does. -/
def AfterSegment (s : State) (l : Fin 6) (a : EndAction) : Caller :=
  let off := { s.caller l with airTime := (s.caller l).airTimeAt s.clock.mono, airSince := none, restore := false }
  match a with
  | .hold => { off with state := .hold, holdTimer := some (s.clock.mono + s.lines.holdLimit * 60000) }
  | .release => { off with
      state := .clearing, lastEnd := some .segmentEnd, loopTimer := none, holdTimer := none, overdue := false,
      pinned := false, clearingTimer := some (s.clock.mono + 1000) }

/-- A line that was not ON_AIR has entered CLEARING with a last end: HOOK is released, the line is in no queue, its
timers and flags are off and the clearing timer of 1,000 ms runs (R111); no other line's record has changed. -/
def CallCleared (s t : State) (l : Fin 6) (e : LastEnd) : Prop :=
  (t.caller l).state = .clearing ∧ (t.caller l).lastEnd = some e ∧ t.hook l = false ∧ l ∉ t.lines.queue ∧
  (t.caller l).loopTimer = none ∧ (t.caller l).holdTimer = none ∧ (t.caller l).overdue = false ∧
  (t.caller l).pinned = false ∧ (t.caller l).restore = false ∧
  (t.caller l).clearingTimer = some (s.clock.mono + 1000) ∧
  (∀ m, m ≠ l → t.caller m = s.caller m) ∧
  t.clock = s.clock ∧ t.store = s.store ∧ t.interp = s.interp ∧ t.air = s.air ∧ t.timer = s.timer ∧ t.bus = s.bus ∧
  t.receiver = s.receiver ∧ t.sched = s.sched ∧ t.site = s.site ∧ t.freeUsed = s.freeUsed ∧ t.pending = s.pending

/-! ### Alerts -/

/-- A record that was not ON_AIR has been retired: its slot is empty, its schedule entry says nothing, and the last
retirement note names it (R137). The other slots hold what they held. -/
def Retired (s t : State) (k : Fin 8) (a : Alert) (reason : Retirement) : Prop :=
  t.alert? k = none ∧ t.sched? k = SchedEntry.clear ∧
  t.receiver.lastRetirement =
    some { origin := a.frame.origin, number := a.frame.number, revision := a.frame.revision, reason } ∧
  (∀ j, j ≠ k → t.alert? j = s.alert? j ∧ t.sched? j = s.sched? j) ∧
  t.clock = s.clock ∧ t.store = s.store ∧ t.lines = s.lines ∧ t.bus = s.bus ∧ t.site = s.site ∧
  t.freeUsed = s.freeUsed ∧ t.pending = s.pending

/-- An ISSUE has been stored in a slot, and its immediate carriage has started: the record is ON_AIR, the carriage record
ACTIVE, the receipt and PLAY are queued, ALERT_FLAG is asked ON, the callers on air are held with their restore flag, and
the sequencer is PREEMPTED with nothing on its on-air record (R133, R156 to R158, R123). -/
def CarriageStarted (s t : State) (f : IssueFrame) (k : Fin 8) : Prop :=
  t.air.state = .preempted ∧ t.air.onAir = none ∧ t.air.outgoing = none ∧
  t.sched.carriage = some
    { slot := k, origin := f.origin, number := f.number, way := .immediate, startMono := s.clock.mono,
      startStation := s.clock.station, revision := f.revision, linkLost := decide (s.site.link = .lost),
      playSent := false, guardAt := s.clock.mono + f.declared * 1000 + 5000, serial := s.sched.serial,
      passed := false } ∧
  t.sched? k = { eligibility := .none, placed := false, base := none, passed := false } ∧
  t.alert? k = some
    { frame := f, state := .onAir, carried := 0, failed := 0, rank := 4, operatorCarry := false,
      storedAt := s.clock.mono, waitingSince := some s.clock.mono, nextEligible := none,
      revisionOnAir := some f.revision } ∧
  (∀ j, j ≠ k → t.alert? j = s.alert? j) ∧
  t.receiver.outgoing = s.receiver.outgoing ++
    [.receipt f.origin f.number f.revision .accepted, .play f.origin f.number s.sched.serial] ∧
  (t.param .alertFlag).desired = some 1 ∧ t.lines.alertHold = true ∧ t.lines.queue = s.lines.queue ∧
  t.lines.segment = s.lines.segment.map (fun g => { g with suspended := true }) ∧
  (∀ l, t.caller l = if (s.caller l).state = .onAir then
    { s.caller l with state := .hold, airTime := (s.caller l).airTimeAt s.clock.mono, airSince := none,
                      holdTimer := some (s.clock.mono + s.lines.holdLimit * 60000), restore := true }
    else s.caller l) ∧
  (t.occurrence .alertStarted).count = countUp 255 (s.occurrence .alertStarted).count ∧
  (t.occurrence .alertStarted).detail =
    some (.alertStarted f.origin f.number f.revision .immediate (decide (s.site.link = .lost))) ∧
  t.clock = s.clock ∧ t.store = s.store ∧ t.port = s.port ∧ t.freeUsed = s.freeUsed ∧ t.pending = s.pending

/-- An immediate carriage of an alert is in progress that nothing complicates at its end: its PLAY has been sent, its
record is of the revision on air and was carried with the link there, no other record is ELIGIBLE, no post waits for the
air, and of the callers held at its start, with the alert hold flag set, none waits to be restored (R158 to R164, R123). -/
def PlainCarriage (s : State) (c : Carriage) (a : Alert) : Prop :=
  s.sched.carriage = some c ∧ c.way = .immediate ∧ c.playSent = true ∧ c.linkLost = false ∧
  s.alert? c.slot = some a ∧ a.frame.revision = c.revision ∧ a.frame.validFrom ≤ s.clock.station ∧
  (∀ k, (s.sched? k).eligibility ≠ .eligible) ∧ s.air.watch = .disarmed ∧ s.lines.alertHold = true ∧
  s.lines.segment = none ∧ (∀ l, (s.caller l).state = .hold → (s.caller l).restore = false)

/-- A carriage has ended with a reason, counted or not: the carriage record is IDLE, the note is written, ALERT_ENDED is
raised, the preemption record is empty, the alert hold flag is clear, and the site is told that no alert is on air (R160
to R164). -/
def CarriageEnded (s t : State) (c : Carriage) (reason : EndReason) (counted : Bool) : Prop :=
  t.sched.carriage = none ∧
  t.sched.lastNote = some
    { origin := c.origin, number := c.number, revision := c.revision, way := c.way, startStation := c.startStation,
      duration := s.clock.mono - c.startMono, reason, counted } ∧
  (t.occurrence .alertEnded).count = countUp 255 (s.occurrence .alertEnded).count ∧
  (t.occurrence .alertEnded).detail = some (.alertEnded c.origin c.number reason counted) ∧
  t.air.preemption = none ∧ (t.param .alertFlag).desired = some 0 ∧
  (∀ k, k ≠ c.slot → t.alert? k = s.alert? k) ∧ t.clock = s.clock ∧ t.store = s.store ∧
  t.lines = { s.lines with alertHold := false } ∧ t.port = s.port ∧ t.freeUsed = s.freeUsed ∧ t.pending = s.pending

/-! ### The site link -/

/-- A valid frame has been taken on a link that was UP: the silence timer runs afresh and the link is UP (R168, R178). -/
def FrameTaken (s t : State) : Prop :=
  t.site.link = .up ∧ t.site.silenceFrom = some s.clock.mono ∧ t.clock = s.clock ∧ t.store = s.store ∧
  t.interp = s.interp ∧ t.air = s.air ∧ t.timer = s.timer ∧ t.bus = s.bus ∧ t.lines = s.lines ∧
  t.receiver = s.receiver ∧ t.sched = s.sched ∧ t.port = s.port ∧ t.freeUsed = s.freeUsed ∧ t.pending = s.pending

end Sys2Proof.Safety
end

