-- ==== Sys2Proof/Certificates/Slice0/Obligations.lean ====
section
/-! DEFINITION. The statements for the provers. Each is about the part for every state and every operand that meet the
hypotheses it names; OBLIGATIONS.json lists them with the rules of spec/ that they rest on. -/

open Sys2Proof Sys2Proof.Machine Sys2Proof.Safety

/-! ### Steps, resets and the properties that every step keeps -/

/-- A step with a command at the front of the queue is that command's meaning on the state with the rest of the queue. On
an empty queue, with no timed event due, a step advances monotonic time by 1 ms and station time by 1 ms modulo 2^40 and
nothing else; with one due it puts a due event into the queue and changes no clock and no record (log entry 1). -/
def Obligations.StepTakesFrontOfQueue : Prop :=
  (∀ (c : Instr) (s : State), step { s with pending := c :: s.pending } = exec c s) ∧
  (∀ s : State, s.pending = [] → s.dueCommands = [] →
    step s = .next { s with clock := { s.clock with
      mono := s.clock.mono + 1, station := (s.clock.station + 1) % Config.stationModulus } }) ∧
  (∀ s : State, s.pending = [] → s.dueCommands ≠ [] → ∃ i ∈ s.dueCommands, ∃ n,
    step s = .next { s with pending := [i], freeUsed := n })

/-- The state after power-on reset has every property of Sys2Proof/Safety.lean. -/
def Obligations.ResetMeetsSafety : Prop :=
  stationInRange State.reset ∧ countsInRange State.reset ∧ callersInLimit State.reset ∧ flightInLimit State.reset ∧
  tablesCanonical State.reset ∧ requiredIsMandatory State.reset

/-- Station time stays within 0 .. 2^40-1 at every step. -/
def Obligations.StepKeepsStationRange : Prop :=
  ∀ s t : State, stationInRange s → step s = .next t → stationInRange t

/-- The counts of occurrences stay within 0..255 and the discard counts within 0..65,535 at every step. -/
def Obligations.StepKeepsCountRanges : Prop :=
  ∀ s t : State, countsInRange s → step s = .next t → countsInRange t

/-- At most two callers are ON_AIR after every step. -/
def Obligations.StepKeepsTwoCallersOnAir : Prop :=
  ∀ s t : State, callersInLimit s → step s = .next t → callersInLimit t

/-- At most four site-link frames are in flight, and at most one SET for any one parameter, after every step. -/
def Obligations.StepKeepsFlightLimit : Prop :=
  ∀ s t : State, flightInLimit s → step s = .next t → flightInLimit t

/-- The two sparse tables keep their canonical form at every step. -/
def Obligations.StepKeepsTablesCanonical : Prop :=
  ∀ s t : State, tablesCanonical s → step s = .next t → tablesCanonical t

/-- A class with the required flag keeps a mandatory action at every step. -/
def Obligations.StepKeepsRequiredMandatory : Prop :=
  ∀ s t : State, requiredIsMandatory s → step s = .next t → requiredIsMandatory t

/-- Once the compliance lock is set, every command but POWER_ON_RESET leaves it set. -/
def Obligations.ComplianceLockStaysSet : Prop :=
  ∀ (i : Instr) (s t : State), (∀ l, i ≠ .powerOnReset l) → s.receiver.lock = true → exec i s = .next t →
    t.receiver.lock = true

/-- POWER_ON_RESET completes from every state, and leaves the reset state with the held levels as the inputs stand. The
queue of waiting commands and the counter of free values are the model's own and go on (log entry 43). -/
def Obligations.PowerOnResetLeavesResetState : Prop :=
  ∀ (l : PinLevels) (s : State), exec (.powerOnReset l) s = .next
    { State.reset with
      air := { State.reset.air with goLevel := l.go, netALevel := l.netA, netBLevel := l.netB }
      lines := { State.reset.lines with callers := Lines.resetCallers l }
      freeUsed := s.freeUsed, pending := s.pending }

/-- After POWER_ON_RESET every slot is free at generation 1, 512 slots are free and every list is empty, so that the
first entry inserted takes slot 0 and handle 512. -/
def Obligations.PowerOnResetEmptiesStore : Prop :=
  ∀ (l : PinLevels) (s t : State), exec (.powerOnReset l) s = .next t →
    (∀ n, n < 512 → t.store.slot n = { gen := 1, entry := none }) ∧ t.store.freeCount = 512 ∧
    (∀ k : ListId, t.store.order k = []) ∧
    ∀ (k : ListId) (b : Body), (t.store.insert k 0 b).map Prod.snd = some 512

/-- After POWER_ON_RESET every alert slot is empty, every class holds its default, the lock is clear, the discard count
is 0, there is no retirement note, MANDATORY_WAITING is clear, and the alert port has no frame in either direction. An
ISSUE of an alert still in force is then stored afresh as a new alert. -/
def Obligations.PowerOnResetEmptiesAlertTable : Prop :=
  ∀ (l : PinLevels) (s t : State), exec (.powerOnReset l) s = .next t →
    (∀ k : Fin 8, t.alert? k = none) ∧
    (∀ c, t.classEntry c = { action := .holdForOperator, deadline := 120, required := false, ceiling := none }) ∧
    t.receiver.lock = false ∧ t.receiver.discards = 0 ∧ t.receiver.lastRetirement = none ∧
    t.holds .mandatoryWaiting = false ∧ t.receiver.outgoing = [] ∧ t.receiver.opened = none ∧
    ∀ f : IssueFrame, issueMalformed f = false → f.validFrom < f.expires → ∃ u, exec (.issue f) t = .next u ∧
      (u.alert? 0).map Alert.frame = some f ∧ (∀ k : Fin 8, k ≠ 0 → u.alert? k = none) ∧
      u.receiver.outgoing = [.receipt f.origin f.number f.revision .accepted]

/-- A controller reset always completes. The store, the clocks, the mode, the mask, the class table, every configuration
item (a fill player held pending takes effect), the faders, trims and on flags, the dead-air monitor, the caller queue,
the alert records with their counts, the discard count, the last retirement note, the site's report and readings, its
confirmed values and the desired values but ALERT_FLAG's are kept. A player that was ON_AIR is ENDED, a caller who was
is in HOLD with no restore flag, and the callers' other fields are kept. The air is STOPPED or taken by an alert,
nothing but an alert is on air, and the response is OK. Where no other alert is ELIGIBLE, the alert that was on air, of
rank 4, or of rank 3 and carried with deadline passed, is carried again from its beginning. (R152 clears deadline passed
at the end of the reset and R167 has that rank-3 alert carried again: the model follows R167, log entry 59.) -/
def Obligations.ControllerResetCompletes : Prop :=
  ∀ s : State, portFree s → ∃ t, exec (.controllerReset .engineer) s = .next t ∧
    t.store = s.store ∧ t.clock = s.clock ∧ t.air.mode = s.air.mode ∧ t.air.onAir = none ∧ t.air.outgoing = none ∧
    (t.air.state = .stopped ∨ t.air.state = .preempted) ∧ t.linesOnAir = [] ∧ t.events.mask = s.events.mask ∧
    t.receiver.classes = s.receiver.classes ∧ t.receiver.lock = s.receiver.lock ∧
    t.port.response = some { code := 0x75#8, status := .ok, fields := [] } ∧ t.pending = s.pending ∧
    t.timer.tolerance = s.timer.tolerance ∧ t.air.cueGrace = s.air.cueGrace ∧ t.bus.threshold = s.bus.threshold ∧
    t.bus.deadAirLimit = s.bus.deadAirLimit ∧ t.bus.duckDepth = s.bus.duckDepth ∧
    t.lines.holdLimit = s.lines.holdLimit ∧ t.site.foldLimit = s.site.foldLimit ∧ t.site.calMain = s.site.calMain ∧
    t.site.calReserve = s.site.calReserve ∧
    t.air.fillPlayer = (if s.air.fillPending.isSome then s.air.fillPending else s.air.fillPlayer) ∧
    t.air.fillPending = none ∧
    (∀ i : Fin 14, (t.source i).fader = (s.source i).fader ∧ (t.source i).trim = (s.source i).trim ∧
      (t.source i).micOn = (s.source i).micOn) ∧
    t.bus.monitor = s.bus.monitor ∧ t.bus.escalationFlag = s.bus.escalationFlag ∧
    (∀ p cue fill, s.player p = .onAir cue fill → t.player p = .ended cue) ∧
    (∀ p, (s.player p).isOnAir = false → t.player p = s.player p) ∧
    (∀ l, t.caller l = if (s.caller l).state = .onAir then
      { s.caller l with state := .hold, airTime := (s.caller l).airTimeAt s.clock.mono, airSince := none,
                        holdTimer := some (s.clock.mono + s.lines.holdLimit * 60000), restore := false }
      else { s.caller l with restore := false }) ∧
    t.lines.queue = s.lines.queue ∧ t.lines.segment = none ∧
    (∀ k, (t.alert? k).map (fun a => (a.frame, a.carried, a.failed, a.rank, a.operatorCarry, a.storedAt)) =
      (s.alert? k).map (fun a => (a.frame, a.carried, a.failed, a.rank, a.operatorCarry, a.storedAt))) ∧
    t.receiver.discards = s.receiver.discards ∧ t.site.link = s.site.link ∧ t.site.report = s.site.report ∧
    t.site.readings = s.site.readings ∧ t.site.discards = s.site.discards ∧
    (∀ p : Param, (t.param p).confirmed = (s.param p).confirmed ∧
      (p ≠ .alertFlag → (t.param p).desired = (s.param p).desired)) ∧
    t.receiver.lastRetirement = s.receiver.lastRetirement ∧
    (∀ k a, s.onAirSlot = some k → s.alert? k = some a → a.frame.validFrom ≤ s.clock.station →
      (a.rank = 4 ∨ (a.rank = 3 ∧ s.carriedPassed = true)) → (∀ j, (s.sched? j).eligibility ≠ .eligible) →
      t.air.state = .preempted ∧ t.sched.carriage.map (fun c => (c.slot, c.way, c.startMono, c.revision)) =
        some (k, .immediate, s.clock.mono, a.frame.revision))

/-! ### The command port -/

/-- The frame of every well-formed request is read back as that request, with every field at every value its bytes
admit. -/
def Obligations.DecodeOfEncodedRequest : Prop :=
  ∀ (i : Instr) (bytes : List Byte), i.wf = true → encodeRequest i = some bytes → decodeRequest bytes = .request i

/-- A WRITE of a well-formed request's frame does what the request does. One whose frame or codes are not the port's is
answered BAD_REQUEST, and one whose check does not match BAD_CHECK, with the request code as received and no fields, and
nothing else changes; filler is clocked out meanwhile. A WRITE of fewer than four bytes is answered BAD_REQUEST with some
request code: which one the manual does not say, and one free value is used for it (log entry 5). After a transaction byte
of any value but A5h and 5Ah the rest of the transaction is ignored; that the model's record of what was clocked out then
stays as it was is its own choice (log entry 14). -/
def Obligations.WriteTransactionsTaken : Prop :=
  (∀ (i : Instr) (bytes : List Byte) (s : State), i.wf = true → encodeRequest i = some bytes → portFree s →
    exec (.writeTransactionBad 0xA5#8 bytes) s = exec i s) ∧
  (∀ (bytes : List Byte) (c : Byte) (s : State), portFree s → bytes[3]? = some c →
    decodeRequest bytes = .badRequest → exec (.writeTransactionBad 0xA5#8 bytes) s =
      .next { s with port :=
        { response := some { code := c, status := .badRequest, fields := [] }, dataOut := .filler } }) ∧
  (∀ (bytes : List Byte) (c : Byte) (s : State), portFree s → bytes[3]? = some c →
    decodeRequest bytes = .badCheck → exec (.writeTransactionBad 0xA5#8 bytes) s =
      .next { s with port :=
        { response := some { code := c, status := .badCheck, fields := [] }, dataOut := .filler } }) ∧
  (∀ (bytes : List Byte) (s : State), portFree s → bytes.length < 4 →
    ∃ c, exec (.writeTransactionBad 0xA5#8 bytes) s = .next { s with
      port := { response := some { code := c, status := .badRequest, fields := [] }, dataOut := .filler }
      freeUsed := s.freeUsed + 1 }) ∧
  (∀ (first : Byte) (bytes : List Byte) (s : State), first ≠ 0xA5#8 → first ≠ 0x5A#8 →
    exec (.writeTransactionBad first bytes) s = .next s)

/-- A request from a role that the permission table does not list is answered ROLE with its code and no fields, reaches
no block, changes no other state and raises no event; filler is clocked out while it comes in. -/
def Obligations.UnpermittedRoleRefused : Prop :=
  ∀ (i : Instr) (role : Role) (code : Nat) (fields : List Byte) (s : State),
    i.request? = some (role, code, fields) → role ∉ permittedRoles code → portFree s →
    exec i s = .next { s with port :=
      { response := some { code := BitVec.ofNat 8 code, status := .role, fields := [] }, dataOut := .filler } }

/-- A WRITE taken while a response is unread is discarded whatever it holds: the unread response and READY stay, nothing
else changes but that filler is clocked out, and PORT_OVERRUN is raised with the request code, or with none when fewer
than four bytes followed the transaction byte. -/
def Obligations.WriteOverUnreadResponseDiscarded : Prop :=
  ∀ s : State, s.port.response.isSome = true →
    (∀ (i : Instr) (role : Role) (code : Nat) (fields : List Byte), i.request? = some (role, code, fields) →
      exec i s = .next (Overrun s (some (BitVec.ofNat 8 code)))) ∧
    (∀ bytes : List Byte,
      exec (.portOverrun bytes) s = .next (Overrun s bytes[3]?) ∧
      exec (.writeTransactionBad 0xA5#8 bytes) s = .next (Overrun s bytes[3]?)) ∧
    (∀ d, (s.raise .portOverrun d).port = s.port ∧ (s.raise .portOverrun d).ready = true)

/-- A READ clocks out the response frame from its first byte, then filler; the response is discarded exactly when every
byte of it was clocked out. With no response ready it clocks out 00h, then filler (that filler follows there too is log
entry 74), and nothing else changes. -/
def Obligations.ReadClocksOutResponse : Prop :=
  ∀ (n : Nat) (s : State),
    (∀ r, s.port.response = some r → ∃ out, exec (.read n) s = .next { s with port :=
        { response := if r.frame.length ≤ n then none else some r, dataOut := .bytes out } } ∧
      out.length = n ∧ out.take r.frame.length = r.frame.take n ∧ ∀ b ∈ out.drop r.frame.length, b = 0xFF#8) ∧
    (s.port.response = none → ∃ out, exec (.read n) s = .next { s with port :=
        { response := none, dataOut := .bytes out } } ∧
      out.length = n ∧ (0 < n → out.head? = some 0x00#8) ∧ ∀ b ∈ out.drop 1, b = 0xFF#8)

/-- The reading requests are permitted to all four roles, are answered OK, and change nothing but the response. That
CLASS_PROBE is so answered whatever its fields hold is log entry 26 (R140 has it carry all ones). The bytes are those of
Wire.lean; their form, where chapter 11 leaves it to R198 or open, is log entries 8, 9, 57, 60 to 62, 67, 73, 77, 80 and
81, and IDENT's largest frame length in one byte is log entry 60. -/
def Obligations.ReadingRequestsChangeOnlyResponse : Prop :=
  ∀ (role : Role) (s : State), portFree s →
    (∀ h e, s.store.find? h = some e → exec (.roRead role h) s = .next (s.answer 0x15 (.ok (readB s.store h e)))) ∧
    (∀ list l start, readList list = some l →
      (start = 0 ∨ (s.store.live start = true ∧ start ∈ s.store.order l)) →
      exec (.roList role list start) s = .next (s.answer 0x16 (.ok (pageB s.store l start)))) ∧
    exec (.airStatus role) s = .next (s.answer 0x2A (.ok (airStatusB s))) ∧
    (∀ p : Fin 4, exec (.playerRead role (p.val + 1)) s = .next (s.answer 0x2D (.ok (playerReadB s p)))) ∧
    (∀ n, n ≤ 63 → exec (.lookaheadRead role n) s = .next (s.answer 0x30 (.ok (lookaheadB s n)))) ∧
    exec (.timingRead role) s = .next (s.answer 0x31 (.ok (timingB s.timer.record))) ∧
    exec (.busRead role) s = .next (s.answer 0x3B (.ok (busB s))) ∧
    (∀ l : Fin 6, exec (.callerRead role (l.val + 1)) s = .next (s.answer 0x4A (.ok (callerB s l)))) ∧
    exec (.queueRead role) s = .next (s.answer 0x4B (.ok (queueReadB s))) ∧
    (∀ c, c ≤ 127 →
      exec (.classRead role c) s = .next (s.answer 0x50 (.ok (classB (s.classEntry c) ++ flagB s.receiver.lock)))) ∧
    (∀ c a d r, exec (.classProbe role c a d r) s = .next (s.answer 0x52 (.ok (probeB s)))) ∧
    (∀ origin number k a, origin ≤ 63 → s.slotOf origin number = some k → s.alert? k = some a →
      exec (.alertRead role origin number) s = .next (s.answer 0x56 (.ok (alertReadB s k a)))) ∧
    exec (.alertList role) s = .next (s.answer 0x57 (.ok (alertListB s))) ∧
    exec (.carriageRead role) s = .next (s.answer 0x58 (.ok (carriageReadB s))) ∧
    exec (.siteRead role) s = .next (s.answer 0x61 (.ok (siteB s))) ∧
    exec (.configRead role) s = .next (s.answer 0x71 (.ok (configReadB s))) ∧
    exec (.clockRead role) s = .next (s.answer 0x73 (.ok (clockB s))) ∧
    exec (.ident role) s = .next (s.answer 0x74 (.ok [0x19#8, 0x14#8, 1#8, 62#8])) ∧
    exec (.eventsRead role) s = .next (s.answer 0x76 (.ok (eventsB s)))

/-- EVENTS_CLEAR lowers each named occurrence's count by the count seen, clearing one whose count that covers, and leaves
every other record; EVENTS_MASK stores the whole mask, and ATTN follows the pending events that it does not mask. -/
def Obligations.EventsClearedAndMasked : Prop :=
  ∀ (role : Role) (s : State), portFree s →
    (∀ pairs, clearable pairs = true → ∃ t, exec (.eventsClear role pairs) s = .next t ∧
      t = { s with events := t.events, port := t.port } ∧ t.events.mask = s.events.mask ∧
      (∀ n k o, (n, k) ∈ pairs → occurrenceOf n = some o → t.occurrence o =
        if (s.occurrence o).count ≤ k then { count := 0, detail := none }
        else { count := (s.occurrence o).count - k, detail := (s.occurrence o).detail }) ∧
      (∀ o, (∀ n k, (n, k) ∈ pairs → occurrenceOf n ≠ some o) → t.occurrence o = s.occurrence o)) ∧
    (∀ mask : Vector Byte 24, ∃ t, exec (.eventsMask role mask) s = .next t ∧
      t = { s with events := { s.events with mask := t.events.mask }, port := t.port } ∧
      (∀ k : Fin 24, t.events.mask[k] = decide (mask[k] ≠ 0)) ∧
      (t.attn = true ↔ ∃ k : Fin 24, ∃ e, eventTable[k.val]? = some e ∧ s.eventPending e = true ∧ mask[k] = 0))

/-! ### The running order -/

/-- RO_INSERT stores the entry in the lowest free slot under that slot's generation, places it after its anchor, and
answers with its handle and fields. (In a waiting state the sequencer answers a changed head besides; that is not this
statement.) It is refused, by the first of R8's stages that fails, with BAD_FIELD for a field out of range or an anchor
in another list, with STALE for a stale anchor and with FULL when no slot is free, and then changes nothing. -/
def Obligations.InsertStoresInLowestFreeSlot : Prop :=
  (∀ (anchor : Nat) (raw : RawEntry) (l : ListId) (b : Body) (n : Nat) (s : State), portFree s →
    readList raw.list = some l → readBody raw = some b →
    (anchor = 0 ∨ (s.store.live anchor = true ∧ anchor ∈ s.store.order l)) → s.store.lowestFree = some n →
    s.air.state.isWait = false →
    ∃ t, exec (.roInsert .automation anchor raw) s = .next t ∧
      t.store = (s.store.putSlot n { gen := (s.store.slot n).gen, entry := some { list := l, body := b } }).putOrder l
        (insertAfter anchor ((s.store.slot n).gen * 512 + n) (s.store.order l)) ∧
      t.port.response = some
        { code := 0x10#8, status := .ok, fields := handleB ((s.store.slot n).gen * 512 + n) ++ bodyB l b } ∧
      EditFrame s t) ∧
  (∀ (anchor : Nat) (raw : RawEntry) (s : State), portFree s →
    (readList raw.list = none ∨ readBody raw = none ∨ handleClass anchor = .malformed →
      exec (.roInsert .automation anchor raw) s = .next (s.answer 0x10 { status := .badField, fields := [] })) ∧
    (∀ l b, readList raw.list = some l → readBody raw = some b →
      (handleClass anchor = .formed → s.store.live anchor = false →
        exec (.roInsert .automation anchor raw) s = .next (s.answer 0x10 { status := .stale, fields := [] })) ∧
      (s.store.live anchor = true → anchor ∉ s.store.order l →
        exec (.roInsert .automation anchor raw) s = .next (s.answer 0x10 { status := .badField, fields := [] })) ∧
      (anchor = 0 ∨ (s.store.live anchor = true ∧ anchor ∈ s.store.order l) → s.store.lowestFree = none →
        exec (.roInsert .automation anchor raw) s = .next (s.answer 0x10 { status := .full, fields := [] }))))

/-- RO_CHANGE replaces the fields of a live, unprotected entry of the same kind, whatever its list byte holds (log entry
40); RO_MOVE takes a live, unprotected entry out of its list and places it after its anchor in the list named, and to the
place already held changes nothing. (In a waiting state the sequencer answers a changed head besides; that is not this
statement.) A stale handle gives STALE, a field out of range, another kind, an anchor in another list or the mover itself
BAD_FIELD, and a protected entry ON_AIR; nothing then changes. -/
def Obligations.ChangeAndMoveEditStore : Prop :=
  (∀ (h : Nat) (e : Entry) (s : State), portFree s → s.store.find? h = some e → s.protects h = false →
    s.air.state.isWait = false →
    (∀ raw b, readBody raw = some b → b.kindCode = e.body.kindCode →
      ∃ t, exec (.roChange .automation h raw) s = .next t ∧ t.store = s.store.putEntry h { list := e.list, body := b } ∧
        t.port.response = some { code := 0x11#8, status := .ok, fields := bodyB e.list b } ∧ EditFrame s t) ∧
    (∀ list l anchor, readList list = some l →
      (anchor = 0 ∨ (anchor ≠ h ∧ s.store.live anchor = true ∧ anchor ∈ s.store.order l)) →
      ((s.store.move h e l anchor).order l ≠ s.store.order l ∨ l ≠ e.list) →
      ∃ t, exec (.roMove .automation h list anchor) s = .next t ∧ t.store = s.store.move h e l anchor ∧
        t.port.response.any (fun r => r.status = .ok) = true ∧ EditFrame s t)) ∧
  (∀ (h : Nat) (e : Entry) (s : State) (list : Nat) (l : ListId), portFree s → s.store.find? h = some e →
    readList list = some l →
    (∀ anchor, s.protects h = false →
      (anchor = 0 ∨ (anchor ≠ h ∧ s.store.live anchor = true ∧ anchor ∈ s.store.order l)) → l = e.list →
      (s.store.move h e l anchor).order l = s.store.order l →
      exec (.roMove .automation h list anchor) s = .next (s.answer 0x12 { status := .ok, fields := moveB s.store h l })) ∧
    (∀ anchor, anchor = h ∨ (s.store.live anchor = true ∧ anchor ∉ s.store.order l) →
      exec (.roMove .automation h list anchor) s = .next (s.answer 0x12 { status := .badField, fields := [] })) ∧
    (s.protects h = true →
      exec (.roMove .automation h list 0) s = .next (s.answer 0x12 { status := .onAir, fields := [] }))) ∧
  (∀ (h : Nat) (e : Entry) (s : State) (raw : RawEntry), portFree s → s.store.find? h = some e →
    (∀ b, readBody raw = some b → b.kindCode ≠ e.body.kindCode →
      exec (.roChange .automation h raw) s = .next (s.answer 0x11 { status := .badField, fields := [] })) ∧
    (∀ b, readBody raw = some b → b.kindCode = e.body.kindCode → s.protects h = true →
      exec (.roChange .automation h raw) s = .next (s.answer 0x11 { status := .onAir, fields := [] }))) ∧
  (∀ (h : Nat) (s : State), portFree s → handleClass h = .formed → s.store.live h = false →
    (∀ raw b, readBody raw = some b →
      exec (.roChange .automation h raw) s = .next (s.answer 0x11 { status := .stale, fields := [] })) ∧
    (∀ list l, readList list = some l →
      exec (.roMove .automation h list 0) s = .next (s.answer 0x12 { status := .stale, fields := [] }))) ∧
  (∀ (h : Nat) (s : State), portFree s →
    (∀ raw, readBody raw = none →
      exec (.roChange .automation h raw) s = .next (s.answer 0x11 { status := .badField, fields := [] })) ∧
    (∀ list anchor, readList list = none ∨ handleClass anchor = .malformed →
      exec (.roMove .automation h list anchor) s = .next (s.answer 0x12 { status := .badField, fields := [] })))

/-- RO_DELETE removes a live, unprotected entry and frees its slot; BREAK_CLEAR removes every entry of a break list that
holds no protected one, and answers how many. (In a waiting state the sequencer answers a changed head besides; that is
not this statement.) A stale handle gives STALE, a protected entry ON_AIR, also where it is one of a break list's, and a
break number outside 1..16 BAD_FIELD; nothing then changes. -/
def Obligations.DeleteAndClearRemoveEntries : Prop :=
  ∀ s : State, portFree s →
    (s.air.state.isWait = false →
      (∀ h e, s.store.find? h = some e → s.protects h = false →
        ∃ t, exec (.roDelete .automation h) s = .next t ∧ t.store = s.store.remove h ∧ t.store.live h = false ∧
          t.port.response = some { code := 0x13#8, status := .ok, fields := [] } ∧ EditFrame s t) ∧
      (∀ b l, readBreak b = some l → (∀ h ∈ s.store.order l, s.protects h = false) →
        ∃ t, exec (.breakClear .automation b) s = .next t ∧ t.store = (s.store.order l).foldl Store.remove s.store ∧
          t.port.response = some { code := 0x14#8, status := .ok, fields := be 2 (s.store.order l).length } ∧
          EditFrame s t)) ∧
    (∀ h, handleClass h = .formed → s.store.live h = false →
      exec (.roDelete .automation h) s = .next (s.answer 0x13 { status := .stale, fields := [] })) ∧
    (∀ h, s.store.live h = true → s.protects h = true →
      exec (.roDelete .automation h) s = .next (s.answer 0x13 { status := .onAir, fields := [] })) ∧
    (∀ b l h, readBreak b = some l → h ∈ s.store.order l → s.protects h = true →
      exec (.breakClear .automation b) s = .next (s.answer 0x14 { status := .onAir, fields := [] })) ∧
    (∀ b, b = 0 ∨ 16 < b →
      exec (.breakClear .automation b) s = .next (s.answer 0x14 { status := .badField, fields := [] }))

/-- An accepted RO_INSERT, RO_CHANGE, RO_MOVE, RO_DELETE or BREAK_CLEAR that changes a list which the lookahead draws on
makes a rebuild: the positions held at the entries that left a list are repaired, and the lookahead after the held head
is then the walk of the new store from the held head's context, or from the play position. One in lists that it does not
draw on repairs those positions and changes the interpreter no further; a BREAK_CLEAR of an empty list changes nothing.
Each step of that walk meets spans, calls, HOLD and END markers, faults and the ends of lists as R25 to R29 set out. So
the first entry inserted after a power-on reset into MAIN, an item without a post, has handle 512, and the lookahead
holds it with its planned length, followed by the end-of-list END marker. (Here no alert entry waits to be placed and
the sequencer is not waiting.) RO_CHANGE does so whatever its list byte holds (log entry 40), and a move within one list
repairs the positions held at the mover with the entry that followed it (log entry 39). -/
def Obligations.RunningOrderIsResolved : Prop :=
  (∀ (s : State) (l : ListId) (b : Body), portFree s → s.air.state.isWait = false → s.interp.placement = [] →
    (∀ anchor raw n, readList raw.list = some l → readBody raw = some b →
      (anchor = 0 ∨ (s.store.live anchor = true ∧ anchor ∈ s.store.order l)) → s.store.lowestFree = some n →
      ∃ t, exec (.roInsert .automation anchor raw) s = .next t ∧ (s.interp.drawn[l] = true → Rebuilt s t []) ∧
        (s.interp.drawn[l] = false → t.interp = s.interp ∧ t.timer = s.timer)) ∧
    (∀ h raw old, s.store.find? h = some { list := l, body := old } → s.protects h = false → readBody raw = some b →
      b.kindCode = old.kindCode →
      ∃ t, exec (.roChange .automation h raw) s = .next t ∧ (s.interp.drawn[l] = true → Rebuilt s t []) ∧
        (s.interp.drawn[l] = false → t.interp = s.interp ∧ t.timer = s.timer)) ∧
    (∀ h, s.store.find? h = some { list := l, body := b } → s.protects h = false →
      (∃ t, exec (.roDelete .automation h) s = .next t ∧
        (s.interp.drawn[l] = true → Rebuilt s t [(h, followerIn h (s.store.order l))]) ∧
        (s.interp.drawn[l] = false → Repaired s t [(h, followerIn h (s.store.order l))])) ∧
      (∀ list d anchor, readList list = some d →
        (anchor = 0 ∨ (anchor ≠ h ∧ s.store.live anchor = true ∧ anchor ∈ s.store.order d)) →
        ((s.store.move h { list := l, body := b } d anchor).order d ≠ s.store.order d ∨ d ≠ l) →
        ∃ t, exec (.roMove .automation h list anchor) s = .next t ∧
          (s.interp.drawn[l] = true ∨ s.interp.drawn[d] = true →
            Rebuilt s t [(h, followerIn h (s.store.order l))]) ∧
          (s.interp.drawn[l] = false → s.interp.drawn[d] = false →
            Repaired s t [(h, followerIn h (s.store.order l))]))) ∧
    (∀ n, readBreak n = some l → (∀ h ∈ s.store.order l, s.protects h = false) →
      (s.store.order l = [] →
        exec (.breakClear .automation n) s = .next (s.answer 0x14 { status := .ok, fields := [0#8, 0#8] })) ∧
      (s.store.order l ≠ [] → ∃ t, exec (.breakClear .automation n) s = .next t ∧
        (s.interp.drawn[l] = true →
          Rebuilt s t ((s.store.order l).map fun h => (h, followerIn h (s.store.order l)))) ∧
        (s.interp.drawn[l] = false →
          Repaired s t ((s.store.order l).map fun h => (h, followerIn h (s.store.order l))))))) ∧
  (∀ (st : Store) (w : Walk), WalkStepsBySource st w ∧ WalkStepsBySpan st w ∧ WalkStepsByCall st w) ∧
  (∀ (raw : RawEntry) (b : Body) (i : ItemFields), raw.list = 0 → readBody raw = some b → b.item? = some i →
    i.post = none → ∃ t, exec (.roInsert .automation 0 raw) State.reset = .next t ∧
      t.store.find? 512 = some { list := 0, body := b } ∧ t.store.order 0 = [512] ∧
      t.interp.look.map (fun r => (r.source, r.effective)) = [(.item 512 0 b, i.planned), (.endMark none, 0)])

/-! ### Air control -/

/-- AIR_MODE sets the mode; a go in RUNNING sets the go latch, by AIR_GO and by GO; AIR_HOLD in RUNNING sets the hold
demand and AIR_RESUME there clears it; AIR_HOLD_AT_POINT sets or clears its demand in every state. Nothing else
changes. -/
def Obligations.AirDemandsAndLatches : Prop :=
  ∀ s : State, portFree s →
    exec (.airMode .presenter 1) s = .next ({ s with air := { s.air with mode := .auto } }.answer 0x20 (.ok [1#8])) ∧
    exec (.airMode .presenter 2) s = .next ({ s with air := { s.air with mode := .assist } }.answer 0x20 (.ok [2#8])) ∧
    exec (.airHoldAtPoint .presenter 0) s =
      .next ({ s with air := { s.air with holdAtPoint := false } }.answer 0x26 (.ok [])) ∧
    exec (.airHoldAtPoint .presenter 1) s =
      .next ({ s with air := { s.air with holdAtPoint := true } }.answer 0x26 (.ok [])) ∧
    (s.air.state = .running →
      exec (.airGo .presenter) s = .next ({ s with air := { s.air with goLatch := true } }.answer 0x21 (.ok [])) ∧
      exec (.airHold .presenter) s = .next ({ s with air := { s.air with holdDemand := true } }.answer 0x23 (.ok [])) ∧
      exec (.airResume .presenter) s =
        .next ({ s with air := { s.air with holdDemand := false } }.answer 0x24 (.ok [])) ∧
      (s.air.goLevel = false →
        exec .goEdge s = .next { s with air := { s.air with goLevel := true, goLatch := true } }))

/-- AIR_STOP outside STOPPED and PREEMPTED, with no alert on air, stops the air: both records empty, the demands and the
latch clear, the head is not held, and the state is STOPPED. -/
def Obligations.AirStopStopsAir : Prop :=
  ∀ s : State, portFree s → s.air.state ≠ .stopped → s.air.state ≠ .preempted → s.alertEntryOnAir = false →
    ∃ t, exec (.airStop .presenter) s = .next t ∧ t.air.state = .stopped ∧ t.air.onAir = none ∧ t.air.outgoing = none ∧
      t.air.holdDemand = false ∧ t.air.goLatch = false ∧ t.interp.held = false ∧
      t.port.response = some { code := 0x27#8, status := .ok, fields := [] } ∧ t.clock = s.clock ∧
      t.receiver = s.receiver ∧ t.sched = s.sched ∧ t.site = s.site ∧ t.air.mode = s.air.mode ∧
      t.air.holdAtPoint = s.air.holdAtPoint

/-- A LIVE head goes on air: at AIR_START in STOPPED and AIR_STEP in HELD without a go, at AIR_RESUME in HELD where it
needs none, at a go, by AIR_GO or GO, in WAIT_GO and in POST_WAIT, at the post instant in POST_WAIT where it needs none,
and, when it is the post entry, at the cut instant in WAIT_GO and POST_WAIT without a go. At the post instant an entry
that needs a go waits for it. -/
def Obligations.LiveHeadGoesOnAir : Prop :=
  ∀ (s : State) (r : Resolved) (timed : Bool) (item : ItemFields), LiveHead s r timed item →
    (portFree s → s.air.state = .stopped → s.air.holdDemand = false → s.air.watch = .disarmed →
      ∃ t, exec (.airStart .presenter) s = .next t ∧ PlainStarted s t r timed) ∧
    (portFree s → s.air.state = .held → s.air.watch = .disarmed → NeedsNoGo s item →
      ∃ t, exec (.airResume .presenter) s = .next t ∧ PlainStarted s t r timed) ∧
    (portFree s → s.air.state = .held →
      ∃ t, exec (.airStep .presenter) s = .next t ∧ PlainStarted s t r timed ∧ t.air.holdDemand = true) ∧
    (s.air.state = .waitGo ∨ s.air.state = .postWait →
      (portFree s → ∃ t, exec (.airGo .presenter) s = .next t ∧ PlainStarted s t r timed) ∧
      (s.air.goLevel = false → ∃ t, exec .goEdge s = .next t ∧ PlainStarted s t r timed)) ∧
    (∀ w, s.air.state = .postWait → s.air.watch = .armed w → w.instant ≤ s.clock.station →
      (NeedsNoGo s item → ∃ t, exec .postInstant s = .next t ∧ PlainStarted s t r timed) ∧
      (¬ NeedsNoGo s item → s.air.goLatch = false →
        ∃ t, exec .postInstant s = .next t ∧ t.air.state = .waitGo ∧ t.air.onAir = s.air.onAir ∧
          t.interp = s.interp ∧ t.air.watch = s.air.watch)) ∧
    (∀ w, s.air.state = .postWait ∨ s.air.state = .waitGo → s.air.watch = .armed w → w.cut ≤ s.clock.station →
      s.air.onAir = none → s.air.outgoing = none → s.interp.held = false → (w.handle, w.iteration) = r.copyId →
      ∃ t, exec .cutInstant s = .next t ∧ PlainStarted s t r timed ∧
        (t.occurrence .postCut).count = countUp 255 (s.occurrence .postCut).count)

/-- A NET_A edge starts a cue-start JOIN at the head in WAIT_GO; a fall of a cue input's level changes that level
alone. -/
def Obligations.NetworkCueStartsJoin : Prop :=
  ∀ s : State,
    (∀ (r : Resolved) (h : Nat) (l : ListId) (timed : Bool) (item : ItemFields), s.air.netALevel = false →
      s.air.state = .waitGo → s.interp.look.head? = some r → r.source = .item h l (.join timed true item) →
      ∃ t, exec .netAEdge s = .next t ∧ PlainStarted s t r timed ∧ t.air.netALevel = true) ∧
    exec (.cueInputFall .go) s = .next { s with air := { s.air with goLevel := false } } ∧
    exec (.cueInputFall .netA) s = .next { s with air := { s.air with netALevel := false } } ∧
    exec (.cueInputFall .netB) s = .next { s with air := { s.air with netBLevel := false } }

/-- AIR_START with an audio head and a player cued with its cart puts the entry on air with the lowest such player,
START asserted, its end timer at its frozen length and its segue point a segue before that. -/
def Obligations.AudioHeadStartsOnCuedPlayer : Prop :=
  ∀ (s : State) (r : Resolved) (h : Nat) (l : ListId) (k : AudioKind) (cart segue : Nat) (item : ItemFields)
    (p : Fin 4) (cue : Cue), portFree s → s.air.state = .stopped → s.air.holdDemand = false →
    s.air.watch = .disarmed → s.bus.fillPostWait = false → s.interp.look.head? = some r → r.dropMark = false →
    r.source = .item h l (.audio k cart segue item) → s.store.live h = true → s.playerFor cart = some p →
    s.player p = .cued cue →
    ∃ t, exec (.airStart .automation) s = .next t ∧ t.air.state = .running ∧ t.player p = .onAir cue false ∧
      t.startLine p = true ∧
      t.air.onAir = some
        { source := r.source, iteration := r.iteration, phase := .playing s.clock.mono s.clock.station,
          player := some p, frozen := r.effective, segue := segue, endTimer := some (s.clock.mono + r.effective),
          seguePoint := some (s.clock.mono + (r.effective - segue)) } ∧
      (∀ q, q ≠ p → t.player q = s.player q) ∧ t.clock = s.clock ∧ t.store = s.store ∧ t.bus = s.bus ∧
      t.lines = s.lines ∧ t.receiver = s.receiver ∧ t.sched = s.sched ∧ t.site = s.site

/-- The last entry before the end of the running order ends with outcome COMPLETE and the sequencer stops: a LIVE entry at
its end timer and at AIR_END_SEGMENT, a JOIN entry at a NET_B edge, an audio entry at its player's END input. An audio entry
still CUEING at its grace deadline ends MISSED instead, and ENTRY_MISSED is raised. -/
def Obligations.LastEntryEnds : Prop :=
  ∀ (s : State) (o : OnAir) (r e : Resolved) (h : Nat) (l : ListId), LastBeforeEnd s o r e → KeptAtEnd s h →
    s.air.state = .running →
    (∀ timed item, o.source = .item h l (.live timed item) → o.player = none →
      (∀ x, o.endTimer = some x → x ≤ s.clock.mono →
        ∃ t, exec .endTimer s = .next t ∧ StoppedAtEnd s t h .complete) ∧
      (portFree s → ∃ t, exec (.airEndSegment .presenter) s = .next t ∧ StoppedAtEnd s t h .complete)) ∧
    (∀ timed cueStart item, o.source = .item h l (.join timed cueStart item) → o.player = none →
      s.air.netBLevel = false → ∃ t, exec .netBEdge s = .next t ∧ StoppedAtEnd s t h .complete) ∧
    (∀ k cart segue item p cue, o.source = .item h l (.audio k cart segue item) → o.player = some p →
      s.player p = .onAir cue false → s.air.fillPending = none →
      ∃ t, exec (.endInput p) s = .next t ∧ StoppedAtEnd s t h .complete ∧ t.player p = .ended cue) ∧
    (∀ k cart segue item d, o.source = .item h l (.audio k cart segue item) → o.phase = .cueing d → d ≤ s.clock.mono →
      ∃ t, exec .graceDeadline s = .next t ∧ StoppedAtEnd s t h .missed ∧
        (t.occurrence .entryMissed).count = countUp 255 (s.occurrence .entryMissed).count)

/-- A segue: the audio entry on air moves to the outgoing record, to its own end time, without an outcome, and the LIVE
entry after it is on air from that moment with its planned length. -/
def Obligations.SegueStartsNextEntry : Prop :=
  ∀ (s : State) (o : OnAir) (r1 r2 e : Resolved) (h h2 : Nat) (l l2 : ListId) (k : AudioKind) (cart segue : Nat)
    (item item2 : ItemFields) (p : Fin 4) (x y : Nat) (timed : Bool),
    s.air.onAir = some o → s.interp.look = [r1, r2, e] → s.interp.held = true → s.interp.placement = [] →
    o.source = .item h l (.audio k cart segue item) → r1.source = o.source → o.player = some p → 0 < o.segue →
    o.seguePoint = some x → x ≤ s.clock.mono → o.endTimer = some y → s.air.outgoing = none → s.air.state = .running →
    s.bus.fillPostWait = false →
    r2.source = .item h2 l2 (.live timed item2) → r2.dropMark = false → item2.post = none →
    item2.waitForGo = false → s.air.mode = .auto → s.air.holdDemand = false → s.air.watch = .disarmed →
    s.store.live h2 = true → e.source = .endMark none →
    ∃ t, exec .seguePoint s = .next t ∧ t.air.state = .running ∧
      t.air.outgoing = some { handle := h, kind := k, player := p, frozen := o.frozen, endsAt := y } ∧
      t.air.lastEnding = s.air.lastEnding ∧
      t.air.onAir = some
        { source := r2.source, iteration := r2.iteration, phase := .playing s.clock.mono s.clock.station,
          player := none, frozen := item2.planned, segue := 0,
          endTimer := if timed then some (s.clock.mono + item2.planned) else none, seguePoint := none } ∧
      (t.source (playerSource p)).law = .fade (s.source (playerSource p)).current s.clock.mono (y - s.clock.mono) ∧
      t.clock = s.clock ∧ t.store = s.store ∧ t.lines = s.lines ∧ t.receiver = s.receiver ∧ t.site = s.site

/-- At its end time the outgoing entry ends with outcome COMPLETE: its player is ENDED with START released and the
outgoing record is empty. AIR_CUE_TO of a live entry in STOPPED or HELD puts the play position there. -/
def Obligations.OutgoingEndsAndCueTo : Prop :=
  (∀ (s : State) (o : Outgoing) (cue : Cue), s.air.outgoing = some o → o.endsAt ≤ s.clock.mono →
    s.air.state.isWait = false → s.player o.player = .onAir cue false → s.air.fillPending = none →
    ∃ t, exec .outgoingEnd s = .next t ∧ t.air.outgoing = none ∧ t.air.lastEnding = some (o.handle, .complete) ∧
      t.player o.player = .ended cue ∧ t.startLine o.player = false ∧
      (t.occurrence .entryEnded).detail = some (.entryEnded o.handle .complete) ∧ t.air.state = s.air.state ∧
      t.clock = s.clock ∧ t.lines = s.lines ∧ t.receiver = s.receiver ∧ t.site = s.site) ∧
  (∀ (s : State) (h : Nat) (e : Entry), portFree s → (s.air.state = .stopped ∨ s.air.state = .held) →
    s.store.find? h = some e →
    ∃ t, exec (.airCueTo .presenter h) s = .next t ∧
      t.interp.play = { pos := .at h e.list, stack := [], call := none } ∧ t.store = s.store ∧
      t.port.response = some { code := 0x29#8, status := .ok, fields := [] } ∧ EditFrame s t)

/-- PLAYER_CUE and PLAYER_CLEAR write the record of a player that is not ON_AIR, also while an entry is on air; a fill
player so CUED in dead air starts fill, and the response then gives its record ON_AIR (log entry 75). A cut ramp's
completion leaves the record ENDED with its gain at mute; a fill withdrawal's end returns it to CUED, and the fill
player to ON_AIR while a fill reason stands. (Here no entry in CUEING waits for a player.) -/
def Obligations.PlayerRecordsWritten : Prop :=
  ∀ (s : State) (p : Fin 4), (∀ o d, s.air.onAir = some o → o.phase ≠ .cueing d) →
    (∀ cart length, portFree s → (s.player p).isOnAir = false → 0 < cart → length ≤ 10800000 →
      (s.air.fillPlayer ≠ some p ∨ s.holds .deadAir = false →
        exec (.playerCue .automation (p.val + 1) cart length) s = .next
          ((s.putPlayer p (.cued { cart, length })).answer 0x2B (.ok (playerB (.cued { cart, length }))))) ∧
      (s.air.fillPlayer = some p → s.holds .deadAir = true → (s.player p).isCued = false →
        exec (.playerCue .automation (p.val + 1) cart length) s = .next
          (({ s.putPlayer p (.onAir { cart, length } true) with bus := { s.bus with
              fillDeadAir := true, monitor := { s.bus.monitor with escalation := 0 } } }).answer 0x2B
            (.ok (playerB (.onAir { cart, length } true)))))) ∧
    (portFree s → (s.player p).isOnAir = false →
      exec (.playerClear .automation (p.val + 1)) s =
        .next ((s.putPlayer p .empty).answer 0x2C (.ok (playerB .empty)))) ∧
    (∀ cue g start fill, s.player p = .onAir cue fill → (s.source (playerSource p)).law = .cut g start fill →
      start + 20 ≤ s.clock.mono →
      (fill = false → s.air.fillPending ≠ some p →
        exec (.cutCompletion p) s = .next ((s.putPlayer p (.ended cue)).putSource (playerSource p)
          { s.source (playerSource p) with current := -160, law := .follow })) ∧
      (fill = true → s.air.fillPlayer ≠ some p ∨ (s.bus.fillDeadAir = false ∧ s.bus.fillPostWait = false) →
        exec (.fillWithdrawalEnd p) s = .next ((s.putPlayer p (.cued cue)).putSource (playerSource p)
          { s.source (playerSource p) with current := -160, law := .follow })) ∧
      (fill = true → s.air.fillPlayer = some p → s.bus.fillDeadAir = true ∨ s.bus.fillPostWait = true →
        ∃ t, exec (.fillWithdrawalEnd p) s = .next t ∧ t.player p = .onAir cue true ∧
          t.bus.monitor.escalation = 0 ∧ (t.source (playerSource p)).current = -160 ∧
          (t.source (playerSource p)).law = .follow ∧ (∀ q, q ≠ p → t.player q = s.player q) ∧
          t = { s with air := { s.air with players := t.air.players }, bus := t.bus }))

/-! ### The back-timer -/

/-- The periodic timer's expiry makes a computation at the present station time and restarts the timer for 1,000 ms.
With a post entry after the held head the record is COMPUTED: the post instant, the on-air remainder, the projection, the
float, the drops, the stretch shares and the residual are those of R73 to R80, the lookahead takes the lengths and marks,
TIMING_CHANGED follows the drop set, and the post watch takes the record. Without one the record is NO_POST where the
lookahead is empty or ends with an END marker, POST_BEYOND where it does not, counts no drop and no stretch, and the
lookahead is cleared and the watch disarmed. (That a watch disarmed by its cut instant in HELD or STOPPED is armed again
is log entry 68; the remainder is stated by R74's and R75's rows alone.) -/
def Obligations.PeriodicTimerComputes : Prop :=
  ∀ s : State, s.timer.periodicAt ≤ s.clock.mono → ∃ t, exec .periodicTimer s = .next t ∧
    t.timer.periodicAt = s.clock.mono + 1000 ∧ t.timer.record.t0 = s.clock.station ∧
    t.timer.record.seqNo = s.interp.seqNo ∧ t.timer.record.tolerance = s.timer.tolerance ∧
    t.timer.tolerance = s.timer.tolerance ∧
    ((∀ r ∈ s.interp.look.drop (if s.interp.held then 1 else 0), r.post? = none) →
      t.timer.record.state =
        (if s.interp.look = [] ∨ s.interp.look.getLast?.any Resolved.isEnd = true then .noPost else .postBeyond) ∧
      t.timer.record.dropCount = 0 ∧ t.timer.record.stretchCount = 0 ∧ t.air.watch = .disarmed ∧
      t.interp.look = s.interp.look.take (if s.interp.held then 1 else 0) ++
        (s.interp.look.drop (if s.interp.held then 1 else 0)).map
          (fun r => { r with effective := plannedLength r, dropMark := false })) ∧
    (∀ pending p post rest, s.interp.look.drop (if s.interp.held then 1 else 0) = pending ++ p :: rest →
      (∀ r ∈ pending, r.post? = none) → p.post? = some post → post.timeOfDay < 86400000 →
      TimedByPost s t (if s.interp.held then 1 else 0) pending p post rest) ∧
    t.clock = s.clock ∧ t.store = s.store ∧ t.air = { s.air with watch := t.air.watch } ∧ t.bus = s.bus ∧
    t.lines = s.lines ∧ t.receiver = s.receiver ∧ t.sched = s.sched ∧ t.site = s.site ∧ t.port = s.port

/-- The shares of a stretch amount that the capacities can hold come to that amount, and none exceeds its capacity; each
is its base share, with one ms of the remainder more where the walk from the post back finds room for it. -/
def Obligations.StretchSharesMeetAmount : Prop :=
  ∀ (amount : Nat) (caps : List Nat), amount ≤ caps.sum →
    (stretchShares amount caps).sum = amount ∧ (stretchShares amount caps).length = caps.length ∧
    (∀ p ∈ (stretchShares amount caps).zip caps, p.1 ≤ p.2) ∧
    ∀ i, i < caps.length → (stretchShares amount caps)[i]? = some (shareAt amount caps i)

/-! ### The programme bus -/

/-- BUS_FADER clamps to -160..+24 on sources 5..12, BUS_TRIM to -24..+24 on every source, and MIC_SWITCH writes the on
flag of sources 5 and 6; each changes that field alone and answers OK with the source record as stored. -/
def Obligations.BusRequestsWriteClampedFields : Prop :=
  ∀ (s : State) (i : Fin 14) (v : Int), portFree s →
    (4 ≤ i.val → i.val ≤ 11 → ∃ t, exec (.busFader .presenter (i.val + 1) v) s = .next t ∧
      t = { s.putSource i { s.source i with fader := some (max (-160) (min 24 v)) } with port := t.port } ∧
      t.port.response = some { code := 0x38#8, status := .ok, fields := sourceB t i }) ∧
    (∃ t, exec (.busTrim .engineer (i.val + 1) v) s = .next t ∧
      t = { s.putSource i { s.source i with trim := max (-24) (min 24 v) } with port := t.port } ∧
      t.port.response = some { code := 0x39#8, status := .ok, fields := sourceB t i }) ∧
    (∀ on : Bool, i.val = 4 ∨ i.val = 5 →
      ∃ t, exec (.micSwitch .presenter (i.val + 1) (if on then 1 else 0)) s = .next t ∧
        t = { s.putSource i { s.source i with micOn := some on } with port := t.port } ∧
        t.port.response = some { code := 0x3A#8, status := .ok, fields := sourceB t i })

/-- A gain update moves the gain of every source under FOLLOW by at most one step, towards its target, and restarts for
the next ms; a source under CUT is at mute from 20 ms after the cut on. Nothing else changes. -/
def Obligations.GainUpdateStepsTowardsTarget : Prop :=
  ∀ s : State, s.bus.gainAt ≤ s.clock.mono → ∃ t, exec .gainUpdate s = .next t ∧
    t = { s with bus := { s.bus with sources := t.bus.sources, gainAt := s.bus.gainAt + 1 } } ∧
    ∀ i : Fin 14, (t.source i).fader = (s.source i).fader ∧ (t.source i).trim = (s.source i).trim ∧
      (t.source i).micOn = (s.source i).micOn ∧ (t.source i).law = (s.source i).law ∧
      ((s.source i).law = .follow → (t.source i).current =
        if (s.source i).current < s.gainTarget i then (s.source i).current + 1
        else if s.gainTarget i < (s.source i).current then (s.source i).current - 1 else (s.source i).current) ∧
      (∀ g start fill, (s.source i).law = .cut g start fill → start + 20 ≤ s.clock.mono → (t.source i).current = -160)

/-- The rows of the dead-air monitor's table. In SOUND a quiet window starts the silence count, in QUIET a sounding one
ends it, and the silence count that comes to the dead-air limit makes the monitor DEAD. In DEAD quiet windows without
dead-air fill raise the escalation count, which at the limit asks the site for LOCAL; in DEAD and ESCALATED a quiet window
starts the recovery count again, and at 500 sounding ones the monitor recovers and gives SITE_AUDIO back where it took
it. -/
def Obligations.DeadAirWindowCountsSilence : Prop :=
  ∀ s : State, s.bus.monitor.windowEnds ≤ s.clock.mono → ∃ t, exec .deadAirWindow s = .next t ∧
    t.bus.monitor.lastPeak = s.bus.monitor.peak ∧ t.bus.monitor.windowEnds = s.bus.monitor.windowEnds + 10 ∧
    (s.bus.monitor.state = .sound → peakQuiet s.bus.monitor.peak s.bus.monitor.windowThreshold = true →
      t.bus.monitor.state = .quiet ∧ t.bus.monitor.silence = 1) ∧
    (s.bus.monitor.state = .sound → peakQuiet s.bus.monitor.peak s.bus.monitor.windowThreshold = false →
      t.bus.monitor.state = .sound) ∧
    (s.bus.monitor.state = .quiet → peakQuiet s.bus.monitor.peak s.bus.monitor.windowThreshold = false →
      t.bus.monitor.state = .sound ∧ t.bus.monitor.silence = 0) ∧
    (s.bus.monitor.state = .quiet → peakQuiet s.bus.monitor.peak s.bus.monitor.windowThreshold = true →
      s.bus.monitor.silence + 1 < s.bus.deadAirLimit * 100 →
      t.bus.monitor.state = .quiet ∧ t.bus.monitor.silence = s.bus.monitor.silence + 1) ∧
    (s.bus.monitor.state = .quiet → peakQuiet s.bus.monitor.peak s.bus.monitor.windowThreshold = true →
      s.bus.deadAirLimit * 100 ≤ s.bus.monitor.silence + 1 →
      t.bus.monitor.state = .dead ∧ t.holds .deadAir = true ∧ t.bus.fillDeadAir = true ∧
      t.bus.monitor.escalation = 0 ∧ t.bus.monitor.recovery = 0) ∧
    (s.bus.monitor.state = .dead → peakQuiet s.bus.monitor.peak s.bus.monitor.windowThreshold = true →
      (s.bus.fillDeadAir = true → s.fillActive = true →
        t.bus.monitor.state = .dead ∧ t.bus.monitor.recovery = 0 ∧
        t.bus.monitor.escalation = s.bus.monitor.escalation ∧ t.site = s.site) ∧
      (s.bus.fillDeadAir = false ∨ s.fillActive = false →
        (s.bus.monitor.escalation + 1 < s.bus.deadAirLimit * 100 →
          t.bus.monitor.state = .dead ∧ t.bus.monitor.recovery = 0 ∧
          t.bus.monitor.escalation = s.bus.monitor.escalation + 1 ∧ t.site = s.site) ∧
        (s.bus.deadAirLimit * 100 ≤ s.bus.monitor.escalation + 1 →
          t.bus.monitor.state = .escalated ∧ t.bus.monitor.recovery = 0 ∧ t.holds .deadAir = true ∧
          (t.param .siteAudio).desired = some 1 ∧
          ((s.param .siteAudio).desired ≠ some 1 → t.bus.escalationFlag = true) ∧
          ((s.param .siteAudio).desired = some 1 →
            t.bus.escalationFlag = s.bus.escalationFlag ∧ t.site = s.site)))) ∧
    (s.bus.monitor.state = .dead → peakQuiet s.bus.monitor.peak s.bus.monitor.windowThreshold = false →
      s.bus.monitor.recovery + 1 < 500 →
      t.bus.monitor.state = .dead ∧ t.bus.monitor.recovery = s.bus.monitor.recovery + 1 ∧
      t.bus.monitor.escalation = 0) ∧
    (s.bus.monitor.state = .escalated → peakQuiet s.bus.monitor.peak s.bus.monitor.windowThreshold = true →
      t.bus.monitor.state = .escalated ∧ t.bus.monitor.recovery = 0) ∧
    (s.bus.monitor.state = .escalated → peakQuiet s.bus.monitor.peak s.bus.monitor.windowThreshold = false →
      s.bus.monitor.recovery + 1 < 500 →
      t.bus.monitor.state = .escalated ∧ t.bus.monitor.recovery = s.bus.monitor.recovery + 1) ∧
    (s.bus.monitor.state = .dead ∨ s.bus.monitor.state = .escalated →
      peakQuiet s.bus.monitor.peak s.bus.monitor.windowThreshold = false → 500 ≤ s.bus.monitor.recovery + 1 →
      t.bus.monitor.state = .sound ∧ t.bus.monitor.silence = 0 ∧ t.bus.monitor.escalation = 0 ∧
      t.bus.monitor.recovery = 0 ∧ t.bus.fillDeadAir = false ∧ t.holds .deadAir = false ∧
      t.bus.escalationFlag = false ∧
      (s.bus.escalationFlag = true → (t.param .siteAudio).desired = some 0) ∧
      (s.bus.escalationFlag = false → t.site = s.site))

/-- A sample period puts out one programme sample. With every gain at 0 or at mute it is the sum of the samples of the
sources at gain 0, saturated to full scale, and a line ON_AIR is sent that sum less its own sample; a source alone at gain
-40, a tenth, gives a tenth of its sample, rounded half away from zero. A line in SCREENING is sent the talkback, one in
READY or HOLD the programme, and one off the call silence; with every lane silent the programme is silent. The window's
peak takes in the programme's magnitude. Only the bus and the counter of free values change. -/
def Obligations.SamplePeriodMixesAndSends : Prop :=
  ∀ (s : State) (lanes : Vector Sample 14) (talkback : Sample), ∃ t, exec (.samplePeriod lanes talkback) s = .next t ∧
    t = { s with freeUsed := t.freeUsed, bus := { s.bus with
      programme := t.bus.programme, sends := t.bus.sends, monitor := t.bus.monitor } } ∧
    (∀ l : Fin 6,
      ((s.caller l).state = .screening → t.bus.sends[l] = talkback) ∧
      ((s.caller l).state = .ready ∨ (s.caller l).state = .hold → t.bus.sends[l] = t.bus.programme) ∧
      ((s.caller l).state = .idle ∨ (s.caller l).state = .ringing ∨ (s.caller l).state = .clearing ∨
        (s.caller l).state = .outOfService → t.bus.sends[l] = 0)) ∧
    ((∀ i : Fin 14, lanes[i] = 0) → t.bus.programme = 0) ∧
    ((∀ i : Fin 14, (s.source i).current = 0 ∨ (s.source i).current ≤ -160) →
      t.bus.programme = fullScale (sumAtUnity s lanes) ∧
      ∀ l : Fin 6, (s.caller l).state = .onAir →
        t.bus.sends[l] = fullScale (sumAtUnity s lanes -
          (if (s.source (lineSource l)).current = 0 then (lanes[lineSource l]).toInt else 0))) ∧
    (∀ i : Fin 14, (s.source i).current = -40 → (∀ j, j ≠ i → (s.source j).current ≤ -160) →
      t.bus.programme.toInt =
        (if 0 ≤ (lanes[i]).toInt then ((lanes[i]).toInt + 5) / 10 else -((5 - (lanes[i]).toInt) / 10))) ∧
    t.bus.monitor = { s.bus.monitor with peak := t.bus.monitor.peak } ∧ s.bus.monitor.peak ≤ t.bus.monitor.peak ∧
    (s.bus.fillDeadAir = false →
      t.bus.monitor.peak = max s.bus.monitor.peak t.bus.programme.toInt.natAbs)

/-! ### Caller lines -/

/-- Every line request with a line number outside 1..6 from a permitted role is refused with BAD_FIELD before the state
is looked at, and one from a role that the request does not permit is refused with ROLE. -/
def Obligations.LineNumberOutOfRangeRefused : Prop :=
  ∀ (s : State) (role : Role) (n a b : Nat) (name : List Byte) (i : Instr) (code : Nat), portFree s →
    (i, code) ∈ [(.lineAnswer role n, 0x40), (.lineAccept role n name a b, 0x41), (.lineReject role n, 0x42),
      (.lineRelease role n, 0x43), (.lineTake role n, 0x44), (.lineDrop role n, 0x45), (.lineService role n a, 0x46),
      (.queueMove role n a, 0x47), (.linePin role n, 0x48), (.lineNotes role n name a, 0x49),
      (.callerRead role n, 0x4A)] →
    (role ∈ permittedRoles code → n = 0 ∨ 6 < n →
      exec i s = .next (s.answer code { status := .badField, fields := [] })) ∧
    (role ∉ permittedRoles code → exec i s = .next (s.answer code { status := .role, fields := [] }))

/-- A ring event on an IDLE line begins a call in RINGING with the call fields reset and the ring timer of 6,000 ms; in
RINGING it restarts the timer; a level already high is no event. The ring timer's expiry returns the line to IDLE with
last end MISSED. A fall of RING changes the held level alone. -/
def Obligations.RingEventsBeginAndMissCalls : Prop :=
  ∀ (s : State) (l : Fin 6),
    ((s.caller l).ring = false → (s.caller l).state = .idle →
      exec (.ringEvent l) s = .next ((s.putCaller l
        { s.caller l with ring := true, state := .ringing, name := none, topic := none, priority := 0, queuedAt := none,
                          airTime := 0, airSince := none, holdTimer := none, overdue := false, pinned := false,
                          restore := false, ringStart := some s.clock.station,
                          ringTimer := some (s.clock.mono + 6000) }).raise .callerRinging (some (.callerRinging l)))) ∧
    ((s.caller l).ring = false → (s.caller l).state = .ringing →
      exec (.ringEvent l) s = .next (s.putCaller l
        { s.caller l with ring := true, ringTimer := some (s.clock.mono + 6000) })) ∧
    ((s.caller l).ring = true → exec (.ringEvent l) s = .next s) ∧
    (∀ x, (s.caller l).state = .ringing → (s.caller l).ringTimer = some x → x ≤ s.clock.mono →
      exec (.ringTimer l) s = .next (s.putCaller l
        { s.caller l with state := .idle, lastEnd := some .missed, ringTimer := none })) ∧
    exec (.ringFall l) s = .next (s.putCaller l { s.caller l with ring := false })

/-- LINE_ANSWER seizes a ringing line; LINE_ACCEPT puts a screened line into the queue behind every line of its priority
or higher that stands before the first of a lower one. -/
def Obligations.AnsweredCallersJoinQueue : Prop :=
  ∀ (s : State) (l : Fin 6), portFree s →
    ((s.caller l).state = .ringing → exec (.lineAnswer .screener (l.val + 1)) s = .next ((s.putCaller l
      { s.caller l with state := .screening, ringTimer := none,
                        loopTimer := if (s.caller l).loop then none else some (s.clock.mono + 400) }).answer
        0x40 (.ok []))) ∧
    (∀ name topic tp priority, (s.caller l).state = .screening → readTopic topic = some tp →
      nameInRange name = true → priority ≤ 3 →
      ∃ t, exec (.lineAccept .screener (l.val + 1) name topic priority) s = .next t ∧
        t = { s with lines := t.lines, port := t.port } ∧
        (∃ front back, s.lines.queue = front ++ back ∧ t.lines.queue = front ++ l :: back ∧
          (∀ q ∈ front, priority ≤ (s.caller q).priority) ∧
          (∀ q, back.head? = some q → (s.caller q).priority < priority)) ∧
        t.lines = { (s.putCaller l (t.caller l)).lines with queue := t.lines.queue } ∧
        t.caller l = { s.caller l with
          state := .ready, name := some name, topic := tp, priority, queuedAt := some s.clock.mono, pinned := false,
          holdTimer := some (s.clock.mono + s.lines.holdLimit * 60000) })

/-- A call that is in SCREENING, READY or HOLD is cleared by LINE_REJECT, by LINE_RELEASE and by a loop drop, with last
end REJECTED, RELEASED and HUNG_UP; the clearing timer's expiry makes the line IDLE. -/
def Obligations.CallsAreCleared : Prop :=
  ∀ (s : State) (l : Fin 6),
    ((s.caller l).state = .screening ∨ (s.caller l).state = .ready ∨ (s.caller l).state = .hold →
      (portFree s → ∃ t, exec (.lineReject .screener (l.val + 1)) s = .next t ∧ CallCleared s t l .rejected ∧
        t.events = s.events) ∧
      (portFree s → ∃ t, exec (.lineRelease .presenter (l.val + 1)) s = .next t ∧ CallCleared s t l .released ∧
        t.events = s.events) ∧
      (∀ x, (s.caller l).loopTimer = some x → x ≤ s.clock.mono →
        ∃ t, exec (.loopDrop l) s = .next t ∧ CallCleared s t l .hungUp ∧ t.port = s.port ∧
          (t.occurrence .callerCleared).detail = some (.callerCleared l (s.caller l).state) ∧
          (t.occurrence .callerCleared).count = countUp 255 (s.occurrence .callerCleared).count)) ∧
    (∀ x, (s.caller l).state = .clearing → (s.caller l).clearingTimer = some x → x ≤ s.clock.mono →
      exec (.clearingTimer l) s = .next (s.putCaller l { s.caller l with state := .idle, clearingTimer := none }))

/-- LINE_TAKE puts a waiting or held line on air while fewer than two are; LINE_DROP takes one off air into HOLD with a
fresh hold timer; the hold timer's expiry marks a waiting line overdue. A PHONE entry's start opens the phone segment and
takes callers from the queue, past those pinned or overdue; its end applies the end action to the lines on air; and
LINE_DROP of the last caller ends an entry that ends itself on that. -/
def Obligations.CallersGoOnAirAndHold : Prop :=
  (∀ (s : State) (l : Fin 6),
    (portFree s → (s.caller l).state = .ready ∨ (s.caller l).state = .hold → s.lines.alertHold = false →
      s.linesOnAir.length < 2 →
      ∃ t, exec (.lineTake .presenter (l.val + 1)) s = .next t ∧
        t = { s with lines := t.lines, port := t.port } ∧ t.caller l = WentOnAir s l ∧
        t.lines.queue = s.lines.queue.filter (· ≠ l) ∧ (∀ m, m ≠ l → t.caller m = s.caller m) ∧
        t.lines.segment = s.lines.segment.map fun g => { g with seen := true }) ∧
    (portFree s → (s.caller l).state = .onAir →
      (∀ g, s.lines.segment = some g →
        g.part.endOnLast = false ∨ g.suspended = true ∨ g.seen = false ∨ s.linesOnAir ≠ [l]) →
      exec (.lineDrop .presenter (l.val + 1)) s = .next ((s.putCaller l
        { s.caller l with state := .hold, airTime := (s.caller l).airTimeAt s.clock.mono, airSince := none,
                          holdTimer := some (s.clock.mono + s.lines.holdLimit * 60000) }).answer 0x45 (.ok []))) ∧
    (∀ x, (s.caller l).state = .ready ∨ (s.caller l).state = .hold → (s.caller l).holdTimer = some x →
      x ≤ s.clock.mono →
      exec (.holdTimer l) s = .next ((s.putCaller l { s.caller l with overdue := true, holdTimer := none }).raise
        .callerOverdue (some (.callerOverdue l (s.caller l).state))))) ∧
  (∀ (s : State) (r : Resolved) (h : Nat) (ls : ListId) (timed : Bool) (part : PhonePart) (item : ItemFields),
    portFree s → s.air.state = .stopped → s.air.holdDemand = false → s.air.watch = .disarmed →
    s.interp.look.head? = some r → r.dropMark = false → r.source = .item h ls (.phone timed part item) →
    s.store.live h = true →
    ∃ t, exec (.airStart .presenter) s = .next t ∧ t.air.state = .running ∧
      t.air.onAir = some
        { source := r.source, iteration := r.iteration, phase := .playing s.clock.mono s.clock.station, player := none,
          frozen := r.effective, segue := r.segue,
          endTimer := if timed then some (s.clock.mono + r.effective) else none, seguePoint := none } ∧
      (∀ l, t.caller l = if l ∈ TakenCallers s part then WentOnAir s l else s.caller l) ∧
      t.lines.queue = s.lines.queue.filter (fun l => l ∉ TakenCallers s part) ∧
      t.lines.segment = some { handle := h, part, seen := !t.linesOnAir.isEmpty, suspended := false } ∧
      (0 < part.callers → t.linesOnAir = [] →
        (t.occurrence .phoneEmpty).detail = some (.phoneEmpty h) ∧
        (t.occurrence .phoneEmpty).count = countUp 255 (s.occurrence .phoneEmpty).count) ∧
      (part.callers = 0 ∨ t.linesOnAir ≠ [] → t.occurrence .phoneEmpty = s.occurrence .phoneEmpty)) ∧
  (∀ (s : State) (o : OnAir) (r e : Resolved) (h : Nat) (ls : ListId) (timed : Bool) (part : PhonePart)
    (item : ItemFields) (g : Segment), portFree s → LastBeforeEnd s o r e → KeptAtEnd s h →
    s.air.state = .running → o.source = .item h ls (.phone timed part item) → o.player = none →
    s.lines.segment = some g →
    (∃ t, exec (.airEndSegment .presenter) s = .next t ∧ t.air.state = .stopped ∧ t.air.onAir = none ∧
      t.air.lastEnding = some (h, .complete) ∧ t.lines.segment = none ∧
      ∀ l, t.caller l = if (s.caller l).state = .onAir then AfterSegment s l g.part.endAction else s.caller l) ∧
    (∀ l, s.linesOnAir = [l] → g.handle = h → g.suspended = false → g.part.endOnLast = true → g.seen = true →
      ∃ t, exec (.lineDrop .presenter (l.val + 1)) s = .next t ∧ t.air.state = .stopped ∧ t.air.onAir = none ∧
        t.air.lastEnding = some (h, .complete) ∧ t.lines.segment = none ∧
        (t.caller l).state = .hold ∧ t.linesOnAir = [] ∧ (∀ m, m ≠ l → t.caller m = s.caller m)))

/-- LINE_SERVICE takes an IDLE line out of service and back; QUEUE_MOVE puts a waiting line at a position of the queue
and keeps the others' order; LINE_PIN pins it; LINE_NOTES replaces name and topic; an edge of LOOP is recorded and runs
the loop-drop timer while HOOK is asserted. -/
def Obligations.LineServiceQueueAndNotes : Prop :=
  ∀ (s : State) (l : Fin 6), portFree s →
    ((s.caller l).state = .idle → exec (.lineService .engineer (l.val + 1) 0) s =
      .next ((s.putCaller l { s.caller l with state := .outOfService }).answer 0x46 (.ok []))) ∧
    ((s.caller l).state = .outOfService → exec (.lineService .engineer (l.val + 1) 1) s =
      .next ((s.putCaller l { s.caller l with state := .idle }).answer 0x46 (.ok []))) ∧
    (∀ n, (s.caller l).state = .ready → 1 ≤ n → n ≤ 6 → n ≤ s.lines.queue.length →
      s.lines.queue.countP (· = l) ≤ 1 →
      ∃ t, exec (.queueMove .screener (l.val + 1) n) s = .next t ∧
        t = { s with lines := { s.lines with queue := t.lines.queue }, port := t.port } ∧
        t.lines.queue[n - 1]? = some l ∧ t.lines.queue.filter (· ≠ l) = s.lines.queue.filter (· ≠ l)) ∧
    ((s.caller l).state = .ready → exec (.linePin .screener (l.val + 1)) s =
      .next ((s.putCaller l { s.caller l with pinned := true }).answer 0x48 (.ok []))) ∧
    (∀ name topic tp, (s.caller l).state = .screening ∨ (s.caller l).state = .ready ∨ (s.caller l).state = .hold →
      readTopic topic = some tp → nameInRange name = true →
      ∃ t, exec (.lineNotes .screener (l.val + 1) name topic) s = .next t ∧
        t = { s.putCaller l { s.caller l with name := some name, topic := tp, pinned := false } with port := t.port }) ∧
    (exec (.loopEdge l true) s = .next (s.putCaller l { s.caller l with loop := true, loopTimer := none })) ∧
    ((s.caller l).loop = true → exec (.loopEdge l false) s = .next (s.putCaller l
      { s.caller l with loop := false,
                        loopTimer := if s.hook l then some (s.clock.mono + 400) else (s.caller l).loopTimer }))

/-! ### Alerts -/

/-- CLASS_WRITE settles and stores the entry, here with the alert table empty: with the lock clear as written, and under
the lock with the required flag kept, a deadline above the entry's ceiling not taken, and a ceiling given to an entry that
becomes required. COMPLIANCE_LOCK gives every required class its deadline as ceiling, and changes no action, deadline or
flag; with the lock set already it answers 0 and changes nothing. -/
def Obligations.ClassWrittenAndLocked : Prop :=
  ∀ s : State, portFree s →
    (s.receiver.lock = false →
      (∀ c action deadline required, c ≤ 127 → (∀ k : Fin 8, s.alert? k = none) →
        ∃ t, exec (.classWrite .engineer c action deadline required) s = .next t ∧
          t.classEntry c =
            { action := floorAction (decide (required ≠ 0)) (actionOf action), deadline := min deadline 900,
              required := decide (required ≠ 0), ceiling := (s.classEntry c).ceiling } ∧
          (∀ d, d ≠ c → t.classEntry d = s.classEntry d) ∧ t.receiver.lock = false ∧
          t = { s with receiver := t.receiver, port := t.port }) ∧
      (∃ t, exec (.complianceLock .engineer) s = .next t ∧ t.receiver.lock = true ∧
        (∀ c, t.classEntry c = if (s.classEntry c).required then
          { s.classEntry c with ceiling := some (s.classEntry c).deadline } else s.classEntry c) ∧
        t = { s with receiver := { s.receiver with lock := true, classes := t.receiver.classes }, port := t.port })) ∧
    (s.receiver.lock = true →
      (∀ c action deadline required, c ≤ 127 → (∀ k : Fin 8, s.alert? k = none) →
        ∃ t, exec (.classWrite .engineer c action deadline required) s = .next t ∧
          (t.classEntry c).required = (decide (required ≠ 0) || (s.classEntry c).required) ∧
          (t.classEntry c).action = floorAction (t.classEntry c).required (actionOf action) ∧
          (∀ x, (s.classEntry c).ceiling = some x → (t.classEntry c).ceiling = some x ∧
            (t.classEntry c).deadline = if x < min deadline 900 then (s.classEntry c).deadline else min deadline 900) ∧
          ((s.classEntry c).ceiling = none → (t.classEntry c).deadline = min deadline 900 ∧
            (t.classEntry c).ceiling = if (t.classEntry c).required then some (min deadline 900) else none) ∧
          (∀ d, d ≠ c → t.classEntry d = s.classEntry d) ∧ t.receiver.lock = true ∧
          t = { s with receiver := t.receiver, port := t.port }) ∧
      exec (.complianceLock .engineer) s = .next (s.answer 0x53 { status := .ok, fields := [0#8] }))

/-- ALERT_CARRY, ALERT_DISMISS and ALERT_READ from a permitted role are refused with BAD_FIELD for an origin above 63, and
with STALE for an identity that is not known, before any other check, and nothing else changes. -/
def Obligations.UnknownAlertRefused : Prop :=
  ∀ (s : State) (role : Role) (origin number : Nat) (i : Instr) (code : Nat), portFree s →
    (i, code) ∈ [(.alertCarry role origin number, 0x54), (.alertDismiss role origin number, 0x55),
      (.alertRead role origin number, 0x56)] → role ∈ permittedRoles code →
    (63 < origin → exec i s = .next (s.answer code { status := .badField, fields := [] })) ∧
    (origin ≤ 63 → s.slotOf origin number = none →
      exec i s = .next (s.answer code { status := .stale, fields := [] }))

/-- An ISSUE of a new alert whose valid-from lies ahead is stored PENDING in the lowest-numbered empty slot and answered
ACCEPTED; a repeat of the stored revision is answered DUPLICATE and an older one STALE_REVISION, and nothing else
changes. -/
def Obligations.IssueStoredOrAnswered : Prop :=
  ∀ (s : State) (f : IssueFrame), issueMalformed f = false → s.receiver.opened = none →
    (∀ k, s.slotOf f.origin f.number = none → (s.classEntry f.cls).action ≠ .ignore → f.validFrom < f.expires →
      s.clock.station < f.validFrom → s.emptySlot = some k →
      exec (.issue f) s = .next ((((s.putAlert k (some
        { frame := f, state := .pending, carried := 0, failed := 0, rank := s.rankFor f false, operatorCarry := false,
          storedAt := s.clock.mono, waitingSince := none, nextEligible := none, revisionOnAir := none })).sendAlert
        (.receipt f.origin f.number f.revision .accepted)).raise .alertReceived
          (some (.alertReceived f.origin f.number (s.rankFor f false)))).putSched k SchedEntry.clear)) ∧
    (∀ k a, s.slotOf f.origin f.number = some k → s.alert? k = some a →
      (f.revision = a.frame.revision →
        exec (.issue f) s = .next (s.sendAlert (.receipt f.origin f.number a.frame.revision .duplicate))) ∧
      (f.revision < a.frame.revision →
        exec (.issue f) s = .next (s.sendAlert (.receipt f.origin f.number a.frame.revision .staleRevision))))

/-- A record that is not ON_AIR is retired by CANCEL, which is answered CANCELLED with the stored revision, by its
expiry, and below rank 3 by ALERT_DISMISS. -/
def Obligations.AlertRetired : Prop :=
  ∀ (s : State) (k : Fin 8) (a : Alert), s.alert? k = some a → a.state ≠ .onAir →
    (∀ origin number, origin ≤ 63 → s.slotOf origin number = some k → s.receiver.opened = none →
      ∃ t, exec (.cancel origin number) s = .next t ∧ Retired s t k a .cancelled ∧
        t.receiver.outgoing = s.receiver.outgoing ++ [.receipt origin number a.frame.revision .cancelled]) ∧
    (a.frame.expires ≤ s.clock.station → ∃ t, exec (.expiry k) s = .next t ∧ Retired s t k a .expired ∧
      t.receiver.outgoing = s.receiver.outgoing) ∧
    (∀ origin number, portFree s → origin ≤ 63 → s.slotOf origin number = some k → a.rank < 3 →
      ∃ t, exec (.alertDismiss .presenter origin number) s = .next t ∧ Retired s t k a .dismissed)

/-- A record of rank 1 becomes WAITING and ELIGIBLE at its valid-from and at its next-eligible instant, and waits for the
operator; ALERT_CARRY of one that is not ELIGIBLE raises its rank to 2 and nothing else; a deadline that expires during
another alert's carriage sets deadline passed. -/
def Obligations.AlertInstantsAndOperatorCarry : Prop :=
  ∀ (s : State) (k : Fin 8) (a : Alert), s.alert? k = some a →
    (a.rank = 1 → a.state = .pending → a.frame.validFrom ≤ s.clock.station →
      exec (.validFrom k) s = .next ((s.putAlert k (some
        { a with state := .waiting, waitingSince := some s.clock.mono, nextEligible := none })).putSched k
          { eligibility := .eligible, placed := false, base := none, passed := false })) ∧
    (∀ x, a.rank = 1 → (s.sched? k).eligibility = .deferred → a.nextEligible = some x → x ≤ s.clock.station →
      exec (.nextEligible k) s = .next ((s.putAlert k (some
        { a with state := .waiting, waitingSince := some s.clock.mono, nextEligible := none })).putSched k
          { eligibility := .eligible, placed := false, base := none, passed := false })) ∧
    (∀ origin number, portFree s → origin ≤ 63 → s.slotOf origin number = some k → a.rank = 1 →
      (s.sched? k).eligibility ≠ .eligible →
      exec (.alertCarry .presenter origin number) s = .next ((s.putAlert k (some
        { a with operatorCarry := true, rank := 2 })).answer 0x54 (.ok (alertB { a with operatorCarry := true, rank := 2 })))) ∧
    (∀ base c, s.sched? k = { eligibility := .eligible, placed := false, base := some base, passed := false } →
      a.rank = 3 → base + (s.classEntry a.frame.cls).deadline * 1000 ≤ s.clock.mono → s.sched.carriage = some c →
      exec (.deadlineExpiry k) s = .next (s.putSched k
        { eligibility := .eligible, placed := false, base := some base, passed := true }))

/-- An ISSUE of a rank-4 alert already valid is carried at once: the sequencer is PREEMPTED, a LIVE entry on air is kept
for RESUME, the carriage record is ACTIVE, PLAY is queued, ALERT_FLAG is asked ON and the callers on air are held. A
carriage ends: at AUDIO_END it counts, and its record is CARRIED when its required carriages are done; at AUDIO_FAIL and
at the guard's expiry the failed count rises, and short of three the record waits 30 s; the guard's expiry sends STOP. The
air is given back: STOPPED, or the interrupted entry with the rest of its time. (That the entry's station time of start
is then moved back by what it had played is log entry 38, read from R164 by inference; the PLAY frame and the carriage
record carry the model's own serial, log entry 22, and the record the model's own copy of deadline passed, log entry 59.) -/
def Obligations.CarriageStartsAndEnds : Prop :=
  (∀ (s : State) (f : IssueFrame) (k : Fin 8), issueMalformed f = false → s.receiver.opened = none →
    s.slotOf f.origin f.number = none → (s.classEntry f.cls).action = .mandatoryNow → f.test = 0 →
    f.validFrom < f.expires → f.validFrom ≤ s.clock.station → s.clock.station < f.expires →
    s.emptySlot = some k → s.sched.carriage = none → (∀ j, (s.sched? j).eligibility ≠ .eligible) →
    s.air.outgoing = none →
    (s.air.state = .stopped → s.air.onAir = none →
      ∃ t, exec (.issue f) s = .next t ∧ CarriageStarted s t f k ∧ t.interp.held = s.interp.held ∧
        t.air.preemption = some
          { interrupted := none, elapsed := 0, policy := .next, before := .stopped, outgoingCut := false }) ∧
    (∀ o h l timed item, s.air.state = .running → s.air.onAir = some o → o.source = .item h l (.live timed item) →
      ∃ t, exec (.issue f) s = .next t ∧ CarriageStarted s t f k ∧ t.interp.held = s.interp.held ∧
        t.air.preemption = some
          { interrupted := some o, elapsed := o.elapsed s.clock.mono, policy := .resume, before := .running,
            outgoingCut := false })) ∧
  (∀ (s : State) (c : Carriage) (a : Alert), PlainCarriage s c a → s.receiver.opened = none →
    (∀ p, s.air.preemption = some p → p.policy = .next → p.before = .stopped →
      (a.frame.required ≤ a.carried + 1 →
        ∃ t, exec .audioEnd s = .next t ∧ CarriageEnded s t c .ended true ∧ t.air.state = .stopped ∧
          t.alert? c.slot = some { a with state := .carried, carried := a.carried + 1, revisionOnAir := none } ∧
          t.receiver.outgoing = s.receiver.outgoing) ∧
      (a.failed + 1 < 3 →
        ∃ t, exec .audioFail s = .next t ∧ CarriageEnded s t c .fail false ∧ t.air.state = .stopped ∧
          t.alert? c.slot = some { a with state := .waiting, failed := a.failed + 1, revisionOnAir := none,
                                          nextEligible := some (s.clock.station + 30000) } ∧
          (t.sched? c.slot).eligibility = .deferred ∧ t.receiver.outgoing = s.receiver.outgoing) ∧
      (a.failed + 1 < 3 → c.guardAt ≤ s.clock.mono →
        ∃ t, exec .guardExpiry s = .next t ∧ CarriageEnded s t c .guard false ∧ t.air.state = .stopped ∧
          t.alert? c.slot = some { a with state := .waiting, failed := a.failed + 1, revisionOnAir := none,
                                          nextEligible := some (s.clock.station + 30000) } ∧
          (t.sched? c.slot).eligibility = .deferred ∧ t.receiver.outgoing = s.receiver.outgoing ++ [.stop])) ∧
    (∀ p o h l timed item, s.air.preemption = some p → p.policy = .resume → p.interrupted = some o →
      o.source = .item h l (.live timed item) → p.elapsed ≤ s.clock.mono → p.elapsed ≤ s.clock.station →
      s.clock.station < Config.stationModulus → a.frame.required ≤ a.carried + 1 →
      ∃ t, exec .audioEnd s = .next t ∧ CarriageEnded s t c .ended true ∧ t.air.state = .running ∧
        t.occurrence .entryStarted = s.occurrence .entryStarted ∧
        t.air.onAir = some { o with
          phase := .playing (s.clock.mono - p.elapsed) (s.clock.station - p.elapsed)
          endTimer := if timed then some (s.clock.mono + (o.frozen - p.elapsed)) else none }))

/-- A decoder frame of an unknown kind is abandoned at its kind byte, one whose length does not suit its kind at its
length byte, one whose check does not match at the last check byte (those bytes are log entry 10), and an open frame after
a gap of more than 50 ms, each counted; a frame sent leaves the outgoing queue with its bytes laid out as R204 says and
its check after them, and the PLAY of the carriage in progress, known by the model's serial (log entry 22), sets play
sent. -/
def Obligations.AlertPortFramesAbandonedAndSent : Prop :=
  ∀ s : State,
    (∀ b : Byte, s.receiver.opened = none → alertLength b.toNat = none →
      exec (.alertFrameAbandoned [0xA7#8, b]) s = .next { s with receiver := { s.receiver with
        opened := none, discards := countUp 65535 s.receiver.discards } }) ∧
    (∀ (kind len : Byte) (n : Nat), s.receiver.opened = none → alertLength kind.toNat = some n → len.toNat ≠ n →
      exec (.alertFrameAbandoned [0xA7#8, kind, len]) s = .next { s with receiver := { s.receiver with
        opened := none, discards := countUp 65535 s.receiver.discards } }) ∧
    (∀ (kind len : Byte) (payload check : List Byte), s.receiver.opened = none →
      alertLength kind.toNat = some payload.length → len.toNat = payload.length → check.length = 2 →
      check ≠ be 2 (crc (kind :: len :: payload)) →
      exec (.alertFrameAbandoned (0xA7#8 :: kind :: len :: (payload ++ check))) s = .next { s with receiver :=
        { s.receiver with opened := none, discards := countUp 65535 s.receiver.discards } }) ∧
    (∀ f, s.receiver.opened = some f → 50 < s.clock.mono - f.lastAt →
      exec .alertFrameGap s = .next { s with receiver := { s.receiver with
        opened := none, discards := countUp 65535 s.receiver.discards } }) ∧
    (∀ rest c, s.receiver.outgoing = .play c.origin c.number c.serial :: rest → s.sched.carriage = some c →
      exec .alertFrameSent s = .next { s with
        receiver := { s.receiver with
          outgoing := rest
          lastSent := frameBytes 0xA7#8 ([0x82#8, 3#8] ++ be 1 c.origin ++ be 2 c.number) }
        sched := { s.sched with carriage := some { c with playSent := true } } }) ∧
    (∀ rest o n r x i, s.receiver.outgoing = .receipt o n r x :: rest →
      [ReceiptResult.accepted, .ignored, .expired, .full, .duplicate, .staleRevision, .malformed, .cancelled,
        .unknown][i]? = some x →
      exec .alertFrameSent s = .next { s with receiver := { s.receiver with
        outgoing := rest
        lastSent := frameBytes 0xA7#8 ([0x81#8, 5#8] ++ be 1 o ++ be 2 n ++ be 1 r ++ be 1 (i + 1)) } }) ∧
    (∀ rest, s.receiver.outgoing = .stop :: rest →
      exec .alertFrameSent s = .next { s with receiver := { s.receiver with
        outgoing := rest, lastSent := frameBytes 0xA7#8 [0x83#8, 0#8] } })

/-! ### The site link -/

/-- SITE_SET stores the desired value, clamped for POWER and MOD_LIMIT, answers OK with the record as stored, and clears
the fold-back flag for POWER and CARRIER and the escalation flag for SITE_AUDIO. -/
def Obligations.SiteSetStoresDesiredValue : Prop :=
  ∀ (s : State) (param value v : Nat) (p : Param), portFree s → readParam param = some p →
    siteValue p value = .ok v →
    ∃ t, exec (.siteSet .engineer param value) s = .next t ∧ (t.param p).desired = some v ∧
      (t.param p).confirmed = (s.param p).confirmed ∧ (∀ q, q ≠ p → (t.param q).desired = (s.param q).desired) ∧
      t.port.response = some { code := 0x60#8, status := .ok, fields := paramB t p } ∧
      (p = .siteAudio → t.bus = { s.bus with escalationFlag := false }) ∧
      (p = .power ∨ p = .carrier → t.site.foldActive = false ∧ t.site.strikes = 0) ∧
      t = { s with site := t.site, bus := t.bus, port := t.port } ∧ (p ≠ .siteAudio → t.bus = s.bus)

/-- With the link UP: an ACK with the value sent settles its record and confirms the value; a NAK with reason RANGE or
INTERLOCK refuses it; a READING is converted and VALID; a STATE is kept and confirms the carrier. The fold-back test is
made at a READING of REFL_POWER: a false one clears the strike count, a true one strikes, and the second in a row folds
back, POWER to half and not below 10 W, or CARRIER off. -/
def Obligations.SiteFramesHandled : Prop :=
  ∀ s : State, s.site.link = .up → s.site.opened = none →
    (∀ n param p v e, s.inFlight? n = some e → e.target = .set p v none → readParam param = some p → p ≠ .power →
      p ≠ .txSelect → validValue p v = true → (s.param p).desired = some v →
      ∃ t, exec (.ack n param v) s = .next t ∧ (t.param p).state = .settled ∧ (t.param p).confirmed = some v ∧
        FrameTaken s t) ∧
    (∀ n reason p v e, s.inFlight? n = some e → e.target = .set p v none → (reason = 1 ∨ reason = 2) →
      (s.param p).desired = some v →
      ∃ t, exec (.nak n reason) s = .next t ∧ (t.param p).state = .refused ∧
        (t.param p).refusal = some (if reason = 1 then .range else .interlock) ∧
        (t.occurrence .siteRefused).count = countUp 255 (s.occurrence .siteRefused).count ∧ FrameTaken s t) ∧
    (∀ n code e (c : Fin 8), s.inFlight? n = some e → e.target = .poll c →
      ∃ t, exec (.reading n (c.val + 1) code) s = .next t ∧
        t.site.readings[c] = { state := .valid, value := some (readingValue c code), takenAt := some s.clock.mono } ∧
        FrameTaken s t) ∧
    (∀ n code e fwd x, s.inFlight? n = some e → e.target = .poll 1 →
      s.site.readings[(0 : Fin 8)] = { state := .valid, value := some fwd, takenAt := some x } →
      x ≤ s.clock.mono → s.clock.mono ≤ x + 2000 →
      ∃ t, exec (.reading n 2 code) s = .next t ∧ FrameTaken s t ∧
        ((code * 125 / 65535 : Nat) * 100 ≤ fwd * s.site.foldLimit →
          t.site.strikes = 0 ∧ t.site.foldActive = s.site.foldActive) ∧
        (fwd * s.site.foldLimit < (code * 125 / 65535 : Nat) * 100 → s.site.strikes = 0 →
          t.site.strikes = 1 ∧ t.site.foldActive = s.site.foldActive) ∧
        (fwd * s.site.foldLimit < (code * 125 / 65535 : Nat) * 100 → s.site.strikes = 1 →
          t.site.strikes = 0 ∧ t.site.foldActive = true ∧
          (t.occurrence .foldback).count = countUp 255 (s.occurrence .foldback).count ∧
          (∀ v, (s.param .power).desired = some v → 10 < v →
            (t.param .power).desired = some (max 10 (v / 2)) ∧
            (t.param .carrier).desired = (s.param .carrier).desired ∧
            (t.occurrence .foldback).detail = some (.foldback (some (max 10 (v / 2))))) ∧
          ((∀ v, (s.param .power).desired = some v → v ≤ 10) →
            (t.param .power).desired = (s.param .power).desired ∧ (t.param .carrier).desired = some 0 ∧
            (t.occurrence .foldback).detail = some (.foldback none)))) ∧
    (∀ active carrier audio fallback, s.site.changeover = none →
      ∃ t, exec (.siteState active carrier audio fallback) s = .next t ∧
        t.site.report = some { active := if active ≤ 1 then some active else none, carrierUp := decide (carrier ≠ 0),
                               audio := if audio ≤ 1 then some audio else none, fallback := decide (fallback ≠ 0),
                               takenAt := s.clock.mono } ∧
        (t.param .carrier).confirmed = some (if carrier ≠ 0 then 1 else 0) ∧ t.site.reportSinceReset = true ∧
        FrameTaken s t)

/-- The number that a new frame takes is held by no frame in flight while the table has a free entry. -/
def Obligations.NextSequenceIsFree : Prop :=
  ∀ s : State, s.site.sequence < 256 → s.site.inFlight.length < 4 →
    s.nextSequence < 256 ∧ ∀ e ∈ s.site.inFlight, e.sequence ≠ s.nextSequence

/-- A site frame of an unknown kind (abandoned at its kind byte), of a length that does not suit its kind (at its length
byte), with a check that does not match (at the last check byte; those bytes are log entry 10) and one with a gap of more
than 50 ms are abandoned and counted; a frame whose last byte has left leaves the outgoing queue, its bytes laid out as R205 says with
the check after them, and its entry in flight takes the send time; a KEEP is produced every 1,000 ms and a channel made
due every 500 ms. -/
def Obligations.SitePortFramesAndPolls : Prop :=
  ∀ s : State,
    (∀ b : Byte, s.site.opened = none → siteLength b.toNat = none →
      exec (.siteFrameAbandoned [0xC3#8, b]) s = .next { s with site := { s.site with
        opened := none, discards := countUp 65535 s.site.discards } }) ∧
    (∀ (kind seq len : Byte) (n : Nat), s.site.opened = none → siteLength kind.toNat = some n → len.toNat ≠ n →
      exec (.siteFrameAbandoned [0xC3#8, kind, seq, len]) s = .next { s with site := { s.site with
        opened := none, discards := countUp 65535 s.site.discards } }) ∧
    (∀ (kind seq len : Byte) (payload check : List Byte), s.site.opened = none →
      siteLength kind.toNat = some payload.length → len.toNat = payload.length → check.length = 2 →
      check ≠ be 2 (crc (kind :: seq :: len :: payload)) →
      exec (.siteFrameAbandoned (0xC3#8 :: kind :: seq :: len :: (payload ++ check))) s = .next { s with site :=
        { s.site with opened := none, discards := countUp 65535 s.site.discards } }) ∧
    (∀ f, s.site.opened = some f → 50 < s.clock.mono - f.lastAt →
      exec .siteFrameGap s = .next { s with site := { s.site with
        opened := none, discards := countUp 65535 s.site.discards } }) ∧
    (∀ n c rest, s.site.outgoing = .poll n c :: rest → ∃ t, exec .siteFrameSent s = .next t ∧
      t = { s with site := { s.site with
        outgoing := rest
        lastSent := frameBytes 0xC3#8 ([0x12#8] ++ be 1 n ++ [1#8] ++ be 1 (c.val + 1))
        inFlight := t.site.inFlight } } ∧
      t.site.inFlight = s.site.inFlight.map fun e =>
        if e.sequence = n ∧ e.sentAt = none then { e with sentAt := some s.clock.mono } else e) ∧
    (∀ n p v rest i, s.site.outgoing = .set n p v :: rest →
      [Param.carrier, .power, .txSelect, .siteAudio, .alertFlag, .modLimit][i]? = some p →
      ∃ t, exec .siteFrameSent s = .next t ∧
      t = { s with site := { s.site with
        outgoing := rest
        lastSent := frameBytes 0xC3#8 ([0x11#8] ++ be 1 n ++ [3#8] ++ be 1 (i + 1) ++ be 2 v)
        inFlight := t.site.inFlight } } ∧
      t.site.inFlight = s.site.inFlight.map fun e =>
        if e.sequence = n ∧ e.sentAt = none then { e with sentAt := some s.clock.mono } else e) ∧
    (∀ n on present rest, s.site.outgoing = .keep n on present :: rest →
      exec .siteFrameSent s = .next { s with site := { s.site with
        outgoing := rest
        lastSent := frameBytes 0xC3#8
          ([0x13#8] ++ be 1 n ++ [2#8, if on then 1#8 else 0#8, if present then 1#8 else 0#8]) } }) ∧
    (s.site.keepAt ≤ s.clock.mono → exec .keepTimer s = .next { s with site := { s.site with
      outgoing := s.site.outgoing ++ [.keep s.nextSequence s.alertOnAir
        (decide (s.bus.monitor.state = .sound) || decide (s.bus.monitor.state = .quiet))]
      sequence := (s.nextSequence + 1) % 256, keepAt := s.clock.mono + 1000 } }) ∧
    (s.site.pollAt ≤ s.clock.mono → ∃ t, exec .pollTimer s = .next t ∧
      t.site.lastChannel = some (match s.site.lastChannel with | none => 0 | some c => c + 1) ∧
      t.site.pollAt = s.clock.mono + 500 ∧ t = { s with site := t.site } ∧
      (s.site.link = .lost → t.site.duePoll = t.site.lastChannel))

/-- An acknowledgement timeout below the third try sends the frame again with its own sequence and content; at the third
a SET whose value is still desired becomes UNCONFIRMED for 30,000 ms; the retry timer then makes it wait again while the
link is LOST, and makes it DIRTY, to be sent in its turn, otherwise. -/
def Obligations.TimeoutsAndRetries : Prop :=
  ∀ s : State,
    (∀ n e x, s.inFlight? n = some e → e.sentAt = some x → x + 400 ≤ s.clock.mono →
      (e.tries < 3 → exec (.ackTimeout n) s = .next { s with site := { s.site with
        outgoing := s.site.outgoing ++ [e.frame]
        inFlight := s.site.inFlight.map fun y =>
          if y.sequence = e.sequence then { y with tries := y.tries + 1, sentAt := none } else y } }) ∧
      (∀ p v w, e.tries = 3 → e.target = .set p v w → (s.param p).desired = some v →
        ∃ t, exec (.ackTimeout n) s = .next t ∧ (t.param p).state = .unconfirmed ∧
          (t.param p).retryAt = some (s.clock.mono + 30000) ∧
          (t.occurrence .setUnconfirmed).detail = some (.setUnconfirmed p))) ∧
    (∀ p x, (s.param p).state = .unconfirmed → (s.param p).retryAt = some x → x ≤ s.clock.mono →
      (s.site.link = .lost → exec (.retryTimer p) s =
        .next (s.putParam p { s.param p with retryAt := some (s.clock.mono + 30000) })) ∧
      (s.site.link ≠ .lost → ∃ t, exec (.retryTimer p) s = .next t ∧
        ((t.param p).state = .dirty ∨ (t.param p).state = .sent) ∧ (t.param p).retryAt = none ∧
        t = { s with site := t.site }))

/-- Link supervision and ageing: 3,000 ms of silence make an UP link DEGRADED and 10,000 ms a DEGRADED link LOST; a
changeover not complete after 20,000 ms fails; a VALID reading whose age has passed 10,000 ms is STALE. -/
def Obligations.LinkSupervisionAndAgeing : Prop :=
  ∀ s : State,
    (∀ x, s.site.silenceFrom = some x →
      (s.site.link = .up → x + 3000 ≤ s.clock.mono →
        exec .silenceTimerDegrade s = .next { s with site := { s.site with link := .degraded } }) ∧
      (s.site.link = .degraded → x + 10000 ≤ s.clock.mono →
        exec .silenceTimerLoss s = .next { s with site := { s.site with link := .lost } })) ∧
    (∀ c, s.site.changeover = some c → c.startedAt + 20000 ≤ s.clock.mono →
      ∃ t, exec .changeoverTimer s = .next t ∧ t.site.changeover = none ∧
        (t.param .txSelect).state = .refused ∧ (t.param .txSelect).refusal = some .changeover ∧
        (t.param .txSelect).retryAt = none ∧
        (t.occurrence .changeoverFailed).detail = some (.changeoverFailed c.target) ∧
        t = { s with site := t.site, events := t.events }) ∧
    (∀ (c : Fin 8) x, s.site.readings[c].state = .valid → s.site.readings[c].takenAt = some x →
      x + 10000 < s.clock.mono → exec (.readingStale c) s =
        .next (s.putReading c { s.site.readings[c] with state := .stale }))

/-! ### Configuration and the clock -/

/-- Each item of CONFIG_WRITE is clamped into its range and handed to its owner; the fill player takes effect at once
unless the player is on air for an entry. It is then held pending, also through the 20 ms in which a cut entry's player
is still ON_AIR (log entry 16, read from R45 and R46 by inference). A fill player outside 0..4 and an item code that names
no item are refused with BAD_FIELD. -/
def Obligations.ConfigurationClampedAndStored : Prop :=
  ∀ (s : State) (v : Int), portFree s →
    (∃ t, exec (.configWriteTolerance .engineer v) s = .next t ∧ (t.timer.tolerance : Int) = max 0 (min 5000 v) ∧
      t.store = s.store ∧ t.lines = s.lines ∧ t.site = s.site ∧ t.bus = s.bus) ∧
    (∃ t, exec (.configWriteCueGrace .engineer v) s = .next t ∧ (t.air.cueGrace : Int) = max 0 (min 10000 v) ∧
      t = { s with air := { s.air with cueGrace := t.air.cueGrace }, port := t.port }) ∧
    (∃ t, exec (.configWriteThreshold .engineer v) s = .next t ∧ t.bus.threshold = max (-70) (min (-30) v) ∧
      t = { s with bus := { s.bus with threshold := t.bus.threshold }, port := t.port }) ∧
    (∃ t, exec (.configWriteDeadAirLimit .engineer v) s = .next t ∧ (t.bus.deadAirLimit : Int) = max 2 (min 60 v) ∧
      t = { s with bus := { s.bus with deadAirLimit := t.bus.deadAirLimit }, port := t.port }) ∧
    (∃ t, exec (.configWriteDuckDepth .engineer v) s = .next t ∧ (t.bus.duckDepth : Int) = max 0 (min 60 v) ∧
      t = { s with bus := { s.bus with duckDepth := t.bus.duckDepth }, port := t.port }) ∧
    (∃ t, exec (.configWriteHoldLimit .engineer v) s = .next t ∧ (t.lines.holdLimit : Int) = max 1 (min 60 v) ∧
      t = { s with lines := { s.lines with holdLimit := t.lines.holdLimit }, port := t.port }) ∧
    (∃ t, exec (.configWriteFoldBackLimit .engineer v) s = .next t ∧ (t.site.foldLimit : Int) = max 1 (min 50 v) ∧
      t = { s with site := { s.site with foldLimit := t.site.foldLimit }, port := t.port }) ∧
    (∃ t, exec (.configWriteCalibration .engineer 9 v) s = .next t ∧ t.site.calMain = max (-128) (min 127 v) ∧
      t.site.calReserve = s.site.calReserve ∧ t = { s with site := t.site, port := t.port }) ∧
    (∃ t, exec (.configWriteCalibration .engineer 10 v) s = .next t ∧ t.site.calReserve = max (-128) (min 127 v) ∧
      t.site.calMain = s.site.calMain ∧ t = { s with site := t.site, port := t.port }) ∧
    (∀ item, item = 0 ∨ 10 < item → exec (.configWriteCalibration .engineer item v) s =
      .next (s.answer 0x70 { status := .badField, fields := [] })) ∧
    (v < 0 ∨ 4 < v → exec (.configWriteFillPlayer .engineer v) s =
      .next (s.answer 0x70 { status := .badField, fields := [] })) ∧
    (∃ t, exec (.configWriteFillPlayer .engineer 0) s = .next t ∧ t.air.fillPlayer = none ∧ t.air.fillPending = none) ∧
    (∀ p : Fin 4, (s.player p).onAirForEntry = false →
      ∃ t, exec (.configWriteFillPlayer .engineer ((p.val : Int) + 1)) s = .next t ∧ t.air.fillPlayer = some p ∧
        t.air.fillPending = none) ∧
    (∀ p : Fin 4, (s.player p).onAirForEntry = true →
      ∃ t, exec (.configWriteFillPlayer .engineer ((p.val : Int) + 1)) s = .next t ∧
        t.air.fillPlayer = s.air.fillPlayer ∧ t.air.fillPending = some p)

/-- CLOCK_SET, here with no post watch armed and no alert stored, sets station time and clears CLOCK_UNSET, and leaves
monotonic time; a value above 2^40-1 is refused with BAD_FIELD. -/
def Obligations.ClockSetMovesStationTime : Prop :=
  ∀ (s : State) (time : Nat), portFree s →
    (time < 2 ^ 40 → (∀ w, s.air.watch ≠ .armed w) → (∀ k : Fin 8, s.alert? k = none) →
      (∀ k : Fin 8, (s.sched? k).eligibility ≠ .deferred) →
      ∃ t, exec (.clockSet .automation time) s = .next t ∧ t.clock.station = time ∧ t.clock.unset = false ∧
        t.clock.mono = s.clock.mono ∧ t.timer.record.t0 = time ∧ t.store = s.store ∧ t.lines = s.lines ∧
        t.bus = s.bus ∧ t.site = s.site ∧ t.receiver = s.receiver ∧ t.sched = s.sched ∧
        t.port.response = some { code := 0x72#8, status := .ok, fields := be 6 time }) ∧
    (2 ^ 40 ≤ time → exec (.clockSet .automation time) s =
      .next (s.answer 0x72 { status := .badField, fields := [] }))
end

