-- ==== Sys2Proof/Laws/Bytes.lean ====
section
/-! SUPPORT. The laws of bytes: the byte order's round trips, the lengths of packed fields, the range of the check, and the lengths of sent
frames. -/

namespace Sys2Proof

@[simp] theorem be_length (k n : Nat) : (be k n).length = k := by
  induction k with
  | zero => rfl
  | succ k ih => simp [be, ih]

/-- What a number read from bytes comes to when a byte follows. -/
theorem beNat_foldl (bytes : List Byte) (n : Nat) :
    bytes.foldl (fun n b => n * 256 + b.toNat) n = n * 256 ^ bytes.length + beNat bytes := by
  unfold beNat
  induction bytes generalizing n with
  | nil => simp
  | cons b rest ih =>
    simp only [List.foldl_cons, List.length_cons]
    rw [ih (n * 256 + b.toNat), ih (0 * 256 + b.toNat)]
    ring

/-- The first byte of a number is its most significant. -/
theorem beNat_cons (b : Byte) (rest : List Byte) : beNat (b :: rest) = b.toNat * 256 ^ rest.length + beNat rest := by
  have h := beNat_foldl rest b.toNat
  simpa [beNat] using h

/-- Writing `k` bytes and reading them keeps the number's lowest `k` bytes. -/
theorem beNat_be (k n : Nat) : beNat (be k n) = n % 256 ^ k := by
  induction k with
  | zero => simp [be, beNat, Nat.mod_one]
  | succ k ih =>
    rw [be, beNat_cons, ih, be_length]
    have h := Nat.mod_mul (x := n) (a := 256 ^ k) (b := 256)
    rw [BitVec.toNat_ofNat, Nat.pow_succ (n := 256), h]
    ring

/-- A number that fits its bytes is read back. -/
theorem beNat_be_of_fits (k n : Nat) (h : fits k n = true) : beNat (be k n) = n := by
  rw [beNat_be]
  exact Nat.mod_eq_of_lt (by simpa [fits] using h)

@[simp] theorem packFields_length (l : List (Nat × Nat)) : (packFields l).length = (l.map Prod.fst).sum := by
  induction l with
  | nil => rfl
  | cons p rest ih => obtain ⟨k, v⟩ := p; simp [packFields, ih]

@[simp] theorem packPairs_length (l : List (Nat × Nat)) : (packPairs l).length = 2 * l.length := by
  induction l with
  | nil => rfl
  | cons p rest ih => obtain ⟨a, b⟩ := p; simp [packPairs, ih]; omega

/-- Fields that fit their widths are read back as they were packed. -/
theorem unpack_packFields (l : List (Nat × Nat)) (h : ∀ p ∈ l, fits p.1 p.2 = true) :
    unpack (l.map Prod.fst) (packFields l) = some (l.map Prod.snd) := by
  induction l with
  | nil => rfl
  | cons p rest ih =>
    obtain ⟨k, v⟩ := p
    have hv : fits k v = true := h (k, v) (by simp)
    have hr := ih fun q hq => h q (by simp [hq])
    simp only [List.map_cons, packFields, unpack]
    rw [if_pos (by simp), List.drop_left' (be_length k v), List.take_left' (be_length k v), hr,
      beNat_be_of_fits k v hv]
    rfl

/-- Pairs that fit a byte each are read back as they were packed. -/
theorem unpackPairs_packPairs (l : List (Nat × Nat)) (h : ∀ p ∈ l, fits 1 p.1 = true ∧ fits 1 p.2 = true) :
    unpackPairs (packPairs l) = some l := by
  induction l with
  | nil => rfl
  | cons p rest ih =>
    obtain ⟨a, b⟩ := p
    have hp := h (a, b) (by simp)
    have hr := ih fun q hq => h q (by simp [hq])
    simp only [fits, decide_eq_true_eq] at hp
    simp only [packPairs, be, List.cons_append, List.nil_append, unpackPairs, hr, Option.map_some]
    simp only [BitVec.toNat_ofNat]
    have ha : a / 256 ^ 0 % 2 ^ 8 = a := by simp; omega
    have hb : b / 256 ^ 0 % 2 ^ 8 = b := by simp; omega
    rw [ha, hb]

/-- The check is a 16-bit number. -/
theorem crc_lt (bytes : List Byte) : crc bytes < 65536 := by
  unfold crc
  exact (bytes.foldl crcByte 0xFFFF#16).isLt

/-- A signed value that fits two bytes is read back. -/
theorem signed16_unsigned16 (v : Int) (h : fitsSigned v = true) : signed16 (unsigned16 v) = v := by
  simp only [fitsSigned, Bool.and_eq_true, decide_eq_true_eq] at h
  unfold signed16 unsigned16
  split <;> omega

/-- The role of a role's code is the role. -/
theorem roleOf_code (r : Role) : roleOf r.code = some r := by cases r <;> rfl

/-! ### Sent frames (R199, R204, R205) -/

namespace Machine

@[simp] theorem sentFrame_length (start : Byte) (covered : List Byte) :
    (sentFrame start covered).length = covered.length + 3 := by
  simp [sentFrame]

@[simp] theorem counted_length (payload : List Byte) : (counted payload).length = payload.length + 1 := by
  simp [counted, Nat.add_comm]

/-- A frame ends with the check of what it covers, high byte first. -/
theorem sentFrame_check (start : Byte) (covered : List Byte) :
    beNat ((sentFrame start covered).drop (covered.length + 1)) = crc covered := by
  have h : (sentFrame start covered).drop (covered.length + 1) = be 2 (crc covered) := by simp [sentFrame]
  rw [h, beNat_be]
  exact Nat.mod_eq_of_lt (crc_lt covered)

/-- A frame to the decoder has its payload and five bytes more, at most ten bytes (R204). -/
theorem AlertFrame.bytes_length (f : AlertFrame) : f.bytes.length = f.payload.length + 5 ∧ f.bytes.length ≤ 10 := by
  cases f <;> simp [AlertFrame.bytes, AlertFrame.payload]

/-- A frame to the site has its payload and six bytes more, at most nine bytes (R205). -/
theorem SiteFrame.bytes_length (f : SiteFrame) : f.bytes.length = f.payload.length + 6 ∧ f.bytes.length ≤ 9 := by
  cases f <;> simp [SiteFrame.bytes, SiteFrame.payload]

/-- The planned values of a resolved entry take 35 bytes (R24, R198). -/
@[simp] theorem plannedB_length (b : Body) : (plannedB b).length = 35 := by simp [plannedB]

/-- A configuration value takes its item's width (R198). -/
@[simp] theorem configValueB_length (item : Nat) (v : Int) : (configValueB item v).length = configWidth item := by
  simp [configValueB, beInt]

/-- A parameter's value takes its width (R198). -/
@[simp] theorem paramValueB_length (p : Param) (v : Nat) : (paramValueB p v).length = paramWidth p := by
  simp [paramValueB]

end Machine

end Sys2Proof
end

