-- ==== Sys2Proof/Laws/State.lean ====
section
/-! SUPPORT. For each update of one part of the state, one lemma per part that it leaves as it was. -/

namespace Sys2Proof.Machine

@[simp] theorem State.raise_clock (s : State) (o : Occurrence) (d : Option Detail) : (s.raise o d).clock = s.clock := rfl
@[simp] theorem State.raise_store (s : State) (o : Occurrence) (d : Option Detail) : (s.raise o d).store = s.store := rfl
@[simp] theorem State.raise_interp (s : State) (o : Occurrence) (d : Option Detail) : (s.raise o d).interp = s.interp := rfl
@[simp] theorem State.raise_air (s : State) (o : Occurrence) (d : Option Detail) : (s.raise o d).air = s.air := rfl
@[simp] theorem State.raise_timer (s : State) (o : Occurrence) (d : Option Detail) : (s.raise o d).timer = s.timer := rfl
@[simp] theorem State.raise_bus (s : State) (o : Occurrence) (d : Option Detail) : (s.raise o d).bus = s.bus := rfl
@[simp] theorem State.raise_lines (s : State) (o : Occurrence) (d : Option Detail) : (s.raise o d).lines = s.lines := rfl
@[simp] theorem State.raise_receiver (s : State) (o : Occurrence) (d : Option Detail) : (s.raise o d).receiver = s.receiver := rfl
@[simp] theorem State.raise_sched (s : State) (o : Occurrence) (d : Option Detail) : (s.raise o d).sched = s.sched := rfl
@[simp] theorem State.raise_site (s : State) (o : Occurrence) (d : Option Detail) : (s.raise o d).site = s.site := rfl
@[simp] theorem State.raise_port (s : State) (o : Occurrence) (d : Option Detail) : (s.raise o d).port = s.port := rfl
@[simp] theorem State.raise_freeUsed (s : State) (o : Occurrence) (d : Option Detail) : (s.raise o d).freeUsed = s.freeUsed := rfl
@[simp] theorem State.raise_pending (s : State) (o : Occurrence) (d : Option Detail) : (s.raise o d).pending = s.pending := rfl

@[simp] theorem State.answer_clock (s : State) (code : Nat) (r : Reply) : (s.answer code r).clock = s.clock := rfl
@[simp] theorem State.answer_store (s : State) (code : Nat) (r : Reply) : (s.answer code r).store = s.store := rfl
@[simp] theorem State.answer_interp (s : State) (code : Nat) (r : Reply) : (s.answer code r).interp = s.interp := rfl
@[simp] theorem State.answer_air (s : State) (code : Nat) (r : Reply) : (s.answer code r).air = s.air := rfl
@[simp] theorem State.answer_timer (s : State) (code : Nat) (r : Reply) : (s.answer code r).timer = s.timer := rfl
@[simp] theorem State.answer_bus (s : State) (code : Nat) (r : Reply) : (s.answer code r).bus = s.bus := rfl
@[simp] theorem State.answer_lines (s : State) (code : Nat) (r : Reply) : (s.answer code r).lines = s.lines := rfl
@[simp] theorem State.answer_receiver (s : State) (code : Nat) (r : Reply) : (s.answer code r).receiver = s.receiver := rfl
@[simp] theorem State.answer_sched (s : State) (code : Nat) (r : Reply) : (s.answer code r).sched = s.sched := rfl
@[simp] theorem State.answer_site (s : State) (code : Nat) (r : Reply) : (s.answer code r).site = s.site := rfl
@[simp] theorem State.answer_events (s : State) (code : Nat) (r : Reply) : (s.answer code r).events = s.events := rfl
@[simp] theorem State.answer_freeUsed (s : State) (code : Nat) (r : Reply) : (s.answer code r).freeUsed = s.freeUsed := rfl
@[simp] theorem State.answer_pending (s : State) (code : Nat) (r : Reply) : (s.answer code r).pending = s.pending := rfl

@[simp] theorem State.overrun_clock (s : State) (c : Option Byte) : (s.overrun c).clock = s.clock := rfl
@[simp] theorem State.overrun_store (s : State) (c : Option Byte) : (s.overrun c).store = s.store := rfl
@[simp] theorem State.overrun_interp (s : State) (c : Option Byte) : (s.overrun c).interp = s.interp := rfl
@[simp] theorem State.overrun_air (s : State) (c : Option Byte) : (s.overrun c).air = s.air := rfl
@[simp] theorem State.overrun_timer (s : State) (c : Option Byte) : (s.overrun c).timer = s.timer := rfl
@[simp] theorem State.overrun_bus (s : State) (c : Option Byte) : (s.overrun c).bus = s.bus := rfl
@[simp] theorem State.overrun_lines (s : State) (c : Option Byte) : (s.overrun c).lines = s.lines := rfl
@[simp] theorem State.overrun_receiver (s : State) (c : Option Byte) : (s.overrun c).receiver = s.receiver := rfl
@[simp] theorem State.overrun_sched (s : State) (c : Option Byte) : (s.overrun c).sched = s.sched := rfl
@[simp] theorem State.overrun_site (s : State) (c : Option Byte) : (s.overrun c).site = s.site := rfl
@[simp] theorem State.overrun_port (s : State) (c : Option Byte) :
    (s.overrun c).port = { s.port with dataOut := .filler } := rfl
@[simp] theorem State.overrun_events (s : State) (c : Option Byte) :
    (s.overrun c).events = (s.raise .portOverrun (some (.portOverrun c))).events := rfl
@[simp] theorem State.overrun_freeUsed (s : State) (c : Option Byte) : (s.overrun c).freeUsed = s.freeUsed := rfl
@[simp] theorem State.overrun_pending (s : State) (c : Option Byte) : (s.overrun c).pending = s.pending := rfl

@[simp] theorem State.useFree_clock (s : State) : (s.useFree).clock = s.clock := rfl
@[simp] theorem State.useFree_store (s : State) : (s.useFree).store = s.store := rfl
@[simp] theorem State.useFree_interp (s : State) : (s.useFree).interp = s.interp := rfl
@[simp] theorem State.useFree_air (s : State) : (s.useFree).air = s.air := rfl
@[simp] theorem State.useFree_timer (s : State) : (s.useFree).timer = s.timer := rfl
@[simp] theorem State.useFree_bus (s : State) : (s.useFree).bus = s.bus := rfl
@[simp] theorem State.useFree_lines (s : State) : (s.useFree).lines = s.lines := rfl
@[simp] theorem State.useFree_receiver (s : State) : (s.useFree).receiver = s.receiver := rfl
@[simp] theorem State.useFree_sched (s : State) : (s.useFree).sched = s.sched := rfl
@[simp] theorem State.useFree_site (s : State) : (s.useFree).site = s.site := rfl
@[simp] theorem State.useFree_port (s : State) : (s.useFree).port = s.port := rfl
@[simp] theorem State.useFree_events (s : State) : (s.useFree).events = s.events := rfl
@[simp] theorem State.useFree_pending (s : State) : (s.useFree).pending = s.pending := rfl

@[simp] theorem State.putOnAir_clock (s : State) (o : Option OnAir) : (s.putOnAir o).clock = s.clock := rfl
@[simp] theorem State.putOnAir_store (s : State) (o : Option OnAir) : (s.putOnAir o).store = s.store := rfl
@[simp] theorem State.putOnAir_interp (s : State) (o : Option OnAir) : (s.putOnAir o).interp = s.interp := rfl
@[simp] theorem State.putOnAir_timer (s : State) (o : Option OnAir) : (s.putOnAir o).timer = s.timer := rfl
@[simp] theorem State.putOnAir_bus (s : State) (o : Option OnAir) : (s.putOnAir o).bus = s.bus := rfl
@[simp] theorem State.putOnAir_lines (s : State) (o : Option OnAir) : (s.putOnAir o).lines = s.lines := rfl
@[simp] theorem State.putOnAir_receiver (s : State) (o : Option OnAir) : (s.putOnAir o).receiver = s.receiver := rfl
@[simp] theorem State.putOnAir_sched (s : State) (o : Option OnAir) : (s.putOnAir o).sched = s.sched := rfl
@[simp] theorem State.putOnAir_site (s : State) (o : Option OnAir) : (s.putOnAir o).site = s.site := rfl
@[simp] theorem State.putOnAir_port (s : State) (o : Option OnAir) : (s.putOnAir o).port = s.port := rfl
@[simp] theorem State.putOnAir_events (s : State) (o : Option OnAir) : (s.putOnAir o).events = s.events := rfl
@[simp] theorem State.putOnAir_freeUsed (s : State) (o : Option OnAir) : (s.putOnAir o).freeUsed = s.freeUsed := rfl
@[simp] theorem State.putOnAir_pending (s : State) (o : Option OnAir) : (s.putOnAir o).pending = s.pending := rfl

@[simp] theorem State.putWatch_clock (s : State) (w : PostWatch) : (s.putWatch w).clock = s.clock := rfl
@[simp] theorem State.putWatch_store (s : State) (w : PostWatch) : (s.putWatch w).store = s.store := rfl
@[simp] theorem State.putWatch_interp (s : State) (w : PostWatch) : (s.putWatch w).interp = s.interp := rfl
@[simp] theorem State.putWatch_timer (s : State) (w : PostWatch) : (s.putWatch w).timer = s.timer := rfl
@[simp] theorem State.putWatch_bus (s : State) (w : PostWatch) : (s.putWatch w).bus = s.bus := rfl
@[simp] theorem State.putWatch_lines (s : State) (w : PostWatch) : (s.putWatch w).lines = s.lines := rfl
@[simp] theorem State.putWatch_receiver (s : State) (w : PostWatch) : (s.putWatch w).receiver = s.receiver := rfl
@[simp] theorem State.putWatch_sched (s : State) (w : PostWatch) : (s.putWatch w).sched = s.sched := rfl
@[simp] theorem State.putWatch_site (s : State) (w : PostWatch) : (s.putWatch w).site = s.site := rfl
@[simp] theorem State.putWatch_port (s : State) (w : PostWatch) : (s.putWatch w).port = s.port := rfl
@[simp] theorem State.putWatch_events (s : State) (w : PostWatch) : (s.putWatch w).events = s.events := rfl
@[simp] theorem State.putWatch_freeUsed (s : State) (w : PostWatch) : (s.putWatch w).freeUsed = s.freeUsed := rfl
@[simp] theorem State.putWatch_pending (s : State) (w : PostWatch) : (s.putWatch w).pending = s.pending := rfl

@[simp] theorem State.putPlayer_clock (s : State) (p : Fin 4) (r : Player) : (s.putPlayer p r).clock = s.clock := rfl
@[simp] theorem State.putPlayer_store (s : State) (p : Fin 4) (r : Player) : (s.putPlayer p r).store = s.store := rfl
@[simp] theorem State.putPlayer_interp (s : State) (p : Fin 4) (r : Player) : (s.putPlayer p r).interp = s.interp := rfl
@[simp] theorem State.putPlayer_timer (s : State) (p : Fin 4) (r : Player) : (s.putPlayer p r).timer = s.timer := rfl
@[simp] theorem State.putPlayer_bus (s : State) (p : Fin 4) (r : Player) : (s.putPlayer p r).bus = s.bus := rfl
@[simp] theorem State.putPlayer_lines (s : State) (p : Fin 4) (r : Player) : (s.putPlayer p r).lines = s.lines := rfl
@[simp] theorem State.putPlayer_receiver (s : State) (p : Fin 4) (r : Player) : (s.putPlayer p r).receiver = s.receiver := rfl
@[simp] theorem State.putPlayer_sched (s : State) (p : Fin 4) (r : Player) : (s.putPlayer p r).sched = s.sched := rfl
@[simp] theorem State.putPlayer_site (s : State) (p : Fin 4) (r : Player) : (s.putPlayer p r).site = s.site := rfl
@[simp] theorem State.putPlayer_port (s : State) (p : Fin 4) (r : Player) : (s.putPlayer p r).port = s.port := rfl
@[simp] theorem State.putPlayer_events (s : State) (p : Fin 4) (r : Player) : (s.putPlayer p r).events = s.events := rfl
@[simp] theorem State.putPlayer_freeUsed (s : State) (p : Fin 4) (r : Player) : (s.putPlayer p r).freeUsed = s.freeUsed := rfl
@[simp] theorem State.putPlayer_pending (s : State) (p : Fin 4) (r : Player) : (s.putPlayer p r).pending = s.pending := rfl

@[simp] theorem State.demandHold_clock (s : State) (v : Bool) : (s.demandHold v).clock = s.clock := rfl
@[simp] theorem State.demandHold_store (s : State) (v : Bool) : (s.demandHold v).store = s.store := rfl
@[simp] theorem State.demandHold_interp (s : State) (v : Bool) : (s.demandHold v).interp = s.interp := rfl
@[simp] theorem State.demandHold_timer (s : State) (v : Bool) : (s.demandHold v).timer = s.timer := rfl
@[simp] theorem State.demandHold_bus (s : State) (v : Bool) : (s.demandHold v).bus = s.bus := rfl
@[simp] theorem State.demandHold_lines (s : State) (v : Bool) : (s.demandHold v).lines = s.lines := rfl
@[simp] theorem State.demandHold_receiver (s : State) (v : Bool) : (s.demandHold v).receiver = s.receiver := rfl
@[simp] theorem State.demandHold_sched (s : State) (v : Bool) : (s.demandHold v).sched = s.sched := rfl
@[simp] theorem State.demandHold_site (s : State) (v : Bool) : (s.demandHold v).site = s.site := rfl
@[simp] theorem State.demandHold_port (s : State) (v : Bool) : (s.demandHold v).port = s.port := rfl
@[simp] theorem State.demandHold_events (s : State) (v : Bool) : (s.demandHold v).events = s.events := rfl
@[simp] theorem State.demandHold_freeUsed (s : State) (v : Bool) : (s.demandHold v).freeUsed = s.freeUsed := rfl
@[simp] theorem State.demandHold_pending (s : State) (v : Bool) : (s.demandHold v).pending = s.pending := rfl

@[simp] theorem State.putSource_clock (s : State) (i : Fin 14) (r : SourceRec) : (s.putSource i r).clock = s.clock := rfl
@[simp] theorem State.putSource_store (s : State) (i : Fin 14) (r : SourceRec) : (s.putSource i r).store = s.store := rfl
@[simp] theorem State.putSource_interp (s : State) (i : Fin 14) (r : SourceRec) : (s.putSource i r).interp = s.interp := rfl
@[simp] theorem State.putSource_air (s : State) (i : Fin 14) (r : SourceRec) : (s.putSource i r).air = s.air := rfl
@[simp] theorem State.putSource_timer (s : State) (i : Fin 14) (r : SourceRec) : (s.putSource i r).timer = s.timer := rfl
@[simp] theorem State.putSource_lines (s : State) (i : Fin 14) (r : SourceRec) : (s.putSource i r).lines = s.lines := rfl
@[simp] theorem State.putSource_receiver (s : State) (i : Fin 14) (r : SourceRec) : (s.putSource i r).receiver = s.receiver := rfl
@[simp] theorem State.putSource_sched (s : State) (i : Fin 14) (r : SourceRec) : (s.putSource i r).sched = s.sched := rfl
@[simp] theorem State.putSource_site (s : State) (i : Fin 14) (r : SourceRec) : (s.putSource i r).site = s.site := rfl
@[simp] theorem State.putSource_port (s : State) (i : Fin 14) (r : SourceRec) : (s.putSource i r).port = s.port := rfl
@[simp] theorem State.putSource_events (s : State) (i : Fin 14) (r : SourceRec) : (s.putSource i r).events = s.events := rfl
@[simp] theorem State.putSource_freeUsed (s : State) (i : Fin 14) (r : SourceRec) : (s.putSource i r).freeUsed = s.freeUsed := rfl
@[simp] theorem State.putSource_pending (s : State) (i : Fin 14) (r : SourceRec) : (s.putSource i r).pending = s.pending := rfl

@[simp] theorem State.mutePlayer_clock (s : State) (p : Fin 4) : (s.mutePlayer p).clock = s.clock := rfl
@[simp] theorem State.mutePlayer_store (s : State) (p : Fin 4) : (s.mutePlayer p).store = s.store := rfl
@[simp] theorem State.mutePlayer_interp (s : State) (p : Fin 4) : (s.mutePlayer p).interp = s.interp := rfl
@[simp] theorem State.mutePlayer_air (s : State) (p : Fin 4) : (s.mutePlayer p).air = s.air := rfl
@[simp] theorem State.mutePlayer_timer (s : State) (p : Fin 4) : (s.mutePlayer p).timer = s.timer := rfl
@[simp] theorem State.mutePlayer_lines (s : State) (p : Fin 4) : (s.mutePlayer p).lines = s.lines := rfl
@[simp] theorem State.mutePlayer_receiver (s : State) (p : Fin 4) : (s.mutePlayer p).receiver = s.receiver := rfl
@[simp] theorem State.mutePlayer_sched (s : State) (p : Fin 4) : (s.mutePlayer p).sched = s.sched := rfl
@[simp] theorem State.mutePlayer_site (s : State) (p : Fin 4) : (s.mutePlayer p).site = s.site := rfl
@[simp] theorem State.mutePlayer_port (s : State) (p : Fin 4) : (s.mutePlayer p).port = s.port := rfl
@[simp] theorem State.mutePlayer_events (s : State) (p : Fin 4) : (s.mutePlayer p).events = s.events := rfl
@[simp] theorem State.mutePlayer_freeUsed (s : State) (p : Fin 4) : (s.mutePlayer p).freeUsed = s.freeUsed := rfl
@[simp] theorem State.mutePlayer_pending (s : State) (p : Fin 4) : (s.mutePlayer p).pending = s.pending := rfl

@[simp] theorem State.fadePlayer_clock (s : State) (p : Fin 4) (d : Nat) : (s.fadePlayer p d).clock = s.clock := rfl
@[simp] theorem State.fadePlayer_store (s : State) (p : Fin 4) (d : Nat) : (s.fadePlayer p d).store = s.store := rfl
@[simp] theorem State.fadePlayer_interp (s : State) (p : Fin 4) (d : Nat) : (s.fadePlayer p d).interp = s.interp := rfl
@[simp] theorem State.fadePlayer_air (s : State) (p : Fin 4) (d : Nat) : (s.fadePlayer p d).air = s.air := rfl
@[simp] theorem State.fadePlayer_timer (s : State) (p : Fin 4) (d : Nat) : (s.fadePlayer p d).timer = s.timer := rfl
@[simp] theorem State.fadePlayer_lines (s : State) (p : Fin 4) (d : Nat) : (s.fadePlayer p d).lines = s.lines := rfl
@[simp] theorem State.fadePlayer_receiver (s : State) (p : Fin 4) (d : Nat) : (s.fadePlayer p d).receiver = s.receiver := rfl
@[simp] theorem State.fadePlayer_sched (s : State) (p : Fin 4) (d : Nat) : (s.fadePlayer p d).sched = s.sched := rfl
@[simp] theorem State.fadePlayer_site (s : State) (p : Fin 4) (d : Nat) : (s.fadePlayer p d).site = s.site := rfl
@[simp] theorem State.fadePlayer_port (s : State) (p : Fin 4) (d : Nat) : (s.fadePlayer p d).port = s.port := rfl
@[simp] theorem State.fadePlayer_events (s : State) (p : Fin 4) (d : Nat) : (s.fadePlayer p d).events = s.events := rfl
@[simp] theorem State.fadePlayer_freeUsed (s : State) (p : Fin 4) (d : Nat) : (s.fadePlayer p d).freeUsed = s.freeUsed := rfl
@[simp] theorem State.fadePlayer_pending (s : State) (p : Fin 4) (d : Nat) : (s.fadePlayer p d).pending = s.pending := rfl

@[simp] theorem State.putMonitor_clock (s : State) (m : Monitor) : (s.putMonitor m).clock = s.clock := rfl
@[simp] theorem State.putMonitor_store (s : State) (m : Monitor) : (s.putMonitor m).store = s.store := rfl
@[simp] theorem State.putMonitor_interp (s : State) (m : Monitor) : (s.putMonitor m).interp = s.interp := rfl
@[simp] theorem State.putMonitor_air (s : State) (m : Monitor) : (s.putMonitor m).air = s.air := rfl
@[simp] theorem State.putMonitor_timer (s : State) (m : Monitor) : (s.putMonitor m).timer = s.timer := rfl
@[simp] theorem State.putMonitor_lines (s : State) (m : Monitor) : (s.putMonitor m).lines = s.lines := rfl
@[simp] theorem State.putMonitor_receiver (s : State) (m : Monitor) : (s.putMonitor m).receiver = s.receiver := rfl
@[simp] theorem State.putMonitor_sched (s : State) (m : Monitor) : (s.putMonitor m).sched = s.sched := rfl
@[simp] theorem State.putMonitor_site (s : State) (m : Monitor) : (s.putMonitor m).site = s.site := rfl
@[simp] theorem State.putMonitor_port (s : State) (m : Monitor) : (s.putMonitor m).port = s.port := rfl
@[simp] theorem State.putMonitor_events (s : State) (m : Monitor) : (s.putMonitor m).events = s.events := rfl
@[simp] theorem State.putMonitor_freeUsed (s : State) (m : Monitor) : (s.putMonitor m).freeUsed = s.freeUsed := rfl
@[simp] theorem State.putMonitor_pending (s : State) (m : Monitor) : (s.putMonitor m).pending = s.pending := rfl

@[simp] theorem State.moveGains_clock (s : State) : (s.moveGains).clock = s.clock := rfl
@[simp] theorem State.moveGains_store (s : State) : (s.moveGains).store = s.store := rfl
@[simp] theorem State.moveGains_interp (s : State) : (s.moveGains).interp = s.interp := rfl
@[simp] theorem State.moveGains_air (s : State) : (s.moveGains).air = s.air := rfl
@[simp] theorem State.moveGains_timer (s : State) : (s.moveGains).timer = s.timer := rfl
@[simp] theorem State.moveGains_lines (s : State) : (s.moveGains).lines = s.lines := rfl
@[simp] theorem State.moveGains_receiver (s : State) : (s.moveGains).receiver = s.receiver := rfl
@[simp] theorem State.moveGains_sched (s : State) : (s.moveGains).sched = s.sched := rfl
@[simp] theorem State.moveGains_site (s : State) : (s.moveGains).site = s.site := rfl
@[simp] theorem State.moveGains_port (s : State) : (s.moveGains).port = s.port := rfl
@[simp] theorem State.moveGains_events (s : State) : (s.moveGains).events = s.events := rfl
@[simp] theorem State.moveGains_freeUsed (s : State) : (s.moveGains).freeUsed = s.freeUsed := rfl
@[simp] theorem State.moveGains_pending (s : State) : (s.moveGains).pending = s.pending := rfl

@[simp] theorem State.putCaller_clock (s : State) (l : Fin 6) (c : Caller) : (s.putCaller l c).clock = s.clock := rfl
@[simp] theorem State.putCaller_store (s : State) (l : Fin 6) (c : Caller) : (s.putCaller l c).store = s.store := rfl
@[simp] theorem State.putCaller_interp (s : State) (l : Fin 6) (c : Caller) : (s.putCaller l c).interp = s.interp := rfl
@[simp] theorem State.putCaller_air (s : State) (l : Fin 6) (c : Caller) : (s.putCaller l c).air = s.air := rfl
@[simp] theorem State.putCaller_timer (s : State) (l : Fin 6) (c : Caller) : (s.putCaller l c).timer = s.timer := rfl
@[simp] theorem State.putCaller_bus (s : State) (l : Fin 6) (c : Caller) : (s.putCaller l c).bus = s.bus := rfl
@[simp] theorem State.putCaller_receiver (s : State) (l : Fin 6) (c : Caller) : (s.putCaller l c).receiver = s.receiver := rfl
@[simp] theorem State.putCaller_sched (s : State) (l : Fin 6) (c : Caller) : (s.putCaller l c).sched = s.sched := rfl
@[simp] theorem State.putCaller_site (s : State) (l : Fin 6) (c : Caller) : (s.putCaller l c).site = s.site := rfl
@[simp] theorem State.putCaller_port (s : State) (l : Fin 6) (c : Caller) : (s.putCaller l c).port = s.port := rfl
@[simp] theorem State.putCaller_events (s : State) (l : Fin 6) (c : Caller) : (s.putCaller l c).events = s.events := rfl
@[simp] theorem State.putCaller_freeUsed (s : State) (l : Fin 6) (c : Caller) : (s.putCaller l c).freeUsed = s.freeUsed := rfl
@[simp] theorem State.putCaller_pending (s : State) (l : Fin 6) (c : Caller) : (s.putCaller l c).pending = s.pending := rfl

@[simp] theorem State.leaveQueue_clock (s : State) (l : Fin 6) : (s.leaveQueue l).clock = s.clock := rfl
@[simp] theorem State.leaveQueue_store (s : State) (l : Fin 6) : (s.leaveQueue l).store = s.store := rfl
@[simp] theorem State.leaveQueue_interp (s : State) (l : Fin 6) : (s.leaveQueue l).interp = s.interp := rfl
@[simp] theorem State.leaveQueue_air (s : State) (l : Fin 6) : (s.leaveQueue l).air = s.air := rfl
@[simp] theorem State.leaveQueue_timer (s : State) (l : Fin 6) : (s.leaveQueue l).timer = s.timer := rfl
@[simp] theorem State.leaveQueue_bus (s : State) (l : Fin 6) : (s.leaveQueue l).bus = s.bus := rfl
@[simp] theorem State.leaveQueue_receiver (s : State) (l : Fin 6) : (s.leaveQueue l).receiver = s.receiver := rfl
@[simp] theorem State.leaveQueue_sched (s : State) (l : Fin 6) : (s.leaveQueue l).sched = s.sched := rfl
@[simp] theorem State.leaveQueue_site (s : State) (l : Fin 6) : (s.leaveQueue l).site = s.site := rfl
@[simp] theorem State.leaveQueue_port (s : State) (l : Fin 6) : (s.leaveQueue l).port = s.port := rfl
@[simp] theorem State.leaveQueue_events (s : State) (l : Fin 6) : (s.leaveQueue l).events = s.events := rfl
@[simp] theorem State.leaveQueue_freeUsed (s : State) (l : Fin 6) : (s.leaveQueue l).freeUsed = s.freeUsed := rfl
@[simp] theorem State.leaveQueue_pending (s : State) (l : Fin 6) : (s.leaveQueue l).pending = s.pending := rfl

@[simp] theorem State.enterClearing_clock (s : State) (l : Fin 6) (e : LastEnd) : (s.enterClearing l e).clock = s.clock := rfl
@[simp] theorem State.enterClearing_store (s : State) (l : Fin 6) (e : LastEnd) : (s.enterClearing l e).store = s.store := rfl
@[simp] theorem State.enterClearing_interp (s : State) (l : Fin 6) (e : LastEnd) : (s.enterClearing l e).interp = s.interp := rfl
@[simp] theorem State.enterClearing_air (s : State) (l : Fin 6) (e : LastEnd) : (s.enterClearing l e).air = s.air := rfl
@[simp] theorem State.enterClearing_timer (s : State) (l : Fin 6) (e : LastEnd) : (s.enterClearing l e).timer = s.timer := rfl
@[simp] theorem State.enterClearing_bus (s : State) (l : Fin 6) (e : LastEnd) : (s.enterClearing l e).bus = s.bus := rfl
@[simp] theorem State.enterClearing_receiver (s : State) (l : Fin 6) (e : LastEnd) : (s.enterClearing l e).receiver = s.receiver := rfl
@[simp] theorem State.enterClearing_sched (s : State) (l : Fin 6) (e : LastEnd) : (s.enterClearing l e).sched = s.sched := rfl
@[simp] theorem State.enterClearing_site (s : State) (l : Fin 6) (e : LastEnd) : (s.enterClearing l e).site = s.site := rfl
@[simp] theorem State.enterClearing_port (s : State) (l : Fin 6) (e : LastEnd) : (s.enterClearing l e).port = s.port := rfl
@[simp] theorem State.enterClearing_events (s : State) (l : Fin 6) (e : LastEnd) : (s.enterClearing l e).events = s.events := rfl
@[simp] theorem State.enterClearing_freeUsed (s : State) (l : Fin 6) (e : LastEnd) : (s.enterClearing l e).freeUsed = s.freeUsed := rfl
@[simp] theorem State.enterClearing_pending (s : State) (l : Fin 6) (e : LastEnd) : (s.enterClearing l e).pending = s.pending := rfl

@[simp] theorem State.enterHold_clock (s : State) (l : Fin 6) (v : Bool) : (s.enterHold l v).clock = s.clock := rfl
@[simp] theorem State.enterHold_store (s : State) (l : Fin 6) (v : Bool) : (s.enterHold l v).store = s.store := rfl
@[simp] theorem State.enterHold_interp (s : State) (l : Fin 6) (v : Bool) : (s.enterHold l v).interp = s.interp := rfl
@[simp] theorem State.enterHold_air (s : State) (l : Fin 6) (v : Bool) : (s.enterHold l v).air = s.air := rfl
@[simp] theorem State.enterHold_timer (s : State) (l : Fin 6) (v : Bool) : (s.enterHold l v).timer = s.timer := rfl
@[simp] theorem State.enterHold_bus (s : State) (l : Fin 6) (v : Bool) : (s.enterHold l v).bus = s.bus := rfl
@[simp] theorem State.enterHold_receiver (s : State) (l : Fin 6) (v : Bool) : (s.enterHold l v).receiver = s.receiver := rfl
@[simp] theorem State.enterHold_sched (s : State) (l : Fin 6) (v : Bool) : (s.enterHold l v).sched = s.sched := rfl
@[simp] theorem State.enterHold_site (s : State) (l : Fin 6) (v : Bool) : (s.enterHold l v).site = s.site := rfl
@[simp] theorem State.enterHold_port (s : State) (l : Fin 6) (v : Bool) : (s.enterHold l v).port = s.port := rfl
@[simp] theorem State.enterHold_events (s : State) (l : Fin 6) (v : Bool) : (s.enterHold l v).events = s.events := rfl
@[simp] theorem State.enterHold_freeUsed (s : State) (l : Fin 6) (v : Bool) : (s.enterHold l v).freeUsed = s.freeUsed := rfl
@[simp] theorem State.enterHold_pending (s : State) (l : Fin 6) (v : Bool) : (s.enterHold l v).pending = s.pending := rfl

@[simp] theorem State.enterOnAir_clock (s : State) (l : Fin 6) : (s.enterOnAir l).clock = s.clock := rfl
@[simp] theorem State.enterOnAir_store (s : State) (l : Fin 6) : (s.enterOnAir l).store = s.store := rfl
@[simp] theorem State.enterOnAir_interp (s : State) (l : Fin 6) : (s.enterOnAir l).interp = s.interp := rfl
@[simp] theorem State.enterOnAir_air (s : State) (l : Fin 6) : (s.enterOnAir l).air = s.air := rfl
@[simp] theorem State.enterOnAir_timer (s : State) (l : Fin 6) : (s.enterOnAir l).timer = s.timer := rfl
@[simp] theorem State.enterOnAir_bus (s : State) (l : Fin 6) : (s.enterOnAir l).bus = s.bus := rfl
@[simp] theorem State.enterOnAir_receiver (s : State) (l : Fin 6) : (s.enterOnAir l).receiver = s.receiver := rfl
@[simp] theorem State.enterOnAir_sched (s : State) (l : Fin 6) : (s.enterOnAir l).sched = s.sched := rfl
@[simp] theorem State.enterOnAir_site (s : State) (l : Fin 6) : (s.enterOnAir l).site = s.site := rfl
@[simp] theorem State.enterOnAir_port (s : State) (l : Fin 6) : (s.enterOnAir l).port = s.port := rfl
@[simp] theorem State.enterOnAir_events (s : State) (l : Fin 6) : (s.enterOnAir l).events = s.events := rfl
@[simp] theorem State.enterOnAir_freeUsed (s : State) (l : Fin 6) : (s.enterOnAir l).freeUsed = s.freeUsed := rfl
@[simp] theorem State.enterOnAir_pending (s : State) (l : Fin 6) : (s.enterOnAir l).pending = s.pending := rfl

@[simp] theorem State.suspendSegment_clock (s : State) (v : Bool) : (s.suspendSegment v).clock = s.clock := rfl
@[simp] theorem State.suspendSegment_store (s : State) (v : Bool) : (s.suspendSegment v).store = s.store := rfl
@[simp] theorem State.suspendSegment_interp (s : State) (v : Bool) : (s.suspendSegment v).interp = s.interp := rfl
@[simp] theorem State.suspendSegment_air (s : State) (v : Bool) : (s.suspendSegment v).air = s.air := rfl
@[simp] theorem State.suspendSegment_timer (s : State) (v : Bool) : (s.suspendSegment v).timer = s.timer := rfl
@[simp] theorem State.suspendSegment_bus (s : State) (v : Bool) : (s.suspendSegment v).bus = s.bus := rfl
@[simp] theorem State.suspendSegment_receiver (s : State) (v : Bool) : (s.suspendSegment v).receiver = s.receiver := rfl
@[simp] theorem State.suspendSegment_sched (s : State) (v : Bool) : (s.suspendSegment v).sched = s.sched := rfl
@[simp] theorem State.suspendSegment_site (s : State) (v : Bool) : (s.suspendSegment v).site = s.site := rfl
@[simp] theorem State.suspendSegment_port (s : State) (v : Bool) : (s.suspendSegment v).port = s.port := rfl
@[simp] theorem State.suspendSegment_events (s : State) (v : Bool) : (s.suspendSegment v).events = s.events := rfl
@[simp] theorem State.suspendSegment_freeUsed (s : State) (v : Bool) : (s.suspendSegment v).freeUsed = s.freeUsed := rfl
@[simp] theorem State.suspendSegment_pending (s : State) (v : Bool) : (s.suspendSegment v).pending = s.pending := rfl

@[simp] theorem State.putLook_clock (s : State) (look : List Resolved) : (s.putLook look).clock = s.clock := rfl
@[simp] theorem State.putLook_store (s : State) (look : List Resolved) : (s.putLook look).store = s.store := rfl
@[simp] theorem State.putLook_air (s : State) (look : List Resolved) : (s.putLook look).air = s.air := rfl
@[simp] theorem State.putLook_timer (s : State) (look : List Resolved) : (s.putLook look).timer = s.timer := rfl
@[simp] theorem State.putLook_bus (s : State) (look : List Resolved) : (s.putLook look).bus = s.bus := rfl
@[simp] theorem State.putLook_lines (s : State) (look : List Resolved) : (s.putLook look).lines = s.lines := rfl
@[simp] theorem State.putLook_receiver (s : State) (look : List Resolved) : (s.putLook look).receiver = s.receiver := rfl
@[simp] theorem State.putLook_sched (s : State) (look : List Resolved) : (s.putLook look).sched = s.sched := rfl
@[simp] theorem State.putLook_site (s : State) (look : List Resolved) : (s.putLook look).site = s.site := rfl
@[simp] theorem State.putLook_port (s : State) (look : List Resolved) : (s.putLook look).port = s.port := rfl
@[simp] theorem State.putLook_events (s : State) (look : List Resolved) : (s.putLook look).events = s.events := rfl
@[simp] theorem State.putLook_freeUsed (s : State) (look : List Resolved) : (s.putLook look).freeUsed = s.freeUsed := rfl
@[simp] theorem State.putLook_pending (s : State) (look : List Resolved) : (s.putLook look).pending = s.pending := rfl

@[simp] theorem State.advanceSeq_clock (s : State) (n : Nat) : (s.advanceSeq n).clock = s.clock := rfl
@[simp] theorem State.advanceSeq_store (s : State) (n : Nat) : (s.advanceSeq n).store = s.store := rfl
@[simp] theorem State.advanceSeq_air (s : State) (n : Nat) : (s.advanceSeq n).air = s.air := rfl
@[simp] theorem State.advanceSeq_timer (s : State) (n : Nat) : (s.advanceSeq n).timer = s.timer := rfl
@[simp] theorem State.advanceSeq_bus (s : State) (n : Nat) : (s.advanceSeq n).bus = s.bus := rfl
@[simp] theorem State.advanceSeq_lines (s : State) (n : Nat) : (s.advanceSeq n).lines = s.lines := rfl
@[simp] theorem State.advanceSeq_receiver (s : State) (n : Nat) : (s.advanceSeq n).receiver = s.receiver := rfl
@[simp] theorem State.advanceSeq_sched (s : State) (n : Nat) : (s.advanceSeq n).sched = s.sched := rfl
@[simp] theorem State.advanceSeq_site (s : State) (n : Nat) : (s.advanceSeq n).site = s.site := rfl
@[simp] theorem State.advanceSeq_port (s : State) (n : Nat) : (s.advanceSeq n).port = s.port := rfl
@[simp] theorem State.advanceSeq_events (s : State) (n : Nat) : (s.advanceSeq n).events = s.events := rfl
@[simp] theorem State.advanceSeq_freeUsed (s : State) (n : Nat) : (s.advanceSeq n).freeUsed = s.freeUsed := rfl
@[simp] theorem State.advanceSeq_pending (s : State) (n : Nat) : (s.advanceSeq n).pending = s.pending := rfl

@[simp] theorem State.hold_clock (s : State) : (s.hold).clock = s.clock := rfl
@[simp] theorem State.hold_store (s : State) : (s.hold).store = s.store := rfl
@[simp] theorem State.hold_air (s : State) : (s.hold).air = s.air := rfl
@[simp] theorem State.hold_timer (s : State) : (s.hold).timer = s.timer := rfl
@[simp] theorem State.hold_bus (s : State) : (s.hold).bus = s.bus := rfl
@[simp] theorem State.hold_lines (s : State) : (s.hold).lines = s.lines := rfl
@[simp] theorem State.hold_receiver (s : State) : (s.hold).receiver = s.receiver := rfl
@[simp] theorem State.hold_sched (s : State) : (s.hold).sched = s.sched := rfl
@[simp] theorem State.hold_site (s : State) : (s.hold).site = s.site := rfl
@[simp] theorem State.hold_port (s : State) : (s.hold).port = s.port := rfl
@[simp] theorem State.hold_events (s : State) : (s.hold).events = s.events := rfl
@[simp] theorem State.hold_freeUsed (s : State) : (s.hold).freeUsed = s.freeUsed := rfl
@[simp] theorem State.hold_pending (s : State) : (s.hold).pending = s.pending := rfl

@[simp] theorem State.unhold_clock (s : State) : (s.unhold).clock = s.clock := rfl
@[simp] theorem State.unhold_store (s : State) : (s.unhold).store = s.store := rfl
@[simp] theorem State.unhold_air (s : State) : (s.unhold).air = s.air := rfl
@[simp] theorem State.unhold_timer (s : State) : (s.unhold).timer = s.timer := rfl
@[simp] theorem State.unhold_bus (s : State) : (s.unhold).bus = s.bus := rfl
@[simp] theorem State.unhold_lines (s : State) : (s.unhold).lines = s.lines := rfl
@[simp] theorem State.unhold_receiver (s : State) : (s.unhold).receiver = s.receiver := rfl
@[simp] theorem State.unhold_sched (s : State) : (s.unhold).sched = s.sched := rfl
@[simp] theorem State.unhold_site (s : State) : (s.unhold).site = s.site := rfl
@[simp] theorem State.unhold_port (s : State) : (s.unhold).port = s.port := rfl
@[simp] theorem State.unhold_events (s : State) : (s.unhold).events = s.events := rfl
@[simp] theorem State.unhold_freeUsed (s : State) : (s.unhold).freeUsed = s.freeUsed := rfl
@[simp] theorem State.unhold_pending (s : State) : (s.unhold).pending = s.pending := rfl

@[simp] theorem State.addPlacement_clock (s : State) (p : AlertPart) : (s.addPlacement p).clock = s.clock := rfl
@[simp] theorem State.addPlacement_store (s : State) (p : AlertPart) : (s.addPlacement p).store = s.store := rfl
@[simp] theorem State.addPlacement_air (s : State) (p : AlertPart) : (s.addPlacement p).air = s.air := rfl
@[simp] theorem State.addPlacement_timer (s : State) (p : AlertPart) : (s.addPlacement p).timer = s.timer := rfl
@[simp] theorem State.addPlacement_bus (s : State) (p : AlertPart) : (s.addPlacement p).bus = s.bus := rfl
@[simp] theorem State.addPlacement_lines (s : State) (p : AlertPart) : (s.addPlacement p).lines = s.lines := rfl
@[simp] theorem State.addPlacement_receiver (s : State) (p : AlertPart) : (s.addPlacement p).receiver = s.receiver := rfl
@[simp] theorem State.addPlacement_sched (s : State) (p : AlertPart) : (s.addPlacement p).sched = s.sched := rfl
@[simp] theorem State.addPlacement_site (s : State) (p : AlertPart) : (s.addPlacement p).site = s.site := rfl
@[simp] theorem State.addPlacement_port (s : State) (p : AlertPart) : (s.addPlacement p).port = s.port := rfl
@[simp] theorem State.addPlacement_events (s : State) (p : AlertPart) : (s.addPlacement p).events = s.events := rfl
@[simp] theorem State.addPlacement_freeUsed (s : State) (p : AlertPart) : (s.addPlacement p).freeUsed = s.freeUsed := rfl
@[simp] theorem State.addPlacement_pending (s : State) (p : AlertPart) : (s.addPlacement p).pending = s.pending := rfl

@[simp] theorem State.unplace_clock (s : State) (p : AlertPart) : (s.unplace p).clock = s.clock := rfl
@[simp] theorem State.unplace_store (s : State) (p : AlertPart) : (s.unplace p).store = s.store := rfl
@[simp] theorem State.unplace_air (s : State) (p : AlertPart) : (s.unplace p).air = s.air := rfl
@[simp] theorem State.unplace_timer (s : State) (p : AlertPart) : (s.unplace p).timer = s.timer := rfl
@[simp] theorem State.unplace_bus (s : State) (p : AlertPart) : (s.unplace p).bus = s.bus := rfl
@[simp] theorem State.unplace_lines (s : State) (p : AlertPart) : (s.unplace p).lines = s.lines := rfl
@[simp] theorem State.unplace_receiver (s : State) (p : AlertPart) : (s.unplace p).receiver = s.receiver := rfl
@[simp] theorem State.unplace_sched (s : State) (p : AlertPart) : (s.unplace p).sched = s.sched := rfl
@[simp] theorem State.unplace_site (s : State) (p : AlertPart) : (s.unplace p).site = s.site := rfl
@[simp] theorem State.unplace_port (s : State) (p : AlertPart) : (s.unplace p).port = s.port := rfl
@[simp] theorem State.unplace_events (s : State) (p : AlertPart) : (s.unplace p).events = s.events := rfl
@[simp] theorem State.unplace_freeUsed (s : State) (p : AlertPart) : (s.unplace p).freeUsed = s.freeUsed := rfl
@[simp] theorem State.unplace_pending (s : State) (p : AlertPart) : (s.unplace p).pending = s.pending := rfl

@[simp] theorem State.dropPlacement_clock (s : State) (origin number : Nat) : (s.dropPlacement origin number).clock = s.clock := rfl
@[simp] theorem State.dropPlacement_store (s : State) (origin number : Nat) : (s.dropPlacement origin number).store = s.store := rfl
@[simp] theorem State.dropPlacement_air (s : State) (origin number : Nat) : (s.dropPlacement origin number).air = s.air := rfl
@[simp] theorem State.dropPlacement_timer (s : State) (origin number : Nat) : (s.dropPlacement origin number).timer = s.timer := rfl
@[simp] theorem State.dropPlacement_bus (s : State) (origin number : Nat) : (s.dropPlacement origin number).bus = s.bus := rfl
@[simp] theorem State.dropPlacement_lines (s : State) (origin number : Nat) : (s.dropPlacement origin number).lines = s.lines := rfl
@[simp] theorem State.dropPlacement_receiver (s : State) (origin number : Nat) : (s.dropPlacement origin number).receiver = s.receiver := rfl
@[simp] theorem State.dropPlacement_sched (s : State) (origin number : Nat) : (s.dropPlacement origin number).sched = s.sched := rfl
@[simp] theorem State.dropPlacement_site (s : State) (origin number : Nat) : (s.dropPlacement origin number).site = s.site := rfl
@[simp] theorem State.dropPlacement_port (s : State) (origin number : Nat) : (s.dropPlacement origin number).port = s.port := rfl
@[simp] theorem State.dropPlacement_events (s : State) (origin number : Nat) : (s.dropPlacement origin number).events = s.events := rfl
@[simp] theorem State.dropPlacement_freeUsed (s : State) (origin number : Nat) : (s.dropPlacement origin number).freeUsed = s.freeUsed := rfl
@[simp] theorem State.dropPlacement_pending (s : State) (origin number : Nat) : (s.dropPlacement origin number).pending = s.pending := rfl

@[simp] theorem State.putAlert_clock (s : State) (k : Fin 8) (a : Option Alert) : (s.putAlert k a).clock = s.clock := rfl
@[simp] theorem State.putAlert_store (s : State) (k : Fin 8) (a : Option Alert) : (s.putAlert k a).store = s.store := rfl
@[simp] theorem State.putAlert_interp (s : State) (k : Fin 8) (a : Option Alert) : (s.putAlert k a).interp = s.interp := rfl
@[simp] theorem State.putAlert_air (s : State) (k : Fin 8) (a : Option Alert) : (s.putAlert k a).air = s.air := rfl
@[simp] theorem State.putAlert_timer (s : State) (k : Fin 8) (a : Option Alert) : (s.putAlert k a).timer = s.timer := rfl
@[simp] theorem State.putAlert_bus (s : State) (k : Fin 8) (a : Option Alert) : (s.putAlert k a).bus = s.bus := rfl
@[simp] theorem State.putAlert_lines (s : State) (k : Fin 8) (a : Option Alert) : (s.putAlert k a).lines = s.lines := rfl
@[simp] theorem State.putAlert_sched (s : State) (k : Fin 8) (a : Option Alert) : (s.putAlert k a).sched = s.sched := rfl
@[simp] theorem State.putAlert_site (s : State) (k : Fin 8) (a : Option Alert) : (s.putAlert k a).site = s.site := rfl
@[simp] theorem State.putAlert_port (s : State) (k : Fin 8) (a : Option Alert) : (s.putAlert k a).port = s.port := rfl
@[simp] theorem State.putAlert_events (s : State) (k : Fin 8) (a : Option Alert) : (s.putAlert k a).events = s.events := rfl
@[simp] theorem State.putAlert_freeUsed (s : State) (k : Fin 8) (a : Option Alert) : (s.putAlert k a).freeUsed = s.freeUsed := rfl
@[simp] theorem State.putAlert_pending (s : State) (k : Fin 8) (a : Option Alert) : (s.putAlert k a).pending = s.pending := rfl

@[simp] theorem State.sendAlert_clock (s : State) (f : AlertFrame) : (s.sendAlert f).clock = s.clock := rfl
@[simp] theorem State.sendAlert_store (s : State) (f : AlertFrame) : (s.sendAlert f).store = s.store := rfl
@[simp] theorem State.sendAlert_interp (s : State) (f : AlertFrame) : (s.sendAlert f).interp = s.interp := rfl
@[simp] theorem State.sendAlert_air (s : State) (f : AlertFrame) : (s.sendAlert f).air = s.air := rfl
@[simp] theorem State.sendAlert_timer (s : State) (f : AlertFrame) : (s.sendAlert f).timer = s.timer := rfl
@[simp] theorem State.sendAlert_bus (s : State) (f : AlertFrame) : (s.sendAlert f).bus = s.bus := rfl
@[simp] theorem State.sendAlert_lines (s : State) (f : AlertFrame) : (s.sendAlert f).lines = s.lines := rfl
@[simp] theorem State.sendAlert_sched (s : State) (f : AlertFrame) : (s.sendAlert f).sched = s.sched := rfl
@[simp] theorem State.sendAlert_site (s : State) (f : AlertFrame) : (s.sendAlert f).site = s.site := rfl
@[simp] theorem State.sendAlert_port (s : State) (f : AlertFrame) : (s.sendAlert f).port = s.port := rfl
@[simp] theorem State.sendAlert_events (s : State) (f : AlertFrame) : (s.sendAlert f).events = s.events := rfl
@[simp] theorem State.sendAlert_freeUsed (s : State) (f : AlertFrame) : (s.sendAlert f).freeUsed = s.freeUsed := rfl
@[simp] theorem State.sendAlert_pending (s : State) (f : AlertFrame) : (s.sendAlert f).pending = s.pending := rfl

@[simp] theorem State.receipt_clock (s : State) (origin number revision : Nat) (r : ReceiptResult) : (s.receipt origin number revision r).clock = s.clock := rfl
@[simp] theorem State.receipt_store (s : State) (origin number revision : Nat) (r : ReceiptResult) : (s.receipt origin number revision r).store = s.store := rfl
@[simp] theorem State.receipt_interp (s : State) (origin number revision : Nat) (r : ReceiptResult) : (s.receipt origin number revision r).interp = s.interp := rfl
@[simp] theorem State.receipt_air (s : State) (origin number revision : Nat) (r : ReceiptResult) : (s.receipt origin number revision r).air = s.air := rfl
@[simp] theorem State.receipt_timer (s : State) (origin number revision : Nat) (r : ReceiptResult) : (s.receipt origin number revision r).timer = s.timer := rfl
@[simp] theorem State.receipt_bus (s : State) (origin number revision : Nat) (r : ReceiptResult) : (s.receipt origin number revision r).bus = s.bus := rfl
@[simp] theorem State.receipt_lines (s : State) (origin number revision : Nat) (r : ReceiptResult) : (s.receipt origin number revision r).lines = s.lines := rfl
@[simp] theorem State.receipt_sched (s : State) (origin number revision : Nat) (r : ReceiptResult) : (s.receipt origin number revision r).sched = s.sched := rfl
@[simp] theorem State.receipt_site (s : State) (origin number revision : Nat) (r : ReceiptResult) : (s.receipt origin number revision r).site = s.site := rfl
@[simp] theorem State.receipt_port (s : State) (origin number revision : Nat) (r : ReceiptResult) : (s.receipt origin number revision r).port = s.port := rfl
@[simp] theorem State.receipt_events (s : State) (origin number revision : Nat) (r : ReceiptResult) : (s.receipt origin number revision r).events = s.events := rfl
@[simp] theorem State.receipt_freeUsed (s : State) (origin number revision : Nat) (r : ReceiptResult) : (s.receipt origin number revision r).freeUsed = s.freeUsed := rfl
@[simp] theorem State.receipt_pending (s : State) (origin number revision : Nat) (r : ReceiptResult) : (s.receipt origin number revision r).pending = s.pending := rfl

@[simp] theorem State.putClass_clock (s : State) (c : Nat) (e : ClassEntry) : (s.putClass c e).clock = s.clock := rfl
@[simp] theorem State.putClass_store (s : State) (c : Nat) (e : ClassEntry) : (s.putClass c e).store = s.store := rfl
@[simp] theorem State.putClass_interp (s : State) (c : Nat) (e : ClassEntry) : (s.putClass c e).interp = s.interp := rfl
@[simp] theorem State.putClass_air (s : State) (c : Nat) (e : ClassEntry) : (s.putClass c e).air = s.air := rfl
@[simp] theorem State.putClass_timer (s : State) (c : Nat) (e : ClassEntry) : (s.putClass c e).timer = s.timer := rfl
@[simp] theorem State.putClass_bus (s : State) (c : Nat) (e : ClassEntry) : (s.putClass c e).bus = s.bus := rfl
@[simp] theorem State.putClass_lines (s : State) (c : Nat) (e : ClassEntry) : (s.putClass c e).lines = s.lines := rfl
@[simp] theorem State.putClass_sched (s : State) (c : Nat) (e : ClassEntry) : (s.putClass c e).sched = s.sched := rfl
@[simp] theorem State.putClass_site (s : State) (c : Nat) (e : ClassEntry) : (s.putClass c e).site = s.site := rfl
@[simp] theorem State.putClass_port (s : State) (c : Nat) (e : ClassEntry) : (s.putClass c e).port = s.port := rfl
@[simp] theorem State.putClass_events (s : State) (c : Nat) (e : ClassEntry) : (s.putClass c e).events = s.events := rfl
@[simp] theorem State.putClass_freeUsed (s : State) (c : Nat) (e : ClassEntry) : (s.putClass c e).freeUsed = s.freeUsed := rfl
@[simp] theorem State.putClass_pending (s : State) (c : Nat) (e : ClassEntry) : (s.putClass c e).pending = s.pending := rfl

@[simp] theorem State.putAlertOpen_clock (s : State) (f : Option OpenFrame) : (s.putAlertOpen f).clock = s.clock := rfl
@[simp] theorem State.putAlertOpen_store (s : State) (f : Option OpenFrame) : (s.putAlertOpen f).store = s.store := rfl
@[simp] theorem State.putAlertOpen_interp (s : State) (f : Option OpenFrame) : (s.putAlertOpen f).interp = s.interp := rfl
@[simp] theorem State.putAlertOpen_air (s : State) (f : Option OpenFrame) : (s.putAlertOpen f).air = s.air := rfl
@[simp] theorem State.putAlertOpen_timer (s : State) (f : Option OpenFrame) : (s.putAlertOpen f).timer = s.timer := rfl
@[simp] theorem State.putAlertOpen_bus (s : State) (f : Option OpenFrame) : (s.putAlertOpen f).bus = s.bus := rfl
@[simp] theorem State.putAlertOpen_lines (s : State) (f : Option OpenFrame) : (s.putAlertOpen f).lines = s.lines := rfl
@[simp] theorem State.putAlertOpen_sched (s : State) (f : Option OpenFrame) : (s.putAlertOpen f).sched = s.sched := rfl
@[simp] theorem State.putAlertOpen_site (s : State) (f : Option OpenFrame) : (s.putAlertOpen f).site = s.site := rfl
@[simp] theorem State.putAlertOpen_port (s : State) (f : Option OpenFrame) : (s.putAlertOpen f).port = s.port := rfl
@[simp] theorem State.putAlertOpen_events (s : State) (f : Option OpenFrame) : (s.putAlertOpen f).events = s.events := rfl
@[simp] theorem State.putAlertOpen_freeUsed (s : State) (f : Option OpenFrame) : (s.putAlertOpen f).freeUsed = s.freeUsed := rfl
@[simp] theorem State.putAlertOpen_pending (s : State) (f : Option OpenFrame) : (s.putAlertOpen f).pending = s.pending := rfl

@[simp] theorem State.abandonAlert_clock (s : State) : (s.abandonAlert).clock = s.clock := rfl
@[simp] theorem State.abandonAlert_store (s : State) : (s.abandonAlert).store = s.store := rfl
@[simp] theorem State.abandonAlert_interp (s : State) : (s.abandonAlert).interp = s.interp := rfl
@[simp] theorem State.abandonAlert_air (s : State) : (s.abandonAlert).air = s.air := rfl
@[simp] theorem State.abandonAlert_timer (s : State) : (s.abandonAlert).timer = s.timer := rfl
@[simp] theorem State.abandonAlert_bus (s : State) : (s.abandonAlert).bus = s.bus := rfl
@[simp] theorem State.abandonAlert_lines (s : State) : (s.abandonAlert).lines = s.lines := rfl
@[simp] theorem State.abandonAlert_sched (s : State) : (s.abandonAlert).sched = s.sched := rfl
@[simp] theorem State.abandonAlert_site (s : State) : (s.abandonAlert).site = s.site := rfl
@[simp] theorem State.abandonAlert_port (s : State) : (s.abandonAlert).port = s.port := rfl
@[simp] theorem State.abandonAlert_events (s : State) : (s.abandonAlert).events = s.events := rfl
@[simp] theorem State.abandonAlert_freeUsed (s : State) : (s.abandonAlert).freeUsed = s.freeUsed := rfl
@[simp] theorem State.abandonAlert_pending (s : State) : (s.abandonAlert).pending = s.pending := rfl

@[simp] theorem State.enterEligible_clock (s : State) (k : Fin 8) (a : Alert) (p : Bool) :
    (s.enterEligible k a p).clock = s.clock := rfl
@[simp] theorem State.enterEligible_store (s : State) (k : Fin 8) (a : Alert) (p : Bool) :
    (s.enterEligible k a p).store = s.store := rfl
@[simp] theorem State.enterEligible_interp (s : State) (k : Fin 8) (a : Alert) (p : Bool) :
    (s.enterEligible k a p).interp = s.interp := rfl
@[simp] theorem State.enterEligible_air (s : State) (k : Fin 8) (a : Alert) (p : Bool) :
    (s.enterEligible k a p).air = s.air := rfl
@[simp] theorem State.enterEligible_timer (s : State) (k : Fin 8) (a : Alert) (p : Bool) :
    (s.enterEligible k a p).timer = s.timer := rfl
@[simp] theorem State.enterEligible_bus (s : State) (k : Fin 8) (a : Alert) (p : Bool) :
    (s.enterEligible k a p).bus = s.bus := rfl
@[simp] theorem State.enterEligible_lines (s : State) (k : Fin 8) (a : Alert) (p : Bool) :
    (s.enterEligible k a p).lines = s.lines := rfl
@[simp] theorem State.enterEligible_site (s : State) (k : Fin 8) (a : Alert) (p : Bool) :
    (s.enterEligible k a p).site = s.site := rfl
@[simp] theorem State.enterEligible_port (s : State) (k : Fin 8) (a : Alert) (p : Bool) :
    (s.enterEligible k a p).port = s.port := rfl
@[simp] theorem State.enterEligible_events (s : State) (k : Fin 8) (a : Alert) (p : Bool) :
    (s.enterEligible k a p).events = s.events := rfl
@[simp] theorem State.enterEligible_freeUsed (s : State) (k : Fin 8) (a : Alert) (p : Bool) :
    (s.enterEligible k a p).freeUsed = s.freeUsed := rfl
@[simp] theorem State.enterEligible_pending (s : State) (k : Fin 8) (a : Alert) (p : Bool) :
    (s.enterEligible k a p).pending = s.pending := rfl

@[simp] theorem State.putSched_clock (s : State) (k : Fin 8) (e : SchedEntry) : (s.putSched k e).clock = s.clock := rfl
@[simp] theorem State.putSched_store (s : State) (k : Fin 8) (e : SchedEntry) : (s.putSched k e).store = s.store := rfl
@[simp] theorem State.putSched_interp (s : State) (k : Fin 8) (e : SchedEntry) : (s.putSched k e).interp = s.interp := rfl
@[simp] theorem State.putSched_air (s : State) (k : Fin 8) (e : SchedEntry) : (s.putSched k e).air = s.air := rfl
@[simp] theorem State.putSched_timer (s : State) (k : Fin 8) (e : SchedEntry) : (s.putSched k e).timer = s.timer := rfl
@[simp] theorem State.putSched_bus (s : State) (k : Fin 8) (e : SchedEntry) : (s.putSched k e).bus = s.bus := rfl
@[simp] theorem State.putSched_lines (s : State) (k : Fin 8) (e : SchedEntry) : (s.putSched k e).lines = s.lines := rfl
@[simp] theorem State.putSched_receiver (s : State) (k : Fin 8) (e : SchedEntry) : (s.putSched k e).receiver = s.receiver := rfl
@[simp] theorem State.putSched_site (s : State) (k : Fin 8) (e : SchedEntry) : (s.putSched k e).site = s.site := rfl
@[simp] theorem State.putSched_port (s : State) (k : Fin 8) (e : SchedEntry) : (s.putSched k e).port = s.port := rfl
@[simp] theorem State.putSched_events (s : State) (k : Fin 8) (e : SchedEntry) : (s.putSched k e).events = s.events := rfl
@[simp] theorem State.putSched_freeUsed (s : State) (k : Fin 8) (e : SchedEntry) : (s.putSched k e).freeUsed = s.freeUsed := rfl
@[simp] theorem State.putSched_pending (s : State) (k : Fin 8) (e : SchedEntry) : (s.putSched k e).pending = s.pending := rfl

@[simp] theorem State.putParam_clock (s : State) (p : Param) (r : ParamRec) : (s.putParam p r).clock = s.clock := rfl
@[simp] theorem State.putParam_store (s : State) (p : Param) (r : ParamRec) : (s.putParam p r).store = s.store := rfl
@[simp] theorem State.putParam_interp (s : State) (p : Param) (r : ParamRec) : (s.putParam p r).interp = s.interp := rfl
@[simp] theorem State.putParam_air (s : State) (p : Param) (r : ParamRec) : (s.putParam p r).air = s.air := rfl
@[simp] theorem State.putParam_timer (s : State) (p : Param) (r : ParamRec) : (s.putParam p r).timer = s.timer := rfl
@[simp] theorem State.putParam_bus (s : State) (p : Param) (r : ParamRec) : (s.putParam p r).bus = s.bus := rfl
@[simp] theorem State.putParam_lines (s : State) (p : Param) (r : ParamRec) : (s.putParam p r).lines = s.lines := rfl
@[simp] theorem State.putParam_receiver (s : State) (p : Param) (r : ParamRec) : (s.putParam p r).receiver = s.receiver := rfl
@[simp] theorem State.putParam_sched (s : State) (p : Param) (r : ParamRec) : (s.putParam p r).sched = s.sched := rfl
@[simp] theorem State.putParam_port (s : State) (p : Param) (r : ParamRec) : (s.putParam p r).port = s.port := rfl
@[simp] theorem State.putParam_events (s : State) (p : Param) (r : ParamRec) : (s.putParam p r).events = s.events := rfl
@[simp] theorem State.putParam_freeUsed (s : State) (p : Param) (r : ParamRec) : (s.putParam p r).freeUsed = s.freeUsed := rfl
@[simp] theorem State.putParam_pending (s : State) (p : Param) (r : ParamRec) : (s.putParam p r).pending = s.pending := rfl

@[simp] theorem State.putConfirmed_clock (s : State) (p : Param) (v : Option Nat) : (s.putConfirmed p v).clock = s.clock := rfl
@[simp] theorem State.putConfirmed_store (s : State) (p : Param) (v : Option Nat) : (s.putConfirmed p v).store = s.store := rfl
@[simp] theorem State.putConfirmed_interp (s : State) (p : Param) (v : Option Nat) : (s.putConfirmed p v).interp = s.interp := rfl
@[simp] theorem State.putConfirmed_air (s : State) (p : Param) (v : Option Nat) : (s.putConfirmed p v).air = s.air := rfl
@[simp] theorem State.putConfirmed_timer (s : State) (p : Param) (v : Option Nat) : (s.putConfirmed p v).timer = s.timer := rfl
@[simp] theorem State.putConfirmed_bus (s : State) (p : Param) (v : Option Nat) : (s.putConfirmed p v).bus = s.bus := rfl
@[simp] theorem State.putConfirmed_lines (s : State) (p : Param) (v : Option Nat) : (s.putConfirmed p v).lines = s.lines := rfl
@[simp] theorem State.putConfirmed_receiver (s : State) (p : Param) (v : Option Nat) : (s.putConfirmed p v).receiver = s.receiver := rfl
@[simp] theorem State.putConfirmed_sched (s : State) (p : Param) (v : Option Nat) : (s.putConfirmed p v).sched = s.sched := rfl
@[simp] theorem State.putConfirmed_port (s : State) (p : Param) (v : Option Nat) : (s.putConfirmed p v).port = s.port := rfl
@[simp] theorem State.putConfirmed_events (s : State) (p : Param) (v : Option Nat) : (s.putConfirmed p v).events = s.events := rfl
@[simp] theorem State.putConfirmed_freeUsed (s : State) (p : Param) (v : Option Nat) : (s.putConfirmed p v).freeUsed = s.freeUsed := rfl
@[simp] theorem State.putConfirmed_pending (s : State) (p : Param) (v : Option Nat) : (s.putConfirmed p v).pending = s.pending := rfl

@[simp] theorem State.resend_clock (s : State) (p : Param) : (s.resend p).clock = s.clock := rfl
@[simp] theorem State.resend_store (s : State) (p : Param) : (s.resend p).store = s.store := rfl
@[simp] theorem State.resend_interp (s : State) (p : Param) : (s.resend p).interp = s.interp := rfl
@[simp] theorem State.resend_air (s : State) (p : Param) : (s.resend p).air = s.air := rfl
@[simp] theorem State.resend_timer (s : State) (p : Param) : (s.resend p).timer = s.timer := rfl
@[simp] theorem State.resend_bus (s : State) (p : Param) : (s.resend p).bus = s.bus := rfl
@[simp] theorem State.resend_lines (s : State) (p : Param) : (s.resend p).lines = s.lines := rfl
@[simp] theorem State.resend_receiver (s : State) (p : Param) : (s.resend p).receiver = s.receiver := rfl
@[simp] theorem State.resend_sched (s : State) (p : Param) : (s.resend p).sched = s.sched := rfl
@[simp] theorem State.resend_port (s : State) (p : Param) : (s.resend p).port = s.port := rfl
@[simp] theorem State.resend_events (s : State) (p : Param) : (s.resend p).events = s.events := rfl
@[simp] theorem State.resend_freeUsed (s : State) (p : Param) : (s.resend p).freeUsed = s.freeUsed := rfl
@[simp] theorem State.resend_pending (s : State) (p : Param) : (s.resend p).pending = s.pending := rfl

@[simp] theorem State.produce_clock (s : State) (f : Nat → SiteFrame) : (s.produce f).clock = s.clock := rfl
@[simp] theorem State.produce_store (s : State) (f : Nat → SiteFrame) : (s.produce f).store = s.store := rfl
@[simp] theorem State.produce_interp (s : State) (f : Nat → SiteFrame) : (s.produce f).interp = s.interp := rfl
@[simp] theorem State.produce_air (s : State) (f : Nat → SiteFrame) : (s.produce f).air = s.air := rfl
@[simp] theorem State.produce_timer (s : State) (f : Nat → SiteFrame) : (s.produce f).timer = s.timer := rfl
@[simp] theorem State.produce_bus (s : State) (f : Nat → SiteFrame) : (s.produce f).bus = s.bus := rfl
@[simp] theorem State.produce_lines (s : State) (f : Nat → SiteFrame) : (s.produce f).lines = s.lines := rfl
@[simp] theorem State.produce_receiver (s : State) (f : Nat → SiteFrame) : (s.produce f).receiver = s.receiver := rfl
@[simp] theorem State.produce_sched (s : State) (f : Nat → SiteFrame) : (s.produce f).sched = s.sched := rfl
@[simp] theorem State.produce_port (s : State) (f : Nat → SiteFrame) : (s.produce f).port = s.port := rfl
@[simp] theorem State.produce_events (s : State) (f : Nat → SiteFrame) : (s.produce f).events = s.events := rfl
@[simp] theorem State.produce_freeUsed (s : State) (f : Nat → SiteFrame) : (s.produce f).freeUsed = s.freeUsed := rfl
@[simp] theorem State.produce_pending (s : State) (f : Nat → SiteFrame) : (s.produce f).pending = s.pending := rfl

@[simp] theorem State.sendSet_clock (s : State) (p : Param) (v : Nat) : (s.sendSet p v).clock = s.clock := rfl
@[simp] theorem State.sendSet_store (s : State) (p : Param) (v : Nat) : (s.sendSet p v).store = s.store := rfl
@[simp] theorem State.sendSet_interp (s : State) (p : Param) (v : Nat) : (s.sendSet p v).interp = s.interp := rfl
@[simp] theorem State.sendSet_air (s : State) (p : Param) (v : Nat) : (s.sendSet p v).air = s.air := rfl
@[simp] theorem State.sendSet_timer (s : State) (p : Param) (v : Nat) : (s.sendSet p v).timer = s.timer := rfl
@[simp] theorem State.sendSet_bus (s : State) (p : Param) (v : Nat) : (s.sendSet p v).bus = s.bus := rfl
@[simp] theorem State.sendSet_lines (s : State) (p : Param) (v : Nat) : (s.sendSet p v).lines = s.lines := rfl
@[simp] theorem State.sendSet_receiver (s : State) (p : Param) (v : Nat) : (s.sendSet p v).receiver = s.receiver := rfl
@[simp] theorem State.sendSet_sched (s : State) (p : Param) (v : Nat) : (s.sendSet p v).sched = s.sched := rfl
@[simp] theorem State.sendSet_port (s : State) (p : Param) (v : Nat) : (s.sendSet p v).port = s.port := rfl
@[simp] theorem State.sendSet_events (s : State) (p : Param) (v : Nat) : (s.sendSet p v).events = s.events := rfl
@[simp] theorem State.sendSet_freeUsed (s : State) (p : Param) (v : Nat) : (s.sendSet p v).freeUsed = s.freeUsed := rfl
@[simp] theorem State.sendSet_pending (s : State) (p : Param) (v : Nat) : (s.sendSet p v).pending = s.pending := rfl

@[simp] theorem State.sendPoll_clock (s : State) (c : Fin 8) : (s.sendPoll c).clock = s.clock := rfl
@[simp] theorem State.sendPoll_store (s : State) (c : Fin 8) : (s.sendPoll c).store = s.store := rfl
@[simp] theorem State.sendPoll_interp (s : State) (c : Fin 8) : (s.sendPoll c).interp = s.interp := rfl
@[simp] theorem State.sendPoll_air (s : State) (c : Fin 8) : (s.sendPoll c).air = s.air := rfl
@[simp] theorem State.sendPoll_timer (s : State) (c : Fin 8) : (s.sendPoll c).timer = s.timer := rfl
@[simp] theorem State.sendPoll_bus (s : State) (c : Fin 8) : (s.sendPoll c).bus = s.bus := rfl
@[simp] theorem State.sendPoll_lines (s : State) (c : Fin 8) : (s.sendPoll c).lines = s.lines := rfl
@[simp] theorem State.sendPoll_receiver (s : State) (c : Fin 8) : (s.sendPoll c).receiver = s.receiver := rfl
@[simp] theorem State.sendPoll_sched (s : State) (c : Fin 8) : (s.sendPoll c).sched = s.sched := rfl
@[simp] theorem State.sendPoll_port (s : State) (c : Fin 8) : (s.sendPoll c).port = s.port := rfl
@[simp] theorem State.sendPoll_events (s : State) (c : Fin 8) : (s.sendPoll c).events = s.events := rfl
@[simp] theorem State.sendPoll_freeUsed (s : State) (c : Fin 8) : (s.sendPoll c).freeUsed = s.freeUsed := rfl
@[simp] theorem State.sendPoll_pending (s : State) (c : Fin 8) : (s.sendPoll c).pending = s.pending := rfl

@[simp] theorem State.dropInFlight_clock (s : State) (n : Nat) : (s.dropInFlight n).clock = s.clock := rfl
@[simp] theorem State.dropInFlight_store (s : State) (n : Nat) : (s.dropInFlight n).store = s.store := rfl
@[simp] theorem State.dropInFlight_interp (s : State) (n : Nat) : (s.dropInFlight n).interp = s.interp := rfl
@[simp] theorem State.dropInFlight_air (s : State) (n : Nat) : (s.dropInFlight n).air = s.air := rfl
@[simp] theorem State.dropInFlight_timer (s : State) (n : Nat) : (s.dropInFlight n).timer = s.timer := rfl
@[simp] theorem State.dropInFlight_bus (s : State) (n : Nat) : (s.dropInFlight n).bus = s.bus := rfl
@[simp] theorem State.dropInFlight_lines (s : State) (n : Nat) : (s.dropInFlight n).lines = s.lines := rfl
@[simp] theorem State.dropInFlight_receiver (s : State) (n : Nat) : (s.dropInFlight n).receiver = s.receiver := rfl
@[simp] theorem State.dropInFlight_sched (s : State) (n : Nat) : (s.dropInFlight n).sched = s.sched := rfl
@[simp] theorem State.dropInFlight_port (s : State) (n : Nat) : (s.dropInFlight n).port = s.port := rfl
@[simp] theorem State.dropInFlight_events (s : State) (n : Nat) : (s.dropInFlight n).events = s.events := rfl
@[simp] theorem State.dropInFlight_freeUsed (s : State) (n : Nat) : (s.dropInFlight n).freeUsed = s.freeUsed := rfl
@[simp] theorem State.dropInFlight_pending (s : State) (n : Nat) : (s.dropInFlight n).pending = s.pending := rfl

@[simp] theorem State.sendAgain_clock (s : State) (e : InFlight) : (s.sendAgain e).clock = s.clock := rfl
@[simp] theorem State.sendAgain_store (s : State) (e : InFlight) : (s.sendAgain e).store = s.store := rfl
@[simp] theorem State.sendAgain_interp (s : State) (e : InFlight) : (s.sendAgain e).interp = s.interp := rfl
@[simp] theorem State.sendAgain_air (s : State) (e : InFlight) : (s.sendAgain e).air = s.air := rfl
@[simp] theorem State.sendAgain_timer (s : State) (e : InFlight) : (s.sendAgain e).timer = s.timer := rfl
@[simp] theorem State.sendAgain_bus (s : State) (e : InFlight) : (s.sendAgain e).bus = s.bus := rfl
@[simp] theorem State.sendAgain_lines (s : State) (e : InFlight) : (s.sendAgain e).lines = s.lines := rfl
@[simp] theorem State.sendAgain_receiver (s : State) (e : InFlight) : (s.sendAgain e).receiver = s.receiver := rfl
@[simp] theorem State.sendAgain_sched (s : State) (e : InFlight) : (s.sendAgain e).sched = s.sched := rfl
@[simp] theorem State.sendAgain_port (s : State) (e : InFlight) : (s.sendAgain e).port = s.port := rfl
@[simp] theorem State.sendAgain_events (s : State) (e : InFlight) : (s.sendAgain e).events = s.events := rfl
@[simp] theorem State.sendAgain_freeUsed (s : State) (e : InFlight) : (s.sendAgain e).freeUsed = s.freeUsed := rfl
@[simp] theorem State.sendAgain_pending (s : State) (e : InFlight) : (s.sendAgain e).pending = s.pending := rfl

@[simp] theorem State.putReading_clock (s : State) (c : Fin 8) (r : Reading) : (s.putReading c r).clock = s.clock := rfl
@[simp] theorem State.putReading_store (s : State) (c : Fin 8) (r : Reading) : (s.putReading c r).store = s.store := rfl
@[simp] theorem State.putReading_interp (s : State) (c : Fin 8) (r : Reading) : (s.putReading c r).interp = s.interp := rfl
@[simp] theorem State.putReading_air (s : State) (c : Fin 8) (r : Reading) : (s.putReading c r).air = s.air := rfl
@[simp] theorem State.putReading_timer (s : State) (c : Fin 8) (r : Reading) : (s.putReading c r).timer = s.timer := rfl
@[simp] theorem State.putReading_bus (s : State) (c : Fin 8) (r : Reading) : (s.putReading c r).bus = s.bus := rfl
@[simp] theorem State.putReading_lines (s : State) (c : Fin 8) (r : Reading) : (s.putReading c r).lines = s.lines := rfl
@[simp] theorem State.putReading_receiver (s : State) (c : Fin 8) (r : Reading) : (s.putReading c r).receiver = s.receiver := rfl
@[simp] theorem State.putReading_sched (s : State) (c : Fin 8) (r : Reading) : (s.putReading c r).sched = s.sched := rfl
@[simp] theorem State.putReading_port (s : State) (c : Fin 8) (r : Reading) : (s.putReading c r).port = s.port := rfl
@[simp] theorem State.putReading_events (s : State) (c : Fin 8) (r : Reading) : (s.putReading c r).events = s.events := rfl
@[simp] theorem State.putReading_freeUsed (s : State) (c : Fin 8) (r : Reading) : (s.putReading c r).freeUsed = s.freeUsed := rfl
@[simp] theorem State.putReading_pending (s : State) (c : Fin 8) (r : Reading) : (s.putReading c r).pending = s.pending := rfl

@[simp] theorem State.putSiteOpen_clock (s : State) (f : Option OpenFrame) : (s.putSiteOpen f).clock = s.clock := rfl
@[simp] theorem State.putSiteOpen_store (s : State) (f : Option OpenFrame) : (s.putSiteOpen f).store = s.store := rfl
@[simp] theorem State.putSiteOpen_interp (s : State) (f : Option OpenFrame) : (s.putSiteOpen f).interp = s.interp := rfl
@[simp] theorem State.putSiteOpen_air (s : State) (f : Option OpenFrame) : (s.putSiteOpen f).air = s.air := rfl
@[simp] theorem State.putSiteOpen_timer (s : State) (f : Option OpenFrame) : (s.putSiteOpen f).timer = s.timer := rfl
@[simp] theorem State.putSiteOpen_bus (s : State) (f : Option OpenFrame) : (s.putSiteOpen f).bus = s.bus := rfl
@[simp] theorem State.putSiteOpen_lines (s : State) (f : Option OpenFrame) : (s.putSiteOpen f).lines = s.lines := rfl
@[simp] theorem State.putSiteOpen_receiver (s : State) (f : Option OpenFrame) : (s.putSiteOpen f).receiver = s.receiver := rfl
@[simp] theorem State.putSiteOpen_sched (s : State) (f : Option OpenFrame) : (s.putSiteOpen f).sched = s.sched := rfl
@[simp] theorem State.putSiteOpen_port (s : State) (f : Option OpenFrame) : (s.putSiteOpen f).port = s.port := rfl
@[simp] theorem State.putSiteOpen_events (s : State) (f : Option OpenFrame) : (s.putSiteOpen f).events = s.events := rfl
@[simp] theorem State.putSiteOpen_freeUsed (s : State) (f : Option OpenFrame) : (s.putSiteOpen f).freeUsed = s.freeUsed := rfl
@[simp] theorem State.putSiteOpen_pending (s : State) (f : Option OpenFrame) : (s.putSiteOpen f).pending = s.pending := rfl

@[simp] theorem State.abandonSite_clock (s : State) : (s.abandonSite).clock = s.clock := rfl
@[simp] theorem State.abandonSite_store (s : State) : (s.abandonSite).store = s.store := rfl
@[simp] theorem State.abandonSite_interp (s : State) : (s.abandonSite).interp = s.interp := rfl
@[simp] theorem State.abandonSite_air (s : State) : (s.abandonSite).air = s.air := rfl
@[simp] theorem State.abandonSite_timer (s : State) : (s.abandonSite).timer = s.timer := rfl
@[simp] theorem State.abandonSite_bus (s : State) : (s.abandonSite).bus = s.bus := rfl
@[simp] theorem State.abandonSite_lines (s : State) : (s.abandonSite).lines = s.lines := rfl
@[simp] theorem State.abandonSite_receiver (s : State) : (s.abandonSite).receiver = s.receiver := rfl
@[simp] theorem State.abandonSite_sched (s : State) : (s.abandonSite).sched = s.sched := rfl
@[simp] theorem State.abandonSite_port (s : State) : (s.abandonSite).port = s.port := rfl
@[simp] theorem State.abandonSite_events (s : State) : (s.abandonSite).events = s.events := rfl
@[simp] theorem State.abandonSite_freeUsed (s : State) : (s.abandonSite).freeUsed = s.freeUsed := rfl
@[simp] theorem State.abandonSite_pending (s : State) : (s.abandonSite).pending = s.pending := rfl

@[simp] theorem State.advance_store (s : State) : (s.advance).store = s.store := rfl
@[simp] theorem State.advance_interp (s : State) : (s.advance).interp = s.interp := rfl
@[simp] theorem State.advance_air (s : State) : (s.advance).air = s.air := rfl
@[simp] theorem State.advance_timer (s : State) : (s.advance).timer = s.timer := rfl
@[simp] theorem State.advance_bus (s : State) : (s.advance).bus = s.bus := rfl
@[simp] theorem State.advance_lines (s : State) : (s.advance).lines = s.lines := rfl
@[simp] theorem State.advance_receiver (s : State) : (s.advance).receiver = s.receiver := rfl
@[simp] theorem State.advance_sched (s : State) : (s.advance).sched = s.sched := rfl
@[simp] theorem State.advance_site (s : State) : (s.advance).site = s.site := rfl
@[simp] theorem State.advance_port (s : State) : (s.advance).port = s.port := rfl
@[simp] theorem State.advance_events (s : State) : (s.advance).events = s.events := rfl
@[simp] theorem State.advance_freeUsed (s : State) : (s.advance).freeUsed = s.freeUsed := rfl
@[simp] theorem State.advance_pending (s : State) : (s.advance).pending = s.pending := rfl

end Sys2Proof.Machine
end

