-- ==== Sys2Proof/Laws/Tables.lean ====
section
/-! SUPPORT. The laws of sparse tables: a read after a write, and that every operation keeps the canonical form. -/

namespace Sys2Proof.Machine

variable {α : Type}

/-- The keys rise strictly, and the first one lies above a bound. -/
def tableAbove : Nat → List (Nat × α) → Bool
  | _, [] => true
  | n, (k, _) :: rest => decide (n < k) && tableAbove k rest

theorem tableRising_cons (k : Nat) (v : α) (rest : List (Nat × α)) :
    tableRising ((k, v) :: rest) = tableAbove k rest := by
  induction rest generalizing k v with
  | nil => rfl
  | cons p rest ih =>
    obtain ⟨k', v'⟩ := p
    simp only [tableRising, tableAbove, ih]

theorem tableAbove_mono {m n : Nat} {t : List (Nat × α)} (h : m ≤ n) (ht : tableAbove n t = true) :
    tableAbove m t = true := by
  cases t with
  | nil => rfl
  | cons p rest =>
    obtain ⟨k, v⟩ := p
    simp only [tableAbove, Bool.and_eq_true, decide_eq_true_eq] at ht ⊢
    exact ⟨by omega, ht.2⟩

theorem tableRising_of_above {n : Nat} {t : List (Nat × α)} (h : tableAbove n t = true) : tableRising t = true := by
  cases t with
  | nil => rfl
  | cons p rest =>
    obtain ⟨k, v⟩ := p
    rw [tableRising_cons]
    simp only [tableAbove, Bool.and_eq_true] at h
    exact h.2

theorem tableErase_above {n key : Nat} {t : List (Nat × α)} (h : tableAbove n t = true) :
    tableAbove n (tableErase t key) = true := by
  induction t generalizing n with
  | nil => rfl
  | cons p rest ih =>
    obtain ⟨k, v⟩ := p
    simp only [tableAbove, Bool.and_eq_true, decide_eq_true_eq] at h
    unfold tableErase
    split
    · exact tableAbove_mono (by omega) (ih h.2)
    · simp only [tableAbove, Bool.and_eq_true, decide_eq_true_eq]
      exact ⟨h.1, ih h.2⟩

theorem tableErase_rising {key : Nat} {t : List (Nat × α)} (h : tableRising t = true) :
    tableRising (tableErase t key) = true := by
  cases t with
  | nil => rfl
  | cons p rest =>
    obtain ⟨k, v⟩ := p
    rw [tableRising_cons] at h
    unfold tableErase
    split
    · exact tableRising_of_above (tableErase_above h)
    · rw [tableRising_cons]; exact tableErase_above h

/-- No entry of a table has the key. -/
def tableLacks (key : Nat) (t : List (Nat × α)) : Prop := ∀ p ∈ t, p.1 ≠ key

theorem tableErase_lacks (key : Nat) (t : List (Nat × α)) : tableLacks key (tableErase t key) := by
  induction t with
  | nil => intro p hp; simp [tableErase] at hp
  | cons q rest ih =>
    obtain ⟨k, v⟩ := q
    unfold tableErase
    split
    · exact ih
    · intro p hp
      simp only [List.mem_cons] at hp
      rcases hp with rfl | hp
      · assumption
      · exact ih p hp

theorem tableInsert_above {n key : Nat} {v : α} {t : List (Nat × α)} (hk : n < key) (ht : tableAbove n t = true)
    (hl : tableLacks key t) : tableAbove n (tableInsert key v t) = true := by
  induction t generalizing n with
  | nil => simp [tableInsert, tableAbove, hk]
  | cons p rest ih =>
    obtain ⟨k, w⟩ := p
    simp only [tableAbove, Bool.and_eq_true, decide_eq_true_eq] at ht
    have hne : k ≠ key := hl (k, w) (by simp)
    unfold tableInsert
    split
    · simp only [tableAbove, Bool.and_eq_true, decide_eq_true_eq]
      exact ⟨hk, by assumption, ht.2⟩
    · simp only [tableAbove, Bool.and_eq_true, decide_eq_true_eq]
      exact ⟨ht.1, ih (by omega) ht.2 fun q hq => hl q (by simp [hq])⟩

theorem tableInsert_rising {key : Nat} {v : α} {t : List (Nat × α)} (ht : tableRising t = true)
    (hl : tableLacks key t) : tableRising (tableInsert key v t) = true := by
  cases t with
  | nil => rfl
  | cons p rest =>
    obtain ⟨k, w⟩ := p
    rw [tableRising_cons] at ht
    have hne : k ≠ key := hl (k, w) (by simp)
    unfold tableInsert
    split
    · rw [tableRising_cons]
      simp only [tableAbove, Bool.and_eq_true, decide_eq_true_eq]
      exact ⟨by assumption, ht⟩
    · rw [tableRising_cons]
      exact tableInsert_above (by omega) ht fun q hq => hl q (by simp [hq])

theorem mem_tableErase {p : Nat × α} {key : Nat} {t : List (Nat × α)} (h : p ∈ tableErase t key) : p ∈ t := by
  induction t with
  | nil => simp [tableErase] at h
  | cons q rest ih =>
    obtain ⟨k, v⟩ := q
    unfold tableErase at h
    split at h
    · exact List.mem_cons_of_mem _ (ih h)
    · rcases List.mem_cons.mp h with rfl | h
      · simp
      · exact List.mem_cons_of_mem _ (ih h)

theorem mem_tableInsert {p : Nat × α} {key : Nat} {v : α} {t : List (Nat × α)} (h : p ∈ tableInsert key v t) :
    p = (key, v) ∨ p ∈ t := by
  induction t with
  | nil => simpa [tableInsert] using h
  | cons q rest ih =>
    obtain ⟨k, w⟩ := q
    unfold tableInsert at h
    split at h
    · simpa using h
    · rcases List.mem_cons.mp h with rfl | h
      · simp
      · rcases ih h with h | h
        · exact .inl h
        · exact .inr (List.mem_cons_of_mem _ h)

/-- Writing a table keeps the canonical form. -/
theorem tablePut_wf [DecidableEq α] (d : α) (t : List (Nat × α)) (key : Nat) (value : α) (h : tableWf d t = true) :
    tableWf d (tablePut d t key value) = true := by
  simp only [tableWf, Bool.and_eq_true, List.all_eq_true, decide_eq_true_eq] at h ⊢
  unfold tablePut
  split
  · exact ⟨tableErase_rising h.1, fun p hp => h.2 p (mem_tableErase hp)⟩
  · refine ⟨tableInsert_rising (tableErase_rising h.1) (tableErase_lacks key t), fun p hp => ?_⟩
    rcases mem_tableInsert hp with rfl | hp
    · assumption
    · exact h.2 p (mem_tableErase hp)

theorem tableGet_erase (d : α) (t : List (Nat × α)) (key k : Nat) :
    tableGet d (tableErase t key) k = if k = key then d else tableGet d t k := by
  induction t with
  | nil => simp [tableErase, tableGet]
  | cons q rest ih =>
    obtain ⟨a, v⟩ := q
    simp only [tableErase]
    split
    · rename_i hak
      rw [ih]
      by_cases hk : k = key
      · simp [hk]
      · simp [hk, tableGet, show a ≠ k by omega]
    · rename_i hak
      simp only [tableGet]
      by_cases hk : a = k
      · simp [hk, show k ≠ key by omega]
      · simp only [hk, if_false, ih]

theorem tableGet_insert (d : α) (t : List (Nat × α)) (key k : Nat) (v : α) (hl : tableLacks key t) :
    tableGet d (tableInsert key v t) k = if k = key then v else tableGet d t k := by
  induction t with
  | nil => simp [tableInsert, tableGet, eq_comm]
  | cons q rest ih =>
    obtain ⟨a, w⟩ := q
    have hne : a ≠ key := hl (a, w) (by simp)
    simp only [tableInsert]
    split
    · simp only [tableGet]
      by_cases hk : k = key
      · simp [hk]
      · simp [hk, show key ≠ k by omega]
    · simp only [tableGet, ih fun q hq => hl q (by simp [hq])]
      by_cases hk : k = key
      · simp [hk, hne]
      · simp [hk]

/-- A read after a write: the key written gives the value written, and every other key what it gave before. -/
theorem tableGet_put [DecidableEq α] (d : α) (t : List (Nat × α)) (key k : Nat) (value : α) :
    tableGet d (tablePut d t key value) k = if k = key then value else tableGet d t k := by
  unfold tablePut
  split
  · rename_i hv
    rw [tableGet_erase, hv]
  · rw [tableGet_insert d _ key k value (tableErase_lacks key t), tableGet_erase]
    split <;> rfl

/-- A slot of the store after a write of a slot. -/
theorem Store.slot_putSlot (st : Store) (n k : Nat) (sl : Slot) :
    (st.putSlot n sl).slot k = if k = n then sl else st.slot k := tableGet_put _ _ _ _ _

@[simp] theorem Store.order_putSlot (st : Store) (n : Nat) (sl : Slot) (l : ListId) :
    (st.putSlot n sl).order l = st.order l := rfl

@[simp] theorem Store.slot_putOrder (st : Store) (l : ListId) (hs : List Nat) (n : Nat) :
    (st.putOrder l hs).slot n = st.slot n := rfl

/-- A class entry after a write of a class entry. -/
theorem State.classEntry_putClass (s : State) (c k : Nat) (e : ClassEntry) :
    (s.putClass c e).classEntry k = if k = c then e else s.classEntry k := tableGet_put _ _ _ _ _

/-- Writing a slot keeps the store's table in canonical form. -/
theorem Store.putSlot_wf (st : Store) (n : Nat) (sl : Slot) (h : tableWf Slot.fresh st.slots = true) :
    tableWf Slot.fresh (st.putSlot n sl).slots = true := tablePut_wf _ _ _ _ h

/-- Writing a class entry keeps the class table in canonical form. -/
theorem State.putClass_wf (s : State) (c : Nat) (e : ClassEntry)
    (h : tableWf ClassEntry.fresh s.receiver.classes = true) :
    tableWf ClassEntry.fresh (s.putClass c e).receiver.classes = true := tablePut_wf _ _ _ _ h

end Sys2Proof.Machine
end

