-- ==== Sys2Proof/Laws/Ops.lean ====
section
/-! SUPPORT. For each shared operation, what it can do, said once: the frame of every request, the folds, the raising of
an occurrence, and reading a record after writing it. -/

namespace Sys2Proof.Machine

/-! ### Requests -/

/-- Everything a request can do when it answers a next state (R188, R189). -/
theorem request_cases {code : Nat} {role : Role} {permitted : List Role} {s t : State}
    {owner : State → Option (State × Reply)} (h : request code role permitted s owner = .next t) :
    (s.port.response.isSome = true ∧ t = s.overrun (some (BitVec.ofNat 8 code))) ∨
    (s.port.response = none ∧ permitted.contains role = false ∧ t = s.answer code (.refuse .role)) ∨
    (s.port.response = none ∧ permitted.contains role = true ∧
      ∃ u r, owner s = some (u, r) ∧ t = u.answer code r) := by
  unfold request at h
  split at h
  · exact .inl ⟨‹_›, by cases h; rfl⟩
  · rename_i hr
    simp only [Option.not_isSome_iff_eq_none] at hr
    split at h
    · rename_i hp
      split at h
      · rename_i u r hu
        exact .inr (.inr ⟨hr, hp, u, r, hu, by cases h; rfl⟩)
      · cases h
    · rename_i hp
      exact .inr (.inl ⟨hr, by simpa using hp, by cases h; rfl⟩)

/-- A request of a permitted role with no response unread: its owner's answer becomes the response. -/
theorem request_owner {code : Nat} {role : Role} {permitted : List Role} {s u : State} {r : Reply}
    {owner : State → Option (State × Reply)} (hr : s.port.response = none) (hp : permitted.contains role = true)
    (ho : owner s = some (u, r)) : request code role permitted s owner = .next (u.answer code r) := by
  simp only [request, hr, hp, ho, Option.isSome_none, if_true, Bool.false_eq_true, if_false]

/-- A request of a role that the permission table does not list (R188, stage 4). -/
theorem request_role {code : Nat} {role : Role} {permitted : List Role} {s : State}
    {owner : State → Option (State × Reply)} (hr : s.port.response = none) (hp : permitted.contains role = false) :
    request code role permitted s owner = .next (s.answer code (.refuse .role)) := by
  simp only [request, hr, hp, Option.isSome_none, Bool.false_eq_true, if_false]

/-- A request taken while a response is unread (R189). -/
theorem request_overrun {code : Nat} {role : Role} {permitted : List Role} {s : State}
    {owner : State → Option (State × Reply)} (hr : s.port.response.isSome = true) :
    request code role permitted s owner = .next (s.overrun (some (BitVec.ofNat 8 code))) := by
  simp only [request, hr, if_true]

/-- A command whose operation came to rest. -/
theorem finish_next {r : Option State} {t : State} : finish r = .next t ↔ r = some t := by
  cases r with
  | none => simp [finish]
  | some u => simp [finish]

/-- An owner's acceptance, where its operation comes to rest. -/
theorem accepted_some {t : Option State} {f : State → List Byte} {u : State} {r : Reply}
    (h : accepted t f = some (u, r)) : t = some u ∧ r = .ok (f u) := by
  cases t with
  | none => simp [accepted] at h
  | some v =>
    simp only [accepted, Option.map_some, Option.some.injEq, Prod.mk.injEq] at h
    exact ⟨by rw [h.1], by rw [← h.2, h.1]⟩

/-! ### Folds -/

/-- A property that each step of a fold keeps is kept by the fold. -/
theorem foldSteps_keeps {α : Type} {f : α → State → Option State} {P : State → Prop}
    (hf : ∀ a s t, P s → f a s = some t → P t) {l : List α} {s t : State} (hs : P s) (h : foldSteps f l s = some t) :
    P t := by
  induction l generalizing s with
  | nil => simp only [foldSteps, Option.some.injEq] at h; exact h ▸ hs
  | cons a rest ih =>
    simp only [foldSteps, Option.bind_eq_some_iff] at h
    obtain ⟨u, hu, ht⟩ := h
    exact ih (hf a s u hs hu) ht

/-- A property that each step of a fold keeps is kept by the fold, where every step comes to rest. -/
theorem foldl_keeps {α : Type} {f : State → α → State} {P : State → Prop} (hf : ∀ a s, P s → P (f s a)) {l : List α}
    {s : State} (hs : P s) : P (l.foldl f s) := by
  induction l generalizing s with
  | nil => exact hs
  | cons a rest ih => exact ih (hf a s hs)

/-! ### Events -/

theorem occurrenceIndex_injective {a b : Occurrence} (h : occurrenceIndex a = occurrenceIndex b) : a = b := by
  cases a <;> cases b <;> first | rfl | (simp [occurrenceIndex] at h)

/-- An occurrence's record after a raising (R194). -/
theorem State.occurrence_raise (s : State) (o p : Occurrence) (d : Option Detail) :
    (s.raise o d).occurrence p =
      if p = o then { count := countUp 255 (s.occurrence o).count, detail := d } else s.occurrence p := by
  split
  · rename_i h; subst h; simp [State.raise, State.occurrence]
  · rename_i h
    have hi : (occurrenceIndex o).val ≠ (occurrenceIndex p).val := fun e =>
      h (occurrenceIndex_injective (Fin.ext e.symm))
    simp [State.raise, State.occurrence, Vector.getElem_set_ne, hi]

/-- A counter stays within its range. -/
theorem countUp_le (top n : Nat) : countUp top n ≤ top := by unfold countUp; split <;> omega

/-- A raising leaves the count within 0..255. -/
theorem State.raise_count_le (s : State) (o p : Occurrence) (d : Option Detail) (h : (s.occurrence p).count ≤ 255) :
    ((s.raise o d).occurrence p).count ≤ 255 := by
  rw [State.occurrence_raise]
  split
  · exact countUp_le _ _
  · exact h

/-! ### Records read after they are written -/

@[simp] theorem State.caller_putCaller (s : State) (l m : Fin 6) (c : Caller) :
    (s.putCaller l c).caller m = if m = l then c else s.caller m := by
  split
  · rename_i h; subst h; simp [State.putCaller, State.caller]
  · rename_i h
    have hi : l.val ≠ m.val := fun e => h (Fin.ext e.symm)
    simp [State.putCaller, State.caller, Vector.getElem_set_ne, hi]

@[simp] theorem State.source_putSource (s : State) (i j : Fin 14) (r : SourceRec) :
    (s.putSource i r).source j = if j = i then r else s.source j := by
  split
  · rename_i h; subst h; simp [State.putSource, State.source]
  · rename_i h
    have hi : i.val ≠ j.val := fun e => h (Fin.ext e.symm)
    simp [State.putSource, State.source, Vector.getElem_set_ne, hi]

@[simp] theorem State.player_putPlayer (s : State) (p q : Fin 4) (r : Player) :
    (s.putPlayer p r).player q = if q = p then r else s.player q := by
  split
  · rename_i h; subst h; simp [State.putPlayer, State.player]
  · rename_i h
    have hi : p.val ≠ q.val := fun e => h (Fin.ext e.symm)
    simp [State.putPlayer, State.player, Vector.getElem_set_ne, hi]

@[simp] theorem State.alert?_putAlert (s : State) (k j : Fin 8) (a : Option Alert) :
    (s.putAlert k a).alert? j = if j = k then a else s.alert? j := by
  split
  · rename_i h; subst h; simp [State.putAlert, State.alert?]
  · rename_i h
    have hi : k.val ≠ j.val := fun e => h (Fin.ext e.symm)
    simp [State.putAlert, State.alert?, Vector.getElem_set_ne, hi]

@[simp] theorem State.sched?_putSched (s : State) (k j : Fin 8) (e : SchedEntry) :
    (s.putSched k e).sched? j = if j = k then e else s.sched? j := by
  split
  · rename_i h; subst h; simp [State.putSched, State.sched?]
  · rename_i h
    have hi : k.val ≠ j.val := fun e => h (Fin.ext e.symm)
    simp [State.putSched, State.sched?, Vector.getElem_set_ne, hi]

theorem paramIndex_injective {a b : Param} (h : paramIndex a = paramIndex b) : a = b := by
  cases a <;> cases b <;> first | rfl | (simp [paramIndex] at h)

@[simp] theorem State.param_putParam (s : State) (p q : Param) (r : ParamRec) :
    (s.putParam p r).param q = if q = p then r else s.param q := by
  split
  · rename_i h; subst h; simp [State.putParam, State.param]
  · rename_i h
    have hi : (paramIndex p).val ≠ (paramIndex q).val := fun e => h (paramIndex_injective (Fin.ext e.symm))
    simp [State.putParam, State.param, Vector.getElem_set_ne, hi]

@[simp] theorem State.caller_raise (s : State) (o : Occurrence) (d : Option Detail) (l : Fin 6) :
    (s.raise o d).caller l = s.caller l := rfl

@[simp] theorem State.param_raise (s : State) (o : Occurrence) (d : Option Detail) (p : Param) :
    (s.raise o d).param p = s.param p := rfl

@[simp] theorem State.alert?_raise (s : State) (o : Occurrence) (d : Option Detail) (k : Fin 8) :
    (s.raise o d).alert? k = s.alert? k := rfl

@[simp] theorem State.alert?_putSched (s : State) (k j : Fin 8) (e : SchedEntry) :
    (s.putSched k e).alert? j = s.alert? j := rfl

@[simp] theorem State.sched?_putAlert (s : State) (k j : Fin 8) (a : Option Alert) :
    (s.putAlert k a).sched? j = s.sched? j := rfl

@[simp] theorem State.alert?_enterEligible (s : State) (k j : Fin 8) (a : Alert) (p : Bool) :
    (s.enterEligible k a p).alert? j =
      if j = k then some { a with state := .waiting, waitingSince := some s.clock.mono, nextEligible := none }
      else s.alert? j := by
  simp [State.enterEligible]

@[simp] theorem State.sched?_enterEligible (s : State) (k j : Fin 8) (a : Alert) (p : Bool) :
    (s.enterEligible k a p).sched? j =
      if j = k then { eligibility := .eligible, placed := false,
                      base := if a.rank = 3 then some s.clock.mono else none, passed := p }
      else s.sched? j := by
  simp [State.enterEligible]

/-- The way of a record that has become ELIGIBLE is its rank's, with the flag it was given. -/
theorem State.way?_enterEligible (s : State) (k : Fin 8) (a : Alert) (p : Bool) :
    (s.enterEligible k a p).way? k = some (wayOf a.rank p) := by
  simp [State.way?]

/-- A record that becomes ELIGIBLE with deadline passed set has no deadline running. -/
theorem State.deadlineOf_enterEligible (s : State) (k : Fin 8) (a : Alert) :
    (s.enterEligible k a true).deadlineOf k = none := by
  simp [State.deadlineOf]

end Sys2Proof.Machine
end

