-- ==== Sys2Proof/Laws/Frames.lean ====
section
/-! SUPPORT. What each operation leaves as it was: one lemma per operation. -/

namespace Sys2Proof.Machine

set_option Elab.async false

/-- A field that each step of a fold leaves is left by the fold. -/
theorem foldl_frame {α β : Type} (g : State → β) {f : State → α → State} (hf : ∀ s a, g (f s a) = g s) (l : List α)
    (s : State) : g (l.foldl f s) = g s := by
  induction l generalizing s with
  | nil => rfl
  | cons a rest ih => rw [List.foldl_cons, ih, hf]

@[simp] theorem State.raise_mask (s : State) (o : Occurrence) (d : Option Detail) :
    (s.raise o d).events.mask = s.events.mask := rfl
@[simp] theorem State.advanceSeq_look (s : State) (n : Nat) : (s.advanceSeq n).interp.look = s.interp.look := rfl
@[simp] theorem State.advanceSeq_play (s : State) (n : Nat) : (s.advanceSeq n).interp.play = s.interp.play := rfl
@[simp] theorem State.advanceSeq_held (s : State) (n : Nat) : (s.advanceSeq n).interp.held = s.interp.held := rfl
@[simp] theorem State.advanceSeq_drawn (s : State) (n : Nat) : (s.advanceSeq n).interp.drawn = s.interp.drawn := rfl
@[simp] theorem State.advanceSeq_placement (s : State) (n : Nat) : (s.advanceSeq n).interp.placement = s.interp.placement := rfl
@[simp] theorem State.putOnAir_state (s : State) (o : Option OnAir) : (s.putOnAir o).air.state = s.air.state := rfl
@[simp] theorem State.putPlayer_state (s : State) (p : Fin 4) (q : Player) :
    (s.putPlayer p q).air.state = s.air.state := rfl
@[simp] theorem State.putOnAir_mode (s : State) (o : Option OnAir) : (s.putOnAir o).air.mode = s.air.mode := rfl
@[simp] theorem State.putPlayer_mode (s : State) (p : Fin 4) (q : Player) :
    (s.putPlayer p q).air.mode = s.air.mode := rfl
@[simp] theorem State.putPlayer_onAir (s : State) (p : Fin 4) (q : Player) :
    (s.putPlayer p q).air.onAir = s.air.onAir := rfl
@[simp] theorem State.putOnAir_outgoing (s : State) (o : Option OnAir) : (s.putOnAir o).air.outgoing = s.air.outgoing := rfl
@[simp] theorem State.putPlayer_outgoing (s : State) (p : Fin 4) (q : Player) :
    (s.putPlayer p q).air.outgoing = s.air.outgoing := rfl
@[simp] theorem State.putOnAir_preemption (s : State) (o : Option OnAir) : (s.putOnAir o).air.preemption = s.air.preemption := rfl
@[simp] theorem State.putPlayer_preemption (s : State) (p : Fin 4) (q : Player) :
    (s.putPlayer p q).air.preemption = s.air.preemption := rfl
@[simp] theorem State.putOnAir_holdDemand (s : State) (o : Option OnAir) : (s.putOnAir o).air.holdDemand = s.air.holdDemand := rfl
@[simp] theorem State.putPlayer_holdDemand (s : State) (p : Fin 4) (q : Player) :
    (s.putPlayer p q).air.holdDemand = s.air.holdDemand := rfl
@[simp] theorem State.putOnAir_holdAtPoint (s : State) (o : Option OnAir) : (s.putOnAir o).air.holdAtPoint = s.air.holdAtPoint := rfl
@[simp] theorem State.putPlayer_holdAtPoint (s : State) (p : Fin 4) (q : Player) :
    (s.putPlayer p q).air.holdAtPoint = s.air.holdAtPoint := rfl
@[simp] theorem State.putOnAir_goLatch (s : State) (o : Option OnAir) : (s.putOnAir o).air.goLatch = s.air.goLatch := rfl
@[simp] theorem State.putPlayer_goLatch (s : State) (p : Fin 4) (q : Player) :
    (s.putPlayer p q).air.goLatch = s.air.goLatch := rfl
@[simp] theorem State.putOnAir_goLevel (s : State) (o : Option OnAir) : (s.putOnAir o).air.goLevel = s.air.goLevel := rfl
@[simp] theorem State.putPlayer_goLevel (s : State) (p : Fin 4) (q : Player) :
    (s.putPlayer p q).air.goLevel = s.air.goLevel := rfl
@[simp] theorem State.putOnAir_netALevel (s : State) (o : Option OnAir) : (s.putOnAir o).air.netALevel = s.air.netALevel := rfl
@[simp] theorem State.putPlayer_netALevel (s : State) (p : Fin 4) (q : Player) :
    (s.putPlayer p q).air.netALevel = s.air.netALevel := rfl
@[simp] theorem State.putOnAir_netBLevel (s : State) (o : Option OnAir) : (s.putOnAir o).air.netBLevel = s.air.netBLevel := rfl
@[simp] theorem State.putPlayer_netBLevel (s : State) (p : Fin 4) (q : Player) :
    (s.putPlayer p q).air.netBLevel = s.air.netBLevel := rfl
@[simp] theorem State.putOnAir_lastEnding (s : State) (o : Option OnAir) : (s.putOnAir o).air.lastEnding = s.air.lastEnding := rfl
@[simp] theorem State.putPlayer_lastEnding (s : State) (p : Fin 4) (q : Player) :
    (s.putPlayer p q).air.lastEnding = s.air.lastEnding := rfl
@[simp] theorem State.putOnAir_players (s : State) (o : Option OnAir) : (s.putOnAir o).air.players = s.air.players := rfl
@[simp] theorem State.putOnAir_fillPlayer (s : State) (o : Option OnAir) : (s.putOnAir o).air.fillPlayer = s.air.fillPlayer := rfl
@[simp] theorem State.putPlayer_fillPlayer (s : State) (p : Fin 4) (q : Player) :
    (s.putPlayer p q).air.fillPlayer = s.air.fillPlayer := rfl
@[simp] theorem State.putOnAir_fillPending (s : State) (o : Option OnAir) : (s.putOnAir o).air.fillPending = s.air.fillPending := rfl
@[simp] theorem State.putPlayer_fillPending (s : State) (p : Fin 4) (q : Player) :
    (s.putPlayer p q).air.fillPending = s.air.fillPending := rfl
@[simp] theorem State.putOnAir_cueGrace (s : State) (o : Option OnAir) : (s.putOnAir o).air.cueGrace = s.air.cueGrace := rfl
@[simp] theorem State.putPlayer_cueGrace (s : State) (p : Fin 4) (q : Player) :
    (s.putPlayer p q).air.cueGrace = s.air.cueGrace := rfl
@[simp] theorem foldl_clock {α : Type} {f : State → α → State} (hf : ∀ s a, (f s a).clock = s.clock) (l : List α)
    (s : State) : (l.foldl f s).clock = s.clock := foldl_frame State.clock hf l s
@[simp] theorem foldl_store {α : Type} {f : State → α → State} (hf : ∀ s a, (f s a).store = s.store) (l : List α)
    (s : State) : (l.foldl f s).store = s.store := foldl_frame State.store hf l s
@[simp] theorem foldl_interp {α : Type} {f : State → α → State} (hf : ∀ s a, (f s a).interp = s.interp) (l : List α)
    (s : State) : (l.foldl f s).interp = s.interp := foldl_frame State.interp hf l s
@[simp] theorem foldl_air {α : Type} {f : State → α → State} (hf : ∀ s a, (f s a).air = s.air) (l : List α)
    (s : State) : (l.foldl f s).air = s.air := foldl_frame State.air hf l s
@[simp] theorem foldl_timer {α : Type} {f : State → α → State} (hf : ∀ s a, (f s a).timer = s.timer) (l : List α)
    (s : State) : (l.foldl f s).timer = s.timer := foldl_frame State.timer hf l s
@[simp] theorem foldl_bus {α : Type} {f : State → α → State} (hf : ∀ s a, (f s a).bus = s.bus) (l : List α)
    (s : State) : (l.foldl f s).bus = s.bus := foldl_frame State.bus hf l s
@[simp] theorem foldl_lines {α : Type} {f : State → α → State} (hf : ∀ s a, (f s a).lines = s.lines) (l : List α)
    (s : State) : (l.foldl f s).lines = s.lines := foldl_frame State.lines hf l s
@[simp] theorem foldl_receiver {α : Type} {f : State → α → State} (hf : ∀ s a, (f s a).receiver = s.receiver) (l : List α)
    (s : State) : (l.foldl f s).receiver = s.receiver := foldl_frame State.receiver hf l s
@[simp] theorem foldl_sched {α : Type} {f : State → α → State} (hf : ∀ s a, (f s a).sched = s.sched) (l : List α)
    (s : State) : (l.foldl f s).sched = s.sched := foldl_frame State.sched hf l s
@[simp] theorem foldl_site {α : Type} {f : State → α → State} (hf : ∀ s a, (f s a).site = s.site) (l : List α)
    (s : State) : (l.foldl f s).site = s.site := foldl_frame State.site hf l s
@[simp] theorem foldl_port {α : Type} {f : State → α → State} (hf : ∀ s a, (f s a).port = s.port) (l : List α)
    (s : State) : (l.foldl f s).port = s.port := foldl_frame State.port hf l s
@[simp] theorem foldl_events {α : Type} {f : State → α → State} (hf : ∀ s a, (f s a).events = s.events) (l : List α)
    (s : State) : (l.foldl f s).events = s.events := foldl_frame State.events hf l s
@[simp] theorem foldl_freeUsed {α : Type} {f : State → α → State} (hf : ∀ s a, (f s a).freeUsed = s.freeUsed) (l : List α)
    (s : State) : (l.foldl f s).freeUsed = s.freeUsed := foldl_frame State.freeUsed hf l s
@[simp] theorem foldl_pending {α : Type} {f : State → α → State} (hf : ∀ s a, (f s a).pending = s.pending) (l : List α)
    (s : State) : (l.foldl f s).pending = s.pending := foldl_frame State.pending hf l s














@[simp] theorem State.keepDrops_frame (s : State) (entries : List Resolved) :
    (s.keepDrops entries).clock = s.clock ∧ (s.keepDrops entries).store = s.store ∧
    (s.keepDrops entries).interp = s.interp ∧ (s.keepDrops entries).air = s.air ∧
    (s.keepDrops entries).bus = s.bus ∧ (s.keepDrops entries).lines = s.lines ∧
    (s.keepDrops entries).receiver = s.receiver ∧ (s.keepDrops entries).sched = s.sched ∧
    (s.keepDrops entries).site = s.site ∧ (s.keepDrops entries).port = s.port ∧
    (s.keepDrops entries).freeUsed = s.freeUsed ∧ (s.keepDrops entries).pending = s.pending ∧
    (s.keepDrops entries).events.mask = s.events.mask ∧ (s.keepDrops entries).timer.tolerance = s.timer.tolerance ∧
    (s.keepDrops entries).timer.periodicAt = s.timer.periodicAt ∧
    (s.keepDrops entries).timer.record = s.timer.record ∧ (s.keepDrops entries).interp.play = s.interp.play ∧
    (s.keepDrops entries).interp.held = s.interp.held := by
  unfold State.keepDrops; dsimp only; split <;> simp

@[simp] theorem State.compute_frame (s : State) :
    (s.compute).clock = s.clock ∧ (s.compute).store = s.store ∧ (s.compute).bus = s.bus ∧
    (s.compute).lines = s.lines ∧ (s.compute).receiver = s.receiver ∧ (s.compute).sched = s.sched ∧
    (s.compute).site = s.site ∧ (s.compute).port = s.port ∧ (s.compute).freeUsed = s.freeUsed ∧
    (s.compute).pending = s.pending ∧ (s.compute).air.state = s.air.state ∧ (s.compute).air.mode = s.air.mode ∧
    (s.compute).air.onAir = s.air.onAir ∧ (s.compute).air.outgoing = s.air.outgoing ∧
    (s.compute).air.preemption = s.air.preemption ∧ (s.compute).air.holdDemand = s.air.holdDemand ∧
    (s.compute).air.holdAtPoint = s.air.holdAtPoint ∧ (s.compute).air.goLatch = s.air.goLatch ∧
    (s.compute).air.goLevel = s.air.goLevel ∧ (s.compute).air.netALevel = s.air.netALevel ∧
    (s.compute).air.netBLevel = s.air.netBLevel ∧ (s.compute).air.lastEnding = s.air.lastEnding ∧
    (s.compute).air.players = s.air.players ∧ (s.compute).air.fillPlayer = s.air.fillPlayer ∧
    (s.compute).air.fillPending = s.air.fillPending ∧ (s.compute).air.cueGrace = s.air.cueGrace ∧
    (s.compute).timer.tolerance = s.timer.tolerance ∧ (s.compute).timer.periodicAt = s.timer.periodicAt ∧
    (s.compute).events.mask = s.events.mask ∧ (s.compute).interp.play = s.interp.play ∧
    (s.compute).interp.held = s.interp.held := by
  unfold State.compute; simp

@[simp] theorem State.tryPlace_frame (s : State) :
    (s.tryPlace).clock = s.clock ∧ (s.tryPlace).store = s.store ∧ (s.tryPlace).bus = s.bus ∧
    (s.tryPlace).lines = s.lines ∧ (s.tryPlace).receiver = s.receiver ∧ (s.tryPlace).sched = s.sched ∧
    (s.tryPlace).site = s.site ∧ (s.tryPlace).port = s.port ∧ (s.tryPlace).freeUsed = s.freeUsed ∧
    (s.tryPlace).pending = s.pending ∧ (s.tryPlace).air.state = s.air.state ∧ (s.tryPlace).air.mode = s.air.mode ∧
    (s.tryPlace).air.onAir = s.air.onAir ∧ (s.tryPlace).air.outgoing = s.air.outgoing ∧
    (s.tryPlace).air.preemption = s.air.preemption ∧ (s.tryPlace).air.holdDemand = s.air.holdDemand ∧
    (s.tryPlace).air.holdAtPoint = s.air.holdAtPoint ∧ (s.tryPlace).air.goLatch = s.air.goLatch ∧
    (s.tryPlace).air.goLevel = s.air.goLevel ∧ (s.tryPlace).air.netALevel = s.air.netALevel ∧
    (s.tryPlace).air.netBLevel = s.air.netBLevel ∧ (s.tryPlace).air.lastEnding = s.air.lastEnding ∧
    (s.tryPlace).air.players = s.air.players ∧ (s.tryPlace).air.fillPlayer = s.air.fillPlayer ∧
    (s.tryPlace).air.fillPending = s.air.fillPending ∧ (s.tryPlace).air.cueGrace = s.air.cueGrace ∧
    (s.tryPlace).timer.tolerance = s.timer.tolerance ∧ (s.tryPlace).timer.periodicAt = s.timer.periodicAt ∧
    (s.tryPlace).events.mask = s.events.mask ∧ (s.tryPlace).interp.play = s.interp.play ∧
    (s.tryPlace).interp.held = s.interp.held := by
  unfold State.tryPlace; (repeat' split) <;> simp

@[simp] theorem State.reportFaults_frame (l : List (Nat × WalkFault)) (s : State) :
    (State.reportFaults l s).clock = s.clock ∧ (State.reportFaults l s).store = s.store ∧
    (State.reportFaults l s).air = s.air ∧ (State.reportFaults l s).timer = s.timer ∧
    (State.reportFaults l s).bus = s.bus ∧ (State.reportFaults l s).lines = s.lines ∧
    (State.reportFaults l s).receiver = s.receiver ∧ (State.reportFaults l s).sched = s.sched ∧
    (State.reportFaults l s).site = s.site ∧ (State.reportFaults l s).port = s.port ∧
    (State.reportFaults l s).freeUsed = s.freeUsed ∧ (State.reportFaults l s).pending = s.pending ∧
    (State.reportFaults l s).events.mask = s.events.mask ∧ (State.reportFaults l s).interp.play = s.interp.play ∧
    (State.reportFaults l s).interp.held = s.interp.held ∧ (State.reportFaults l s).interp.look = s.interp.look ∧
    (State.reportFaults l s).interp.placement = s.interp.placement ∧
    (State.reportFaults l s).interp.drawn = s.interp.drawn ∧ (State.reportFaults l s).interp.seqNo = s.interp.seqNo := by
  induction l generalizing s with
  | nil => simp [State.reportFaults]
  | cons p rest ih => obtain ⟨h, r⟩ := p; simp [State.reportFaults, ih]

@[simp] theorem State.refill_frame (s : State) :
    (s.refill).clock = s.clock ∧ (s.refill).store = s.store ∧ (s.refill).air = s.air ∧ (s.refill).timer = s.timer ∧
    (s.refill).bus = s.bus ∧ (s.refill).lines = s.lines ∧ (s.refill).receiver = s.receiver ∧
    (s.refill).sched = s.sched ∧ (s.refill).site = s.site ∧ (s.refill).port = s.port ∧
    (s.refill).freeUsed = s.freeUsed ∧ (s.refill).pending = s.pending ∧ (s.refill).events.mask = s.events.mask ∧
    (s.refill).interp.play = s.interp.play ∧ (s.refill).interp.held = s.interp.held := by
  unfold State.refill; dsimp only; split <;> simp

@[simp] theorem State.releaseHead_frame (s : State) (mayPlace : Bool) :
    (s.releaseHead mayPlace).clock = s.clock ∧ (s.releaseHead mayPlace).store = s.store ∧
    (s.releaseHead mayPlace).bus = s.bus ∧ (s.releaseHead mayPlace).lines = s.lines ∧
    (s.releaseHead mayPlace).receiver = s.receiver ∧ (s.releaseHead mayPlace).sched = s.sched ∧
    (s.releaseHead mayPlace).site = s.site ∧ (s.releaseHead mayPlace).port = s.port ∧
    (s.releaseHead mayPlace).freeUsed = s.freeUsed ∧ (s.releaseHead mayPlace).pending = s.pending ∧
    (s.releaseHead mayPlace).air.state = s.air.state ∧ (s.releaseHead mayPlace).air.mode = s.air.mode ∧
    (s.releaseHead mayPlace).air.onAir = s.air.onAir ∧ (s.releaseHead mayPlace).air.outgoing = s.air.outgoing ∧
    (s.releaseHead mayPlace).air.preemption = s.air.preemption ∧
    (s.releaseHead mayPlace).air.holdDemand = s.air.holdDemand ∧
    (s.releaseHead mayPlace).air.holdAtPoint = s.air.holdAtPoint ∧
    (s.releaseHead mayPlace).air.goLatch = s.air.goLatch ∧ (s.releaseHead mayPlace).air.goLevel = s.air.goLevel ∧
    (s.releaseHead mayPlace).air.netALevel = s.air.netALevel ∧
    (s.releaseHead mayPlace).air.netBLevel = s.air.netBLevel ∧
    (s.releaseHead mayPlace).air.lastEnding = s.air.lastEnding ∧
    (s.releaseHead mayPlace).air.players = s.air.players ∧
    (s.releaseHead mayPlace).air.fillPlayer = s.air.fillPlayer ∧
    (s.releaseHead mayPlace).air.fillPending = s.air.fillPending ∧
    (s.releaseHead mayPlace).air.cueGrace = s.air.cueGrace ∧
    (s.releaseHead mayPlace).timer.tolerance = s.timer.tolerance ∧
    (s.releaseHead mayPlace).timer.periodicAt = s.timer.periodicAt ∧
    (s.releaseHead mayPlace).events.mask = s.events.mask := by
  first
  | (simp [State.releaseHead]; done)
  | (unfold State.releaseHead; split <;> simp; done)
  | (unfold State.releaseHead; dsimp only; (repeat' split) <;> simp; done)
  | (unfold State.releaseHead; (repeat' split) <;> (try simp) <;> (repeat' split) <;> simp)

@[simp] theorem State.rebuild_frame (s : State) :
    (s.rebuild).clock = s.clock ∧ (s.rebuild).store = s.store ∧ (s.rebuild).bus = s.bus ∧
    (s.rebuild).lines = s.lines ∧ (s.rebuild).receiver = s.receiver ∧ (s.rebuild).sched = s.sched ∧
    (s.rebuild).site = s.site ∧ (s.rebuild).port = s.port ∧ (s.rebuild).freeUsed = s.freeUsed ∧
    (s.rebuild).pending = s.pending ∧ (s.rebuild).air.state = s.air.state ∧ (s.rebuild).air.mode = s.air.mode ∧
    (s.rebuild).air.onAir = s.air.onAir ∧ (s.rebuild).air.outgoing = s.air.outgoing ∧
    (s.rebuild).air.preemption = s.air.preemption ∧ (s.rebuild).air.holdDemand = s.air.holdDemand ∧
    (s.rebuild).air.holdAtPoint = s.air.holdAtPoint ∧ (s.rebuild).air.goLatch = s.air.goLatch ∧
    (s.rebuild).air.goLevel = s.air.goLevel ∧ (s.rebuild).air.netALevel = s.air.netALevel ∧
    (s.rebuild).air.netBLevel = s.air.netBLevel ∧ (s.rebuild).air.lastEnding = s.air.lastEnding ∧
    (s.rebuild).air.players = s.air.players ∧ (s.rebuild).air.fillPlayer = s.air.fillPlayer ∧
    (s.rebuild).air.fillPending = s.air.fillPending ∧ (s.rebuild).air.cueGrace = s.air.cueGrace ∧
    (s.rebuild).timer.tolerance = s.timer.tolerance ∧ (s.rebuild).timer.periodicAt = s.timer.periodicAt ∧
    (s.rebuild).events.mask = s.events.mask ∧ (s.rebuild).interp.play = s.interp.play ∧
    (s.rebuild).interp.held = s.interp.held := by
  simp [State.rebuild]

@[simp] theorem State.takeNotice_frame (s : State) (n : Notice) :
    (s.takeNotice n).clock = s.clock ∧ (s.takeNotice n).store = s.store ∧ (s.takeNotice n).bus = s.bus ∧
    (s.takeNotice n).lines = s.lines ∧ (s.takeNotice n).receiver = s.receiver ∧ (s.takeNotice n).sched = s.sched ∧
    (s.takeNotice n).site = s.site ∧ (s.takeNotice n).port = s.port ∧ (s.takeNotice n).freeUsed = s.freeUsed ∧
    (s.takeNotice n).pending = s.pending ∧ (s.takeNotice n).air.state = s.air.state ∧
    (s.takeNotice n).air.mode = s.air.mode ∧ (s.takeNotice n).air.onAir = s.air.onAir ∧
    (s.takeNotice n).air.outgoing = s.air.outgoing ∧ (s.takeNotice n).air.preemption = s.air.preemption ∧
    (s.takeNotice n).air.holdDemand = s.air.holdDemand ∧ (s.takeNotice n).air.holdAtPoint = s.air.holdAtPoint ∧
    (s.takeNotice n).air.goLatch = s.air.goLatch ∧ (s.takeNotice n).air.goLevel = s.air.goLevel ∧
    (s.takeNotice n).air.netALevel = s.air.netALevel ∧ (s.takeNotice n).air.netBLevel = s.air.netBLevel ∧
    (s.takeNotice n).air.lastEnding = s.air.lastEnding ∧ (s.takeNotice n).air.players = s.air.players ∧
    (s.takeNotice n).air.fillPlayer = s.air.fillPlayer ∧ (s.takeNotice n).air.fillPending = s.air.fillPending ∧
    (s.takeNotice n).air.cueGrace = s.air.cueGrace ∧ (s.takeNotice n).timer.tolerance = s.timer.tolerance ∧
    (s.takeNotice n).timer.periodicAt = s.timer.periodicAt ∧ (s.takeNotice n).events.mask = s.events.mask := by
  first
  | (simp [State.takeNotice]; done)
  | (unfold State.takeNotice; split <;> simp; done)
  | (unfold State.takeNotice; dsimp only; (repeat' split) <;> simp; done)
  | (unfold State.takeNotice; (repeat' split) <;> (try simp) <;> (repeat' split) <;> simp)

@[simp] theorem State.reportEnding_frame (s : State) (h : Nat) (e : Ending) :
    (s.reportEnding h e).clock = s.clock ∧ (s.reportEnding h e).bus = s.bus ∧
    (s.reportEnding h e).lines = s.lines ∧ (s.reportEnding h e).receiver = s.receiver ∧
    (s.reportEnding h e).sched = s.sched ∧ (s.reportEnding h e).site = s.site ∧
    (s.reportEnding h e).port = s.port ∧ (s.reportEnding h e).freeUsed = s.freeUsed ∧
    (s.reportEnding h e).pending = s.pending ∧ (s.reportEnding h e).air.state = s.air.state ∧
    (s.reportEnding h e).air.mode = s.air.mode ∧ (s.reportEnding h e).air.onAir = s.air.onAir ∧
    (s.reportEnding h e).air.outgoing = s.air.outgoing ∧ (s.reportEnding h e).air.preemption = s.air.preemption ∧
    (s.reportEnding h e).air.holdDemand = s.air.holdDemand ∧
    (s.reportEnding h e).air.holdAtPoint = s.air.holdAtPoint ∧ (s.reportEnding h e).air.goLatch = s.air.goLatch ∧
    (s.reportEnding h e).air.goLevel = s.air.goLevel ∧ (s.reportEnding h e).air.netALevel = s.air.netALevel ∧
    (s.reportEnding h e).air.netBLevel = s.air.netBLevel ∧ (s.reportEnding h e).air.lastEnding = s.air.lastEnding ∧
    (s.reportEnding h e).air.players = s.air.players ∧ (s.reportEnding h e).air.fillPlayer = s.air.fillPlayer ∧
    (s.reportEnding h e).air.fillPending = s.air.fillPending ∧ (s.reportEnding h e).air.cueGrace = s.air.cueGrace ∧
    (s.reportEnding h e).timer.tolerance = s.timer.tolerance ∧
    (s.reportEnding h e).timer.periodicAt = s.timer.periodicAt ∧ (s.reportEnding h e).events.mask = s.events.mask := by
  first
  | (simp [State.reportEnding]; done)
  | (unfold State.reportEnding; split <;> simp; done)
  | (unfold State.reportEnding; dsimp only; (repeat' split) <;> simp; done)
  | (unfold State.reportEnding; (repeat' split) <;> (try simp) <;> (repeat' split) <;> simp)

@[simp] theorem State.withdraw_frame (s : State) (origin number : Nat) :
    (s.withdraw origin number).clock = s.clock ∧ (s.withdraw origin number).store = s.store ∧
    (s.withdraw origin number).bus = s.bus ∧ (s.withdraw origin number).lines = s.lines ∧
    (s.withdraw origin number).receiver = s.receiver ∧ (s.withdraw origin number).sched = s.sched ∧
    (s.withdraw origin number).site = s.site ∧ (s.withdraw origin number).port = s.port ∧
    (s.withdraw origin number).freeUsed = s.freeUsed ∧ (s.withdraw origin number).pending = s.pending ∧
    (s.withdraw origin number).air.state = s.air.state ∧ (s.withdraw origin number).air.mode = s.air.mode ∧
    (s.withdraw origin number).air.onAir = s.air.onAir ∧ (s.withdraw origin number).air.outgoing = s.air.outgoing ∧
    (s.withdraw origin number).air.preemption = s.air.preemption ∧
    (s.withdraw origin number).air.holdDemand = s.air.holdDemand ∧
    (s.withdraw origin number).air.holdAtPoint = s.air.holdAtPoint ∧
    (s.withdraw origin number).air.goLatch = s.air.goLatch ∧
    (s.withdraw origin number).air.goLevel = s.air.goLevel ∧
    (s.withdraw origin number).air.netALevel = s.air.netALevel ∧
    (s.withdraw origin number).air.netBLevel = s.air.netBLevel ∧
    (s.withdraw origin number).air.lastEnding = s.air.lastEnding ∧
    (s.withdraw origin number).air.players = s.air.players ∧
    (s.withdraw origin number).air.fillPlayer = s.air.fillPlayer ∧
    (s.withdraw origin number).air.fillPending = s.air.fillPending ∧
    (s.withdraw origin number).air.cueGrace = s.air.cueGrace ∧
    (s.withdraw origin number).timer.tolerance = s.timer.tolerance ∧
    (s.withdraw origin number).timer.periodicAt = s.timer.periodicAt ∧
    (s.withdraw origin number).events.mask = s.events.mask := by
  first
  | (simp [State.withdraw]; done)
  | (unfold State.withdraw; split <;> simp; done)
  | (unfold State.withdraw; dsimp only; (repeat' split) <;> simp; done)
  | (unfold State.withdraw; (repeat' split) <;> (try simp) <;> (repeat' split) <;> simp)

@[simp] theorem State.dropStaleHead_frame (s : State) (h : Nat) :
    (s.dropStaleHead h).clock = s.clock ∧ (s.dropStaleHead h).store = s.store ∧ (s.dropStaleHead h).bus = s.bus ∧
    (s.dropStaleHead h).lines = s.lines ∧ (s.dropStaleHead h).receiver = s.receiver ∧
    (s.dropStaleHead h).sched = s.sched ∧ (s.dropStaleHead h).site = s.site ∧ (s.dropStaleHead h).port = s.port ∧
    (s.dropStaleHead h).freeUsed = s.freeUsed ∧ (s.dropStaleHead h).pending = s.pending ∧
    (s.dropStaleHead h).air.state = s.air.state ∧ (s.dropStaleHead h).air.mode = s.air.mode ∧
    (s.dropStaleHead h).air.onAir = s.air.onAir ∧ (s.dropStaleHead h).air.outgoing = s.air.outgoing ∧
    (s.dropStaleHead h).air.preemption = s.air.preemption ∧ (s.dropStaleHead h).air.holdDemand = s.air.holdDemand ∧
    (s.dropStaleHead h).air.holdAtPoint = s.air.holdAtPoint ∧ (s.dropStaleHead h).air.goLatch = s.air.goLatch ∧
    (s.dropStaleHead h).air.goLevel = s.air.goLevel ∧ (s.dropStaleHead h).air.netALevel = s.air.netALevel ∧
    (s.dropStaleHead h).air.netBLevel = s.air.netBLevel ∧ (s.dropStaleHead h).air.lastEnding = s.air.lastEnding ∧
    (s.dropStaleHead h).air.players = s.air.players ∧ (s.dropStaleHead h).air.fillPlayer = s.air.fillPlayer ∧
    (s.dropStaleHead h).air.fillPending = s.air.fillPending ∧ (s.dropStaleHead h).air.cueGrace = s.air.cueGrace ∧
    (s.dropStaleHead h).timer.tolerance = s.timer.tolerance ∧
    (s.dropStaleHead h).timer.periodicAt = s.timer.periodicAt ∧ (s.dropStaleHead h).events.mask = s.events.mask := by
  first
  | (simp [State.dropStaleHead]; done)
  | (unfold State.dropStaleHead; split <;> simp; done)
  | (unfold State.dropStaleHead; dsimp only; (repeat' split) <;> simp; done)
  | (unfold State.dropStaleHead; (repeat' split) <;> (try simp) <;> (repeat' split) <;> simp)

@[simp] theorem State.cueTo_frame (s : State) (h : Nat) (l : ListId) :
    (s.cueTo h l).clock = s.clock ∧ (s.cueTo h l).store = s.store ∧ (s.cueTo h l).bus = s.bus ∧
    (s.cueTo h l).lines = s.lines ∧ (s.cueTo h l).receiver = s.receiver ∧ (s.cueTo h l).sched = s.sched ∧
    (s.cueTo h l).site = s.site ∧ (s.cueTo h l).port = s.port ∧ (s.cueTo h l).freeUsed = s.freeUsed ∧
    (s.cueTo h l).pending = s.pending ∧ (s.cueTo h l).air.state = s.air.state ∧
    (s.cueTo h l).air.mode = s.air.mode ∧ (s.cueTo h l).air.onAir = s.air.onAir ∧
    (s.cueTo h l).air.outgoing = s.air.outgoing ∧ (s.cueTo h l).air.preemption = s.air.preemption ∧
    (s.cueTo h l).air.holdDemand = s.air.holdDemand ∧ (s.cueTo h l).air.holdAtPoint = s.air.holdAtPoint ∧
    (s.cueTo h l).air.goLatch = s.air.goLatch ∧ (s.cueTo h l).air.goLevel = s.air.goLevel ∧
    (s.cueTo h l).air.netALevel = s.air.netALevel ∧ (s.cueTo h l).air.netBLevel = s.air.netBLevel ∧
    (s.cueTo h l).air.lastEnding = s.air.lastEnding ∧ (s.cueTo h l).air.players = s.air.players ∧
    (s.cueTo h l).air.fillPlayer = s.air.fillPlayer ∧ (s.cueTo h l).air.fillPending = s.air.fillPending ∧
    (s.cueTo h l).air.cueGrace = s.air.cueGrace ∧ (s.cueTo h l).timer.tolerance = s.timer.tolerance ∧
    (s.cueTo h l).timer.periodicAt = s.timer.periodicAt ∧ (s.cueTo h l).events.mask = s.events.mask := by
  first
  | (simp [State.cueTo]; done)
  | (unfold State.cueTo; split <;> simp; done)
  | (unfold State.cueTo; dsimp only; (repeat' split) <;> simp; done)
  | (unfold State.cueTo; (repeat' split) <;> (try simp) <;> (repeat' split) <;> simp)

@[simp] theorem State.selectCallers_frame (n : Nat) (l : List (Fin 6)) (s : State) :
    (State.selectCallers n l s).clock = s.clock ∧ (State.selectCallers n l s).store = s.store ∧
    (State.selectCallers n l s).interp = s.interp ∧ (State.selectCallers n l s).air = s.air ∧
    (State.selectCallers n l s).timer = s.timer ∧ (State.selectCallers n l s).bus = s.bus ∧
    (State.selectCallers n l s).receiver = s.receiver ∧ (State.selectCallers n l s).sched = s.sched ∧
    (State.selectCallers n l s).site = s.site ∧ (State.selectCallers n l s).port = s.port ∧
    (State.selectCallers n l s).events = s.events ∧ (State.selectCallers n l s).freeUsed = s.freeUsed ∧
    (State.selectCallers n l s).pending = s.pending := by
  induction l generalizing n s with
  | nil => cases n <;> simp [State.selectCallers]
  | cons l rest ih => cases n with
    | zero => simp [State.selectCallers]
    | succ n => unfold State.selectCallers; split <;> simp [ih]

@[simp] theorem State.startSegment_frame (s : State) (handle : Nat) (part : PhonePart) :
    (s.startSegment handle part).clock = s.clock ∧ (s.startSegment handle part).store = s.store ∧
    (s.startSegment handle part).interp = s.interp ∧ (s.startSegment handle part).air = s.air ∧
    (s.startSegment handle part).timer = s.timer ∧ (s.startSegment handle part).bus = s.bus ∧
    (s.startSegment handle part).receiver = s.receiver ∧ (s.startSegment handle part).sched = s.sched ∧
    (s.startSegment handle part).site = s.site ∧ (s.startSegment handle part).port = s.port ∧
    (s.startSegment handle part).freeUsed = s.freeUsed ∧ (s.startSegment handle part).pending = s.pending := by
  first
  | (simp [State.startSegment]; done)
  | (unfold State.startSegment; split <;> simp; done)
  | (unfold State.startSegment; dsimp only; (repeat' split) <;> simp; done)
  | (unfold State.startSegment; (repeat' split) <;> (try simp) <;> (repeat' split) <;> simp)

@[simp] theorem State.endActionOn_frame (a : EndAction) (s : State) (l : Fin 6) :
    (State.endActionOn a s l).clock = s.clock ∧ (State.endActionOn a s l).store = s.store ∧
    (State.endActionOn a s l).interp = s.interp ∧ (State.endActionOn a s l).air = s.air ∧
    (State.endActionOn a s l).timer = s.timer ∧ (State.endActionOn a s l).bus = s.bus ∧
    (State.endActionOn a s l).receiver = s.receiver ∧ (State.endActionOn a s l).sched = s.sched ∧
    (State.endActionOn a s l).site = s.site ∧ (State.endActionOn a s l).port = s.port ∧
    (State.endActionOn a s l).events = s.events ∧ (State.endActionOn a s l).freeUsed = s.freeUsed ∧
    (State.endActionOn a s l).pending = s.pending := by cases a <;> simp [State.endActionOn]

@[simp] theorem State.endSegment_frame (s : State) :
    (s.endSegment).clock = s.clock ∧ (s.endSegment).store = s.store ∧ (s.endSegment).interp = s.interp ∧
    (s.endSegment).air = s.air ∧ (s.endSegment).timer = s.timer ∧ (s.endSegment).bus = s.bus ∧
    (s.endSegment).receiver = s.receiver ∧ (s.endSegment).sched = s.sched ∧ (s.endSegment).site = s.site ∧
    (s.endSegment).port = s.port ∧ (s.endSegment).events = s.events ∧ (s.endSegment).freeUsed = s.freeUsed ∧
    (s.endSegment).pending = s.pending := by
  unfold State.endSegment; split <;> simp

@[simp] theorem State.holdNotice_frame (s : State) :
    (s.holdNotice).clock = s.clock ∧ (s.holdNotice).store = s.store ∧ (s.holdNotice).interp = s.interp ∧
    (s.holdNotice).air = s.air ∧ (s.holdNotice).timer = s.timer ∧ (s.holdNotice).bus = s.bus ∧
    (s.holdNotice).receiver = s.receiver ∧ (s.holdNotice).sched = s.sched ∧ (s.holdNotice).site = s.site ∧
    (s.holdNotice).port = s.port ∧ (s.holdNotice).events = s.events ∧ (s.holdNotice).freeUsed = s.freeUsed ∧
    (s.holdNotice).pending = s.pending := by
  unfold State.holdNotice
  refine ⟨?_, ?_, ?_, ?_, ?_, ?_, ?_, ?_, ?_, ?_, ?_, ?_, ?_⟩
  · simp only [State.suspendSegment_clock]; refine (foldl_clock (fun u l => State.enterHold_clock u l true) _ _).trans ?_; rfl
  · simp only [State.suspendSegment_store]; refine (foldl_store (fun u l => State.enterHold_store u l true) _ _).trans ?_; rfl
  · simp only [State.suspendSegment_interp]; refine (foldl_interp (fun u l => State.enterHold_interp u l true) _ _).trans ?_; rfl
  · simp only [State.suspendSegment_air]; refine (foldl_air (fun u l => State.enterHold_air u l true) _ _).trans ?_; rfl
  · simp only [State.suspendSegment_timer]; refine (foldl_timer (fun u l => State.enterHold_timer u l true) _ _).trans ?_; rfl
  · simp only [State.suspendSegment_bus]; refine (foldl_bus (fun u l => State.enterHold_bus u l true) _ _).trans ?_; rfl
  · simp only [State.suspendSegment_receiver]; refine (foldl_receiver (fun u l => State.enterHold_receiver u l true) _ _).trans ?_; rfl
  · simp only [State.suspendSegment_sched]; refine (foldl_sched (fun u l => State.enterHold_sched u l true) _ _).trans ?_; rfl
  · simp only [State.suspendSegment_site]; refine (foldl_site (fun u l => State.enterHold_site u l true) _ _).trans ?_; rfl
  · simp only [State.suspendSegment_port]; refine (foldl_port (fun u l => State.enterHold_port u l true) _ _).trans ?_; rfl
  · simp only [State.suspendSegment_events]; refine (foldl_events (fun u l => State.enterHold_events u l true) _ _).trans ?_; rfl
  · simp only [State.suspendSegment_freeUsed]; refine (foldl_freeUsed (fun u l => State.enterHold_freeUsed u l true) _ _).trans ?_; rfl
  · simp only [State.suspendSegment_pending]; refine (foldl_pending (fun u l => State.enterHold_pending u l true) _ _).trans ?_; rfl

@[simp] theorem State.restoreLine_frame (s : State) (l : Fin 6) :
    (s.restoreLine l).clock = s.clock ∧ (s.restoreLine l).store = s.store ∧ (s.restoreLine l).interp = s.interp ∧
    (s.restoreLine l).air = s.air ∧ (s.restoreLine l).timer = s.timer ∧ (s.restoreLine l).bus = s.bus ∧
    (s.restoreLine l).receiver = s.receiver ∧ (s.restoreLine l).sched = s.sched ∧ (s.restoreLine l).site = s.site ∧
    (s.restoreLine l).port = s.port ∧ (s.restoreLine l).events = s.events ∧
    (s.restoreLine l).freeUsed = s.freeUsed ∧ (s.restoreLine l).pending = s.pending := by
  first
  | (simp [State.restoreLine]; done)
  | (unfold State.restoreLine; split <;> simp; done)
  | (unfold State.restoreLine; dsimp only; (repeat' split) <;> simp; done)
  | (unfold State.restoreLine; (repeat' split) <;> (try simp) <;> (repeat' split) <;> simp)

@[simp] theorem State.restoreNotice_frame (s : State) :
    (s.restoreNotice).clock = s.clock ∧ (s.restoreNotice).store = s.store ∧ (s.restoreNotice).interp = s.interp ∧
    (s.restoreNotice).air = s.air ∧ (s.restoreNotice).timer = s.timer ∧ (s.restoreNotice).bus = s.bus ∧
    (s.restoreNotice).receiver = s.receiver ∧ (s.restoreNotice).sched = s.sched ∧ (s.restoreNotice).site = s.site ∧
    (s.restoreNotice).port = s.port ∧ (s.restoreNotice).events = s.events ∧
    (s.restoreNotice).freeUsed = s.freeUsed ∧ (s.restoreNotice).pending = s.pending := by
  unfold State.restoreNotice; split <;> simp

@[simp] theorem State.fillTableFrom_frame (n : Nat) (s : State) :
    (State.fillTableFrom n s).clock = s.clock ∧ (State.fillTableFrom n s).store = s.store ∧
    (State.fillTableFrom n s).interp = s.interp ∧ (State.fillTableFrom n s).air = s.air ∧
    (State.fillTableFrom n s).timer = s.timer ∧ (State.fillTableFrom n s).bus = s.bus ∧
    (State.fillTableFrom n s).lines = s.lines ∧ (State.fillTableFrom n s).receiver = s.receiver ∧
    (State.fillTableFrom n s).sched = s.sched ∧ (State.fillTableFrom n s).port = s.port ∧
    (State.fillTableFrom n s).events = s.events ∧ (State.fillTableFrom n s).freeUsed = s.freeUsed ∧
    (State.fillTableFrom n s).pending = s.pending := by
  induction n generalizing s with
  | zero => simp [State.fillTableFrom]
  | succ n ih => unfold State.fillTableFrom; (repeat' split) <;> simp [ih]

@[simp] theorem State.fillTable_frame (s : State) :
    (s.fillTable).clock = s.clock ∧ (s.fillTable).store = s.store ∧ (s.fillTable).interp = s.interp ∧
    (s.fillTable).air = s.air ∧ (s.fillTable).timer = s.timer ∧ (s.fillTable).bus = s.bus ∧
    (s.fillTable).lines = s.lines ∧ (s.fillTable).receiver = s.receiver ∧ (s.fillTable).sched = s.sched ∧
    (s.fillTable).port = s.port ∧ (s.fillTable).events = s.events ∧ (s.fillTable).freeUsed = s.freeUsed ∧
    (s.fillTable).pending = s.pending := by
  first
  | (simp [State.fillTable]; done)
  | (unfold State.fillTable; split <;> simp; done)
  | (unfold State.fillTable; dsimp only; (repeat' split) <;> simp; done)
  | (unfold State.fillTable; (repeat' split) <;> (try simp) <;> (repeat' split) <;> simp)

@[simp] theorem State.newDesired_frame (s : State) (p : Param) (v : Nat) :
    (s.newDesired p v).clock = s.clock ∧ (s.newDesired p v).store = s.store ∧
    (s.newDesired p v).interp = s.interp ∧ (s.newDesired p v).air = s.air ∧ (s.newDesired p v).timer = s.timer ∧
    (s.newDesired p v).bus = s.bus ∧ (s.newDesired p v).lines = s.lines ∧
    (s.newDesired p v).receiver = s.receiver ∧ (s.newDesired p v).sched = s.sched ∧
    (s.newDesired p v).port = s.port ∧ (s.newDesired p v).events = s.events ∧
    (s.newDesired p v).freeUsed = s.freeUsed ∧ (s.newDesired p v).pending = s.pending := by
  first
  | (simp [State.newDesired]; done)
  | (unfold State.newDesired; split <;> simp; done)
  | (unfold State.newDesired; dsimp only; (repeat' split) <;> simp; done)
  | (unfold State.newDesired; (repeat' split) <;> (try simp) <;> (repeat' split) <;> simp)

@[simp] theorem State.desire_frame (s : State) (p : Param) (v : Nat) :
    (s.desire p v).clock = s.clock ∧ (s.desire p v).store = s.store ∧
    (s.desire p v).interp = s.interp ∧ (s.desire p v).air = s.air ∧
    (s.desire p v).timer = s.timer ∧ (s.desire p v).bus = s.bus ∧
    (s.desire p v).lines = s.lines ∧ (s.desire p v).receiver = s.receiver ∧
    (s.desire p v).sched = s.sched ∧ (s.desire p v).port = s.port ∧
    (s.desire p v).events = s.events ∧ (s.desire p v).freeUsed = s.freeUsed ∧
    (s.desire p v).pending = s.pending := by
  first
  | (simp [State.desire]; done)
  | (unfold State.desire; split <;> simp; done)
  | (unfold State.desire; dsimp only; (repeat' split) <;> simp; done)
  | (unfold State.desire; (repeat' split) <;> (try simp) <;> (repeat' split) <;> simp)

@[simp] theorem State.writeDesired_frame (s : State) (p : Param) (v : Nat) :
    (s.writeDesired p v).clock = s.clock ∧ (s.writeDesired p v).store = s.store ∧
    (s.writeDesired p v).interp = s.interp ∧ (s.writeDesired p v).air = s.air ∧
    (s.writeDesired p v).timer = s.timer ∧ (s.writeDesired p v).bus = s.bus ∧
    (s.writeDesired p v).lines = s.lines ∧ (s.writeDesired p v).receiver = s.receiver ∧
    (s.writeDesired p v).sched = s.sched ∧ (s.writeDesired p v).port = s.port ∧
    (s.writeDesired p v).events = s.events ∧ (s.writeDesired p v).freeUsed = s.freeUsed ∧
    (s.writeDesired p v).pending = s.pending := by
  first
  | (simp [State.writeDesired]; done)
  | (unfold State.writeDesired; split <;> simp; done)
  | (unfold State.writeDesired; dsimp only; (repeat' split) <;> simp; done)
  | (unfold State.writeDesired; (repeat' split) <;> (try simp) <;> (repeat' split) <;> simp)

@[simp] theorem State.retestPower_frame (s : State) :
    (s.retestPower).clock = s.clock ∧ (s.retestPower).store = s.store ∧ (s.retestPower).interp = s.interp ∧
    (s.retestPower).air = s.air ∧ (s.retestPower).timer = s.timer ∧ (s.retestPower).bus = s.bus ∧
    (s.retestPower).lines = s.lines ∧ (s.retestPower).receiver = s.receiver ∧ (s.retestPower).sched = s.sched ∧
    (s.retestPower).port = s.port ∧ (s.retestPower).events = s.events ∧ (s.retestPower).freeUsed = s.freeUsed ∧
    (s.retestPower).pending = s.pending := by
  first
  | (simp [State.retestPower]; done)
  | (unfold State.retestPower; split <;> simp; done)
  | (unfold State.retestPower; dsimp only; (repeat' split) <;> simp; done)
  | (unfold State.retestPower; (repeat' split) <;> (try simp) <;> (repeat' split) <;> simp)

@[simp] theorem State.actOnReport_frame (s : State) (p : Param) :
    (s.actOnReport p).clock = s.clock ∧ (s.actOnReport p).store = s.store ∧ (s.actOnReport p).interp = s.interp ∧
    (s.actOnReport p).air = s.air ∧ (s.actOnReport p).timer = s.timer ∧ (s.actOnReport p).bus = s.bus ∧
    (s.actOnReport p).lines = s.lines ∧ (s.actOnReport p).receiver = s.receiver ∧
    (s.actOnReport p).sched = s.sched ∧ (s.actOnReport p).port = s.port ∧ (s.actOnReport p).events = s.events ∧
    (s.actOnReport p).freeUsed = s.freeUsed ∧ (s.actOnReport p).pending = s.pending := by
  first
  | (simp [State.actOnReport]; done)
  | (unfold State.actOnReport; split <;> simp; done)
  | (unfold State.actOnReport; dsimp only; (repeat' split) <;> simp; done)
  | (unfold State.actOnReport; (repeat' split) <;> (try simp) <;> (repeat' split) <;> simp)

@[simp] theorem State.siteRefused_frame (s : State) (p : Param) (reason : SiteRefusal) :
    (s.siteRefused p reason).clock = s.clock ∧ (s.siteRefused p reason).store = s.store ∧
    (s.siteRefused p reason).interp = s.interp ∧ (s.siteRefused p reason).air = s.air ∧
    (s.siteRefused p reason).timer = s.timer ∧ (s.siteRefused p reason).bus = s.bus ∧
    (s.siteRefused p reason).lines = s.lines ∧ (s.siteRefused p reason).receiver = s.receiver ∧
    (s.siteRefused p reason).sched = s.sched ∧ (s.siteRefused p reason).port = s.port ∧
    (s.siteRefused p reason).freeUsed = s.freeUsed ∧ (s.siteRefused p reason).pending = s.pending := by
  first
  | (simp [State.siteRefused]; done)
  | (unfold State.siteRefused; split <;> simp; done)
  | (unfold State.siteRefused; dsimp only; (repeat' split) <;> simp; done)
  | (unfold State.siteRefused; (repeat' split) <;> (try simp) <;> (repeat' split) <;> simp)

@[simp] theorem State.takeApplied_frame (s : State) (p : Param) (applied : Nat) (power : Option (Nat × Int)) :
    (s.takeApplied p applied power).clock = s.clock ∧ (s.takeApplied p applied power).store = s.store ∧
    (s.takeApplied p applied power).interp = s.interp ∧ (s.takeApplied p applied power).air = s.air ∧
    (s.takeApplied p applied power).timer = s.timer ∧ (s.takeApplied p applied power).bus = s.bus ∧
    (s.takeApplied p applied power).lines = s.lines ∧ (s.takeApplied p applied power).receiver = s.receiver ∧
    (s.takeApplied p applied power).sched = s.sched ∧ (s.takeApplied p applied power).port = s.port ∧
    (s.takeApplied p applied power).events = s.events ∧ (s.takeApplied p applied power).freeUsed = s.freeUsed ∧
    (s.takeApplied p applied power).pending = s.pending := by
  first
  | (simp [State.takeApplied]; done)
  | (unfold State.takeApplied; split <;> simp; done)
  | (unfold State.takeApplied; dsimp only; (repeat' split) <;> simp; done)
  | (unfold State.takeApplied; (repeat' split) <;> (try simp) <;> (repeat' split) <;> simp)

@[simp] theorem State.settleAck_frame (s : State) (p : Param) (sent applied : Nat) (power : Option (Nat × Int)) :
    (s.settleAck p sent applied power).clock = s.clock ∧ (s.settleAck p sent applied power).store = s.store ∧
    (s.settleAck p sent applied power).interp = s.interp ∧ (s.settleAck p sent applied power).air = s.air ∧
    (s.settleAck p sent applied power).timer = s.timer ∧ (s.settleAck p sent applied power).bus = s.bus ∧
    (s.settleAck p sent applied power).lines = s.lines ∧ (s.settleAck p sent applied power).receiver = s.receiver ∧
    (s.settleAck p sent applied power).sched = s.sched ∧ (s.settleAck p sent applied power).port = s.port ∧
    (s.settleAck p sent applied power).freeUsed = s.freeUsed ∧
    (s.settleAck p sent applied power).pending = s.pending := by
  first
  | (simp [State.settleAck]; done)
  | (unfold State.settleAck; split <;> simp; done)
  | (unfold State.settleAck; dsimp only; (repeat' split) <;> simp; done)
  | (unfold State.settleAck; (repeat' split) <;> (try simp) <;> (repeat' split) <;> simp)

@[simp] theorem State.startChangeover_frame (s : State) (applied : Nat) :
    (s.startChangeover applied).clock = s.clock ∧ (s.startChangeover applied).store = s.store ∧
    (s.startChangeover applied).interp = s.interp ∧ (s.startChangeover applied).air = s.air ∧
    (s.startChangeover applied).timer = s.timer ∧ (s.startChangeover applied).bus = s.bus ∧
    (s.startChangeover applied).lines = s.lines ∧ (s.startChangeover applied).receiver = s.receiver ∧
    (s.startChangeover applied).sched = s.sched ∧ (s.startChangeover applied).port = s.port ∧
    (s.startChangeover applied).events = s.events ∧ (s.startChangeover applied).freeUsed = s.freeUsed ∧
    (s.startChangeover applied).pending = s.pending := by
  first
  | (simp [State.startChangeover]; done)
  | (unfold State.startChangeover; split <;> simp; done)
  | (unfold State.startChangeover; dsimp only; (repeat' split) <;> simp; done)
  | (unfold State.startChangeover; (repeat' split) <;> (try simp) <;> (repeat' split) <;> simp)

@[simp] theorem State.cutPlayer_frame (s : State) (p : Fin 4) (fill : Bool) :
    (s.cutPlayer p fill).clock = s.clock ∧ (s.cutPlayer p fill).store = s.store ∧
    (s.cutPlayer p fill).interp = s.interp ∧ (s.cutPlayer p fill).air = s.air ∧
    (s.cutPlayer p fill).timer = s.timer ∧ (s.cutPlayer p fill).lines = s.lines ∧
    (s.cutPlayer p fill).receiver = s.receiver ∧ (s.cutPlayer p fill).sched = s.sched ∧
    (s.cutPlayer p fill).site = s.site ∧ (s.cutPlayer p fill).port = s.port ∧
    (s.cutPlayer p fill).events = s.events ∧ (s.cutPlayer p fill).freeUsed = s.freeUsed ∧
    (s.cutPlayer p fill).pending = s.pending := by
  first
  | (simp [State.cutPlayer]; done)
  | (unfold State.cutPlayer; split <;> simp; done)
  | (unfold State.cutPlayer; dsimp only; (repeat' split) <;> simp; done)
  | (unfold State.cutPlayer; (repeat' split) <;> (try simp) <;> (repeat' split) <;> simp)

@[simp] theorem State.startFill_frame (s : State) :
    (s.startFill).clock = s.clock ∧ (s.startFill).store = s.store ∧ (s.startFill).interp = s.interp ∧
    (s.startFill).timer = s.timer ∧ (s.startFill).lines = s.lines ∧ (s.startFill).receiver = s.receiver ∧
    (s.startFill).sched = s.sched ∧ (s.startFill).site = s.site ∧ (s.startFill).port = s.port ∧
    (s.startFill).events = s.events ∧ (s.startFill).freeUsed = s.freeUsed ∧ (s.startFill).pending = s.pending ∧
    (s.startFill).air.state = s.air.state ∧ (s.startFill).air.mode = s.air.mode ∧
    (s.startFill).air.onAir = s.air.onAir ∧ (s.startFill).air.outgoing = s.air.outgoing ∧
    (s.startFill).air.preemption = s.air.preemption ∧ (s.startFill).air.holdDemand = s.air.holdDemand ∧
    (s.startFill).air.holdAtPoint = s.air.holdAtPoint ∧ (s.startFill).air.goLatch = s.air.goLatch ∧
    (s.startFill).air.goLevel = s.air.goLevel ∧ (s.startFill).air.netALevel = s.air.netALevel ∧
    (s.startFill).air.netBLevel = s.air.netBLevel ∧ (s.startFill).air.lastEnding = s.air.lastEnding ∧
    (s.startFill).air.fillPlayer = s.air.fillPlayer ∧ (s.startFill).air.fillPending = s.air.fillPending ∧
    (s.startFill).air.cueGrace = s.air.cueGrace := by
  unfold State.startFill; (repeat' split) <;> simp

@[simp] theorem State.withdrawFill_frame (s : State) :
    (s.withdrawFill).clock = s.clock ∧ (s.withdrawFill).store = s.store ∧ (s.withdrawFill).interp = s.interp ∧
    (s.withdrawFill).air = s.air ∧ (s.withdrawFill).timer = s.timer ∧ (s.withdrawFill).lines = s.lines ∧
    (s.withdrawFill).receiver = s.receiver ∧ (s.withdrawFill).sched = s.sched ∧ (s.withdrawFill).site = s.site ∧
    (s.withdrawFill).port = s.port ∧ (s.withdrawFill).events = s.events ∧ (s.withdrawFill).freeUsed = s.freeUsed ∧
    (s.withdrawFill).pending = s.pending := by
  first
  | (simp [State.withdrawFill]; done)
  | (unfold State.withdrawFill; split <;> simp; done)
  | (unfold State.withdrawFill; dsimp only; (repeat' split) <;> simp; done)
  | (unfold State.withdrawFill; (repeat' split) <;> (try simp) <;> (repeat' split) <;> simp)

@[simp] theorem State.addDeadAir_frame (s : State) :
    (s.addDeadAir).clock = s.clock ∧ (s.addDeadAir).store = s.store ∧ (s.addDeadAir).interp = s.interp ∧
    (s.addDeadAir).timer = s.timer ∧ (s.addDeadAir).lines = s.lines ∧ (s.addDeadAir).receiver = s.receiver ∧
    (s.addDeadAir).sched = s.sched ∧ (s.addDeadAir).site = s.site ∧ (s.addDeadAir).port = s.port ∧
    (s.addDeadAir).events = s.events ∧ (s.addDeadAir).freeUsed = s.freeUsed ∧ (s.addDeadAir).pending = s.pending ∧
    (s.addDeadAir).air.state = s.air.state ∧ (s.addDeadAir).air.mode = s.air.mode ∧
    (s.addDeadAir).air.onAir = s.air.onAir ∧ (s.addDeadAir).air.outgoing = s.air.outgoing ∧
    (s.addDeadAir).air.preemption = s.air.preemption ∧ (s.addDeadAir).air.holdDemand = s.air.holdDemand ∧
    (s.addDeadAir).air.holdAtPoint = s.air.holdAtPoint ∧ (s.addDeadAir).air.goLatch = s.air.goLatch ∧
    (s.addDeadAir).air.goLevel = s.air.goLevel ∧ (s.addDeadAir).air.netALevel = s.air.netALevel ∧
    (s.addDeadAir).air.netBLevel = s.air.netBLevel ∧ (s.addDeadAir).air.lastEnding = s.air.lastEnding ∧
    (s.addDeadAir).air.fillPlayer = s.air.fillPlayer ∧ (s.addDeadAir).air.fillPending = s.air.fillPending ∧
    (s.addDeadAir).air.cueGrace = s.air.cueGrace := by
  first
  | (simp [State.addDeadAir]; done)
  | (unfold State.addDeadAir; split <;> simp; done)
  | (unfold State.addDeadAir; dsimp only; (repeat' split) <;> simp; done)
  | (unfold State.addDeadAir; (repeat' split) <;> (try simp) <;> (repeat' split) <;> simp)

@[simp] theorem State.addPostWait_frame (s : State) :
    (s.addPostWait).clock = s.clock ∧ (s.addPostWait).store = s.store ∧ (s.addPostWait).interp = s.interp ∧
    (s.addPostWait).timer = s.timer ∧ (s.addPostWait).lines = s.lines ∧ (s.addPostWait).receiver = s.receiver ∧
    (s.addPostWait).sched = s.sched ∧ (s.addPostWait).site = s.site ∧ (s.addPostWait).port = s.port ∧
    (s.addPostWait).events = s.events ∧ (s.addPostWait).freeUsed = s.freeUsed ∧
    (s.addPostWait).pending = s.pending ∧ (s.addPostWait).air.state = s.air.state ∧
    (s.addPostWait).air.mode = s.air.mode ∧ (s.addPostWait).air.onAir = s.air.onAir ∧
    (s.addPostWait).air.outgoing = s.air.outgoing ∧ (s.addPostWait).air.preemption = s.air.preemption ∧
    (s.addPostWait).air.holdDemand = s.air.holdDemand ∧ (s.addPostWait).air.holdAtPoint = s.air.holdAtPoint ∧
    (s.addPostWait).air.goLatch = s.air.goLatch ∧ (s.addPostWait).air.goLevel = s.air.goLevel ∧
    (s.addPostWait).air.netALevel = s.air.netALevel ∧ (s.addPostWait).air.netBLevel = s.air.netBLevel ∧
    (s.addPostWait).air.lastEnding = s.air.lastEnding ∧ (s.addPostWait).air.fillPlayer = s.air.fillPlayer ∧
    (s.addPostWait).air.fillPending = s.air.fillPending ∧ (s.addPostWait).air.cueGrace = s.air.cueGrace := by
  first
  | (simp [State.addPostWait]; done)
  | (unfold State.addPostWait; split <;> simp; done)
  | (unfold State.addPostWait; dsimp only; (repeat' split) <;> simp; done)
  | (unfold State.addPostWait; (repeat' split) <;> (try simp) <;> (repeat' split) <;> simp)

@[simp] theorem State.withdrawUnwanted_frame (s : State) :
    (s.withdrawUnwanted).clock = s.clock ∧ (s.withdrawUnwanted).store = s.store ∧
    (s.withdrawUnwanted).interp = s.interp ∧ (s.withdrawUnwanted).air = s.air ∧
    (s.withdrawUnwanted).timer = s.timer ∧ (s.withdrawUnwanted).lines = s.lines ∧
    (s.withdrawUnwanted).receiver = s.receiver ∧ (s.withdrawUnwanted).sched = s.sched ∧
    (s.withdrawUnwanted).site = s.site ∧ (s.withdrawUnwanted).port = s.port ∧
    (s.withdrawUnwanted).events = s.events ∧ (s.withdrawUnwanted).freeUsed = s.freeUsed ∧
    (s.withdrawUnwanted).pending = s.pending := by
  first
  | (simp [State.withdrawUnwanted]; done)
  | (unfold State.withdrawUnwanted; split <;> simp; done)
  | (unfold State.withdrawUnwanted; dsimp only; (repeat' split) <;> simp; done)
  | (unfold State.withdrawUnwanted; (repeat' split) <;> (try simp) <;> (repeat' split) <;> simp)

@[simp] theorem State.dropDeadAir_frame (s : State) :
    (s.dropDeadAir).clock = s.clock ∧ (s.dropDeadAir).store = s.store ∧ (s.dropDeadAir).interp = s.interp ∧
    (s.dropDeadAir).air = s.air ∧ (s.dropDeadAir).timer = s.timer ∧ (s.dropDeadAir).lines = s.lines ∧
    (s.dropDeadAir).receiver = s.receiver ∧ (s.dropDeadAir).sched = s.sched ∧ (s.dropDeadAir).site = s.site ∧
    (s.dropDeadAir).port = s.port ∧ (s.dropDeadAir).events = s.events ∧ (s.dropDeadAir).freeUsed = s.freeUsed ∧
    (s.dropDeadAir).pending = s.pending := by
  first
  | (simp [State.dropDeadAir]; done)
  | (unfold State.dropDeadAir; split <;> simp; done)
  | (unfold State.dropDeadAir; dsimp only; (repeat' split) <;> simp; done)
  | (unfold State.dropDeadAir; (repeat' split) <;> (try simp) <;> (repeat' split) <;> simp)

@[simp] theorem State.dropPostWait_frame (s : State) :
    (s.dropPostWait).clock = s.clock ∧ (s.dropPostWait).store = s.store ∧ (s.dropPostWait).interp = s.interp ∧
    (s.dropPostWait).air = s.air ∧ (s.dropPostWait).timer = s.timer ∧ (s.dropPostWait).lines = s.lines ∧
    (s.dropPostWait).receiver = s.receiver ∧ (s.dropPostWait).sched = s.sched ∧ (s.dropPostWait).site = s.site ∧
    (s.dropPostWait).port = s.port ∧ (s.dropPostWait).events = s.events ∧ (s.dropPostWait).freeUsed = s.freeUsed ∧
    (s.dropPostWait).pending = s.pending := by
  first
  | (simp [State.dropPostWait]; done)
  | (unfold State.dropPostWait; split <;> simp; done)
  | (unfold State.dropPostWait; dsimp only; (repeat' split) <;> simp; done)
  | (unfold State.dropPostWait; (repeat' split) <;> (try simp) <;> (repeat' split) <;> simp)

@[simp] theorem State.fillCued_frame (s : State) :
    (s.fillCued).clock = s.clock ∧ (s.fillCued).store = s.store ∧ (s.fillCued).interp = s.interp ∧
    (s.fillCued).timer = s.timer ∧ (s.fillCued).lines = s.lines ∧ (s.fillCued).receiver = s.receiver ∧
    (s.fillCued).sched = s.sched ∧ (s.fillCued).site = s.site ∧ (s.fillCued).port = s.port ∧
    (s.fillCued).events = s.events ∧ (s.fillCued).freeUsed = s.freeUsed ∧ (s.fillCued).pending = s.pending ∧
    (s.fillCued).air.state = s.air.state ∧ (s.fillCued).air.mode = s.air.mode ∧
    (s.fillCued).air.onAir = s.air.onAir ∧ (s.fillCued).air.outgoing = s.air.outgoing ∧
    (s.fillCued).air.preemption = s.air.preemption ∧ (s.fillCued).air.holdDemand = s.air.holdDemand ∧
    (s.fillCued).air.holdAtPoint = s.air.holdAtPoint ∧ (s.fillCued).air.goLatch = s.air.goLatch ∧
    (s.fillCued).air.goLevel = s.air.goLevel ∧ (s.fillCued).air.netALevel = s.air.netALevel ∧
    (s.fillCued).air.netBLevel = s.air.netBLevel ∧ (s.fillCued).air.lastEnding = s.air.lastEnding ∧
    (s.fillCued).air.fillPlayer = s.air.fillPlayer ∧ (s.fillCued).air.fillPending = s.air.fillPending ∧
    (s.fillCued).air.cueGrace = s.air.cueGrace := by
  first
  | (simp [State.fillCued]; done)
  | (unfold State.fillCued; split <;> simp; done)
  | (unfold State.fillCued; dsimp only; (repeat' split) <;> simp; done)
  | (unfold State.fillCued; (repeat' split) <;> (try simp) <;> (repeat' split) <;> simp)

@[simp] theorem State.designate_frame (s : State) (new : Option (Fin 4)) :
    (s.designate new).clock = s.clock ∧ (s.designate new).store = s.store ∧ (s.designate new).interp = s.interp ∧
    (s.designate new).timer = s.timer ∧ (s.designate new).lines = s.lines ∧
    (s.designate new).receiver = s.receiver ∧ (s.designate new).sched = s.sched ∧ (s.designate new).site = s.site ∧
    (s.designate new).port = s.port ∧ (s.designate new).events = s.events ∧
    (s.designate new).freeUsed = s.freeUsed ∧ (s.designate new).pending = s.pending ∧
    (s.designate new).air.state = s.air.state ∧ (s.designate new).air.mode = s.air.mode ∧
    (s.designate new).air.onAir = s.air.onAir ∧ (s.designate new).air.outgoing = s.air.outgoing ∧
    (s.designate new).air.preemption = s.air.preemption ∧ (s.designate new).air.holdDemand = s.air.holdDemand ∧
    (s.designate new).air.holdAtPoint = s.air.holdAtPoint ∧ (s.designate new).air.goLatch = s.air.goLatch ∧
    (s.designate new).air.goLevel = s.air.goLevel ∧ (s.designate new).air.netALevel = s.air.netALevel ∧
    (s.designate new).air.netBLevel = s.air.netBLevel ∧ (s.designate new).air.lastEnding = s.air.lastEnding ∧
    (s.designate new).air.cueGrace = s.air.cueGrace := by
  first
  | (simp [State.designate]; done)
  | (unfold State.designate; split <;> simp; done)
  | (unfold State.designate; dsimp only; (repeat' split) <;> simp; done)
  | (unfold State.designate; (repeat' split) <;> (try simp) <;> (repeat' split) <;> simp)

@[simp] theorem State.applyPending_frame (s : State) (p : Fin 4) :
    (s.applyPending p).clock = s.clock ∧ (s.applyPending p).store = s.store ∧
    (s.applyPending p).interp = s.interp ∧ (s.applyPending p).timer = s.timer ∧
    (s.applyPending p).lines = s.lines ∧ (s.applyPending p).receiver = s.receiver ∧
    (s.applyPending p).sched = s.sched ∧ (s.applyPending p).site = s.site ∧ (s.applyPending p).port = s.port ∧
    (s.applyPending p).events = s.events ∧ (s.applyPending p).freeUsed = s.freeUsed ∧
    (s.applyPending p).pending = s.pending ∧ (s.applyPending p).air.state = s.air.state ∧
    (s.applyPending p).air.mode = s.air.mode ∧ (s.applyPending p).air.onAir = s.air.onAir ∧
    (s.applyPending p).air.outgoing = s.air.outgoing ∧ (s.applyPending p).air.preemption = s.air.preemption ∧
    (s.applyPending p).air.holdDemand = s.air.holdDemand ∧ (s.applyPending p).air.holdAtPoint = s.air.holdAtPoint ∧
    (s.applyPending p).air.goLatch = s.air.goLatch ∧ (s.applyPending p).air.goLevel = s.air.goLevel ∧
    (s.applyPending p).air.netALevel = s.air.netALevel ∧ (s.applyPending p).air.netBLevel = s.air.netBLevel ∧
    (s.applyPending p).air.lastEnding = s.air.lastEnding ∧ (s.applyPending p).air.cueGrace = s.air.cueGrace := by
  first
  | (simp [State.applyPending]; done)
  | (unfold State.applyPending; split <;> simp; done)
  | (unfold State.applyPending; dsimp only; (repeat' split) <;> simp; done)
  | (unfold State.applyPending; (repeat' split) <;> (try simp) <;> (repeat' split) <;> simp)

@[simp] theorem State.endPlayer_frame (s : State) (p : Fin 4) :
    (s.endPlayer p).clock = s.clock ∧ (s.endPlayer p).store = s.store ∧ (s.endPlayer p).interp = s.interp ∧
    (s.endPlayer p).timer = s.timer ∧ (s.endPlayer p).lines = s.lines ∧ (s.endPlayer p).receiver = s.receiver ∧
    (s.endPlayer p).sched = s.sched ∧ (s.endPlayer p).site = s.site ∧ (s.endPlayer p).port = s.port ∧
    (s.endPlayer p).events = s.events ∧ (s.endPlayer p).freeUsed = s.freeUsed ∧
    (s.endPlayer p).pending = s.pending ∧ (s.endPlayer p).air.state = s.air.state ∧
    (s.endPlayer p).air.mode = s.air.mode ∧ (s.endPlayer p).air.onAir = s.air.onAir ∧
    (s.endPlayer p).air.outgoing = s.air.outgoing ∧ (s.endPlayer p).air.preemption = s.air.preemption ∧
    (s.endPlayer p).air.holdDemand = s.air.holdDemand ∧ (s.endPlayer p).air.holdAtPoint = s.air.holdAtPoint ∧
    (s.endPlayer p).air.goLatch = s.air.goLatch ∧ (s.endPlayer p).air.goLevel = s.air.goLevel ∧
    (s.endPlayer p).air.netALevel = s.air.netALevel ∧ (s.endPlayer p).air.netBLevel = s.air.netBLevel ∧
    (s.endPlayer p).air.lastEnding = s.air.lastEnding ∧ (s.endPlayer p).air.cueGrace = s.air.cueGrace := by
  unfold State.endPlayer; (repeat' split) <;> simp

@[simp] theorem State.startCarriage_frame (s : State) (k : Fin 8) (way : Way) :
    (s.startCarriage k way).clock = s.clock ∧ (s.startCarriage k way).store = s.store ∧
    (s.startCarriage k way).bus = s.bus ∧ (s.startCarriage k way).port = s.port ∧
    (s.startCarriage k way).freeUsed = s.freeUsed ∧ (s.startCarriage k way).pending = s.pending := by
  first
  | (simp [State.startCarriage]; done)
  | (unfold State.startCarriage; split <;> simp; done)
  | (unfold State.startCarriage; dsimp only; (repeat' split) <;> simp; done)
  | (unfold State.startCarriage; (repeat' split) <;> (try simp) <;> (repeat' split) <;> simp)

@[simp] theorem State.enterState_frame (s : State) (a : AirState) :
    (s.enterState a).clock = s.clock ∧ (s.enterState a).store = s.store ∧ (s.enterState a).interp = s.interp ∧
    (s.enterState a).timer = s.timer ∧ (s.enterState a).lines = s.lines ∧ (s.enterState a).receiver = s.receiver ∧
    (s.enterState a).sched = s.sched ∧ (s.enterState a).site = s.site ∧ (s.enterState a).port = s.port ∧
    (s.enterState a).events = s.events ∧ (s.enterState a).freeUsed = s.freeUsed ∧
    (s.enterState a).pending = s.pending ∧ (s.enterState a).air.mode = s.air.mode ∧
    (s.enterState a).air.onAir = s.air.onAir ∧ (s.enterState a).air.outgoing = s.air.outgoing ∧
    (s.enterState a).air.preemption = s.air.preemption ∧ (s.enterState a).air.holdDemand = s.air.holdDemand ∧
    (s.enterState a).air.holdAtPoint = s.air.holdAtPoint ∧ (s.enterState a).air.goLevel = s.air.goLevel ∧
    (s.enterState a).air.netALevel = s.air.netALevel ∧ (s.enterState a).air.netBLevel = s.air.netBLevel ∧
    (s.enterState a).air.lastEnding = s.air.lastEnding ∧ (s.enterState a).air.fillPlayer = s.air.fillPlayer ∧
    (s.enterState a).air.fillPending = s.air.fillPending ∧ (s.enterState a).air.cueGrace = s.air.cueGrace := by
  first
  | (simp [State.enterState]; done)
  | (unfold State.enterState; split <;> simp; done)
  | (unfold State.enterState; dsimp only; (repeat' split) <;> simp; done)
  | (unfold State.enterState; (repeat' split) <;> (try simp) <;> (repeat' split) <;> simp)

@[simp] theorem State.entryStarted_frame (s : State) :
    (s.entryStarted).clock = s.clock ∧ (s.entryStarted).store = s.store ∧ (s.entryStarted).bus = s.bus ∧
    (s.entryStarted).lines = s.lines ∧ (s.entryStarted).receiver = s.receiver ∧ (s.entryStarted).sched = s.sched ∧
    (s.entryStarted).site = s.site ∧ (s.entryStarted).port = s.port ∧ (s.entryStarted).freeUsed = s.freeUsed ∧
    (s.entryStarted).pending = s.pending ∧ (s.entryStarted).air.state = s.air.state ∧
    (s.entryStarted).air.mode = s.air.mode ∧ (s.entryStarted).air.onAir = s.air.onAir ∧
    (s.entryStarted).air.outgoing = s.air.outgoing ∧ (s.entryStarted).air.preemption = s.air.preemption ∧
    (s.entryStarted).air.holdDemand = s.air.holdDemand ∧ (s.entryStarted).air.holdAtPoint = s.air.holdAtPoint ∧
    (s.entryStarted).air.goLevel = s.air.goLevel ∧ (s.entryStarted).air.netALevel = s.air.netALevel ∧
    (s.entryStarted).air.netBLevel = s.air.netBLevel ∧ (s.entryStarted).air.lastEnding = s.air.lastEnding ∧
    (s.entryStarted).air.players = s.air.players ∧ (s.entryStarted).air.fillPlayer = s.air.fillPlayer ∧
    (s.entryStarted).air.fillPending = s.air.fillPending ∧ (s.entryStarted).air.cueGrace = s.air.cueGrace ∧
    (s.entryStarted).events.mask = s.events.mask := by
  first
  | (simp [State.entryStarted]; done)
  | (unfold State.entryStarted; split <;> simp; done)
  | (unfold State.entryStarted; dsimp only; (repeat' split) <;> simp; done)
  | (unfold State.entryStarted; (repeat' split) <;> (try simp) <;> (repeat' split) <;> simp)

@[simp] theorem State.bindPlayer_frame (s : State) (o : OnAir) (p : Fin 4) :
    (s.bindPlayer o p).clock = s.clock ∧ (s.bindPlayer o p).store = s.store ∧ (s.bindPlayer o p).bus = s.bus ∧
    (s.bindPlayer o p).lines = s.lines ∧ (s.bindPlayer o p).receiver = s.receiver ∧
    (s.bindPlayer o p).sched = s.sched ∧ (s.bindPlayer o p).site = s.site ∧ (s.bindPlayer o p).port = s.port ∧
    (s.bindPlayer o p).freeUsed = s.freeUsed ∧ (s.bindPlayer o p).pending = s.pending ∧
    (s.bindPlayer o p).air.state = s.air.state ∧ (s.bindPlayer o p).air.mode = s.air.mode ∧
    (s.bindPlayer o p).air.outgoing = s.air.outgoing ∧ (s.bindPlayer o p).air.preemption = s.air.preemption ∧
    (s.bindPlayer o p).air.holdDemand = s.air.holdDemand ∧ (s.bindPlayer o p).air.holdAtPoint = s.air.holdAtPoint ∧
    (s.bindPlayer o p).air.lastEnding = s.air.lastEnding ∧ (s.bindPlayer o p).air.fillPlayer = s.air.fillPlayer ∧
    (s.bindPlayer o p).air.fillPending = s.air.fillPending ∧ (s.bindPlayer o p).events.mask = s.events.mask := by
  unfold State.bindPlayer; (repeat' split) <;> simp

@[simp] theorem State.takeHeld_frame (s : State) (r : Resolved) (phase : Phase) :
    (s.takeHeld r phase).clock = s.clock ∧ (s.takeHeld r phase).store = s.store ∧
    (s.takeHeld r phase).timer = s.timer ∧ (s.takeHeld r phase).lines = s.lines ∧
    (s.takeHeld r phase).receiver = s.receiver ∧ (s.takeHeld r phase).sched = s.sched ∧
    (s.takeHeld r phase).site = s.site ∧ (s.takeHeld r phase).port = s.port ∧
    (s.takeHeld r phase).events = s.events ∧ (s.takeHeld r phase).freeUsed = s.freeUsed ∧
    (s.takeHeld r phase).pending = s.pending := by
  first
  | (simp [State.takeHeld]; done)
  | (unfold State.takeHeld; split <;> simp; done)
  | (unfold State.takeHeld; dsimp only; (repeat' split) <;> simp; done)
  | (unfold State.takeHeld; (repeat' split) <;> (try simp) <;> (repeat' split) <;> simp)

@[simp] theorem State.startPlain_frame (s : State) (timed : Bool) :
    (s.startPlain timed).clock = s.clock ∧ (s.startPlain timed).store = s.store ∧
    (s.startPlain timed).bus = s.bus ∧ (s.startPlain timed).lines = s.lines ∧
    (s.startPlain timed).receiver = s.receiver ∧ (s.startPlain timed).sched = s.sched ∧
    (s.startPlain timed).site = s.site ∧ (s.startPlain timed).port = s.port ∧
    (s.startPlain timed).freeUsed = s.freeUsed ∧ (s.startPlain timed).pending = s.pending ∧
    (s.startPlain timed).air.state = s.air.state ∧ (s.startPlain timed).air.mode = s.air.mode ∧
    (s.startPlain timed).air.outgoing = s.air.outgoing ∧ (s.startPlain timed).air.players = s.air.players ∧
    (s.startPlain timed).air.holdDemand = s.air.holdDemand ∧ (s.startPlain timed).air.fillPlayer = s.air.fillPlayer := by
  unfold State.startPlain; (repeat' split) <;> simp

@[simp] theorem State.releaseWith_frame (s : State) (e : Option Ending) (mayPlace : Bool) :
    (s.releaseWith e mayPlace).clock = s.clock ∧ (s.releaseWith e mayPlace).bus = s.bus ∧
    (s.releaseWith e mayPlace).lines = s.lines ∧ (s.releaseWith e mayPlace).receiver = s.receiver ∧
    (s.releaseWith e mayPlace).sched = s.sched ∧ (s.releaseWith e mayPlace).site = s.site ∧
    (s.releaseWith e mayPlace).port = s.port ∧ (s.releaseWith e mayPlace).freeUsed = s.freeUsed ∧
    (s.releaseWith e mayPlace).pending = s.pending ∧ (s.releaseWith e mayPlace).air.state = s.air.state ∧
    (s.releaseWith e mayPlace).air.mode = s.air.mode ∧ (s.releaseWith e mayPlace).air.onAir = s.air.onAir ∧
    (s.releaseWith e mayPlace).air.outgoing = s.air.outgoing ∧
    (s.releaseWith e mayPlace).air.preemption = s.air.preemption ∧
    (s.releaseWith e mayPlace).air.holdDemand = s.air.holdDemand ∧
    (s.releaseWith e mayPlace).air.holdAtPoint = s.air.holdAtPoint ∧
    (s.releaseWith e mayPlace).air.goLatch = s.air.goLatch ∧
    (s.releaseWith e mayPlace).air.goLevel = s.air.goLevel ∧
    (s.releaseWith e mayPlace).air.netALevel = s.air.netALevel ∧
    (s.releaseWith e mayPlace).air.netBLevel = s.air.netBLevel ∧
    (s.releaseWith e mayPlace).air.players = s.air.players ∧
    (s.releaseWith e mayPlace).air.fillPlayer = s.air.fillPlayer ∧
    (s.releaseWith e mayPlace).air.fillPending = s.air.fillPending ∧
    (s.releaseWith e mayPlace).air.cueGrace = s.air.cueGrace ∧
    (s.releaseWith e mayPlace).timer.tolerance = s.timer.tolerance ∧
    (s.releaseWith e mayPlace).timer.periodicAt = s.timer.periodicAt ∧
    (s.releaseWith e mayPlace).events.mask = s.events.mask := by
  unfold State.releaseWith; cases e <;> (split; · simp) <;> dsimp only <;> (try split) <;> simp

@[simp] theorem State.endRecord_frame (s : State) (e : Ending) :
    (s.endRecord e).clock = s.clock ∧ (s.endRecord e).bus = s.bus ∧ (s.endRecord e).lines = s.lines ∧
    (s.endRecord e).receiver = s.receiver ∧ (s.endRecord e).sched = s.sched ∧ (s.endRecord e).site = s.site ∧
    (s.endRecord e).port = s.port ∧ (s.endRecord e).freeUsed = s.freeUsed ∧ (s.endRecord e).pending = s.pending := by
  first
  | (simp [State.endRecord]; done)
  | (unfold State.endRecord; split <;> simp; done)
  | (unfold State.endRecord; dsimp only; (repeat' split) <;> simp; done)
  | (unfold State.endRecord; (repeat' split) <;> (try simp) <;> (repeat' split) <;> simp)

@[simp] theorem State.stopParts_frame (s : State) (o : OnAir) :
    (s.stopParts o).clock = s.clock ∧ (s.stopParts o).store = s.store ∧ (s.stopParts o).interp = s.interp ∧
    (s.stopParts o).timer = s.timer ∧ (s.stopParts o).receiver = s.receiver ∧ (s.stopParts o).sched = s.sched ∧
    (s.stopParts o).site = s.site ∧ (s.stopParts o).port = s.port ∧ (s.stopParts o).events = s.events ∧
    (s.stopParts o).freeUsed = s.freeUsed ∧ (s.stopParts o).pending = s.pending ∧
    (s.stopParts o).air.state = s.air.state ∧ (s.stopParts o).air.mode = s.air.mode ∧
    (s.stopParts o).air.onAir = s.air.onAir ∧ (s.stopParts o).air.outgoing = s.air.outgoing ∧
    (s.stopParts o).air.preemption = s.air.preemption ∧ (s.stopParts o).air.holdDemand = s.air.holdDemand ∧
    (s.stopParts o).air.holdAtPoint = s.air.holdAtPoint ∧ (s.stopParts o).air.goLatch = s.air.goLatch ∧
    (s.stopParts o).air.goLevel = s.air.goLevel ∧ (s.stopParts o).air.netALevel = s.air.netALevel ∧
    (s.stopParts o).air.netBLevel = s.air.netBLevel ∧ (s.stopParts o).air.lastEnding = s.air.lastEnding ∧
    (s.stopParts o).air.cueGrace = s.air.cueGrace := by
  first
  | (simp [State.stopParts]; done)
  | (unfold State.stopParts; split <;> simp; done)
  | (unfold State.stopParts; dsimp only; (repeat' split) <;> simp; done)
  | (unfold State.stopParts; (repeat' split) <;> (try simp) <;> (repeat' split) <;> simp)

@[simp] theorem State.cutParts_frame (s : State) (o : OnAir) :
    (s.cutParts o).clock = s.clock ∧ (s.cutParts o).store = s.store ∧ (s.cutParts o).interp = s.interp ∧
    (s.cutParts o).air = s.air ∧ (s.cutParts o).timer = s.timer ∧ (s.cutParts o).receiver = s.receiver ∧
    (s.cutParts o).sched = s.sched ∧ (s.cutParts o).site = s.site ∧ (s.cutParts o).port = s.port ∧
    (s.cutParts o).events = s.events ∧ (s.cutParts o).freeUsed = s.freeUsed ∧ (s.cutParts o).pending = s.pending := by
  first
  | (simp [State.cutParts]; done)
  | (unfold State.cutParts; split <;> simp; done)
  | (unfold State.cutParts; dsimp only; (repeat' split) <;> simp; done)
  | (unfold State.cutParts; (repeat' split) <;> (try simp) <;> (repeat' split) <;> simp)

@[simp] theorem State.cutOutgoing_frame (s : State) :
    (s.cutOutgoing).clock = s.clock ∧ (s.cutOutgoing).lines = s.lines ∧ (s.cutOutgoing).receiver = s.receiver ∧
    (s.cutOutgoing).sched = s.sched ∧ (s.cutOutgoing).site = s.site ∧ (s.cutOutgoing).port = s.port ∧
    (s.cutOutgoing).freeUsed = s.freeUsed ∧ (s.cutOutgoing).pending = s.pending := by
  first
  | (simp [State.cutOutgoing]; done)
  | (unfold State.cutOutgoing; split <;> simp; done)
  | (unfold State.cutOutgoing; dsimp only; (repeat' split) <;> simp; done)
  | (unfold State.cutOutgoing; (repeat' split) <;> (try simp) <;> (repeat' split) <;> simp)

@[simp] theorem State.releaseBefore_frame (n : Nat) (w : Watch) (s : State) :
    (State.releaseBefore n w s).clock = s.clock ∧ (State.releaseBefore n w s).bus = s.bus ∧
    (State.releaseBefore n w s).lines = s.lines ∧ (State.releaseBefore n w s).receiver = s.receiver ∧
    (State.releaseBefore n w s).sched = s.sched ∧ (State.releaseBefore n w s).site = s.site ∧
    (State.releaseBefore n w s).port = s.port ∧ (State.releaseBefore n w s).freeUsed = s.freeUsed ∧
    (State.releaseBefore n w s).pending = s.pending := by
  induction n generalizing s with
  | zero => simp [State.releaseBefore]
  | succ n ih => unfold State.releaseBefore; (repeat' split) <;> simp [ih]

@[simp] theorem State.cutOnAir_frame (s : State) (mayPlace : Bool) :
    (s.cutOnAir mayPlace).clock = s.clock ∧ (s.cutOnAir mayPlace).receiver = s.receiver ∧
    (s.cutOnAir mayPlace).sched = s.sched ∧ (s.cutOnAir mayPlace).site = s.site ∧
    (s.cutOnAir mayPlace).port = s.port ∧ (s.cutOnAir mayPlace).freeUsed = s.freeUsed ∧
    (s.cutOnAir mayPlace).pending = s.pending := by
  first
  | (simp [State.cutOnAir]; done)
  | (unfold State.cutOnAir; split <;> simp; done)
  | (unfold State.cutOnAir; dsimp only; (repeat' split) <;> simp; done)
  | (unfold State.cutOnAir; (repeat' split) <;> (try simp) <;> (repeat' split) <;> simp)

@[simp] theorem State.takeAlert_frame (s : State) (r : Resolved) (p : AlertPart) :
    (s.takeAlert r p).clock = s.clock ∧ (s.takeAlert r p).store = s.store ∧ (s.takeAlert r p).timer = s.timer ∧
    (s.takeAlert r p).lines = s.lines ∧ (s.takeAlert r p).receiver = s.receiver ∧
    (s.takeAlert r p).sched = s.sched ∧ (s.takeAlert r p).site = s.site ∧ (s.takeAlert r p).port = s.port ∧
    (s.takeAlert r p).events = s.events ∧ (s.takeAlert r p).freeUsed = s.freeUsed ∧
    (s.takeAlert r p).pending = s.pending := by
  first
  | (simp [State.takeAlert]; done)
  | (unfold State.takeAlert; split <;> simp; done)
  | (unfold State.takeAlert; dsimp only; (repeat' split) <;> simp; done)
  | (unfold State.takeAlert; (repeat' split) <;> (try simp) <;> (repeat' split) <;> simp)

@[simp] theorem State.missed_frame (s : State) :
    (s.missed).clock = s.clock ∧ (s.missed).bus = s.bus ∧ (s.missed).lines = s.lines ∧
    (s.missed).receiver = s.receiver ∧ (s.missed).sched = s.sched ∧ (s.missed).site = s.site ∧
    (s.missed).port = s.port ∧ (s.missed).freeUsed = s.freeUsed ∧ (s.missed).pending = s.pending := by
  first
  | (simp [State.missed]; done)
  | (unfold State.missed; split <;> simp; done)
  | (unfold State.missed; dsimp only; (repeat' split) <;> simp; done)
  | (unfold State.missed; (repeat' split) <;> (try simp) <;> (repeat' split) <;> simp)

@[simp] theorem State.enterWaitGo_frame (s : State) :
    (s.enterWaitGo).clock = s.clock ∧ (s.enterWaitGo).store = s.store ∧ (s.enterWaitGo).interp = s.interp ∧
    (s.enterWaitGo).timer = s.timer ∧ (s.enterWaitGo).lines = s.lines ∧ (s.enterWaitGo).receiver = s.receiver ∧
    (s.enterWaitGo).sched = s.sched ∧ (s.enterWaitGo).site = s.site ∧ (s.enterWaitGo).port = s.port ∧
    (s.enterWaitGo).events = s.events ∧ (s.enterWaitGo).freeUsed = s.freeUsed ∧ (s.enterWaitGo).pending = s.pending := by
  first
  | (simp [State.enterWaitGo]; done)
  | (unfold State.enterWaitGo; split <;> simp; done)
  | (unfold State.enterWaitGo; dsimp only; (repeat' split) <;> simp; done)
  | (unfold State.enterWaitGo; (repeat' split) <;> (try simp) <;> (repeat' split) <;> simp)

@[simp] theorem State.offerCues_frame (s : State) :
    (s.offerCues).clock = s.clock ∧ (s.offerCues).store = s.store ∧ (s.offerCues).bus = s.bus ∧
    (s.offerCues).lines = s.lines ∧ (s.offerCues).receiver = s.receiver ∧ (s.offerCues).sched = s.sched ∧
    (s.offerCues).site = s.site ∧ (s.offerCues).port = s.port ∧ (s.offerCues).freeUsed = s.freeUsed ∧
    (s.offerCues).pending = s.pending ∧ (s.offerCues).air.state = s.air.state ∧
    (s.offerCues).air.mode = s.air.mode ∧ (s.offerCues).air.outgoing = s.air.outgoing ∧
    (s.offerCues).air.preemption = s.air.preemption ∧ (s.offerCues).air.holdDemand = s.air.holdDemand ∧
    (s.offerCues).air.holdAtPoint = s.air.holdAtPoint ∧ (s.offerCues).air.lastEnding = s.air.lastEnding ∧
    (s.offerCues).air.fillPlayer = s.air.fillPlayer ∧ (s.offerCues).air.fillPending = s.air.fillPending ∧
    (s.offerCues).events.mask = s.events.mask := by
  first
  | (simp [State.offerCues]; done)
  | (unfold State.offerCues; split <;> simp; done)
  | (unfold State.offerCues; dsimp only; (repeat' split) <;> simp; done)
  | (unfold State.offerCues; (repeat' split) <;> (try simp) <;> (repeat' split) <;> simp)

@[simp] theorem State.yieldAir_frame (s : State) :
    (s.yieldAir).clock = s.clock ∧ (s.yieldAir).receiver = s.receiver ∧ (s.yieldAir).sched = s.sched ∧
    (s.yieldAir).site = s.site ∧ (s.yieldAir).port = s.port ∧ (s.yieldAir).freeUsed = s.freeUsed ∧
    (s.yieldAir).pending = s.pending := by
  first
  | (simp [State.yieldAir]; done)
  | (unfold State.yieldAir; split <;> simp; done)
  | (unfold State.yieldAir; dsimp only; (repeat' split) <;> simp; done)
  | (unfold State.yieldAir; (repeat' split) <;> (try simp) <;> (repeat' split) <;> simp)

@[simp] theorem State.preempt_frame (s : State) :
    (s.preempt).clock = s.clock ∧ (s.preempt).receiver = s.receiver ∧ (s.preempt).sched = s.sched ∧
    (s.preempt).site = s.site ∧ (s.preempt).port = s.port ∧ (s.preempt).freeUsed = s.freeUsed ∧
    (s.preempt).pending = s.pending := by
  first
  | (simp [State.preempt]; done)
  | (unfold State.preempt; split <;> simp; done)
  | (unfold State.preempt; dsimp only; (repeat' split) <;> simp; done)
  | (unfold State.preempt; (repeat' split) <;> (try simp) <;> (repeat' split) <;> simp)

@[simp] theorem State.offer_frame (s : State) :
    (s.offer).clock = s.clock ∧ (s.offer).port = s.port ∧ (s.offer).freeUsed = s.freeUsed ∧
    (s.offer).pending = s.pending := by
  first
  | (simp [State.offer]; done)
  | (unfold State.offer; split <;> simp; done)
  | (unfold State.offer; dsimp only; (repeat' split) <;> simp; done)
  | (unfold State.offer; (repeat' split) <;> (try simp) <;> (repeat' split) <;> simp)

@[simp] theorem State.withdrawPlaced_frame (s : State) (k : Fin 8) :
    (s.withdrawPlaced k).clock = s.clock ∧ (s.withdrawPlaced k).store = s.store ∧
    (s.withdrawPlaced k).bus = s.bus ∧ (s.withdrawPlaced k).lines = s.lines ∧
    (s.withdrawPlaced k).receiver = s.receiver ∧ (s.withdrawPlaced k).site = s.site ∧
    (s.withdrawPlaced k).port = s.port ∧ (s.withdrawPlaced k).freeUsed = s.freeUsed ∧
    (s.withdrawPlaced k).pending = s.pending := by
  first
  | (simp [State.withdrawPlaced]; done)
  | (unfold State.withdrawPlaced; split <;> simp; done)
  | (unfold State.withdrawPlaced; dsimp only; (repeat' split) <;> simp; done)
  | (unfold State.withdrawPlaced; (repeat' split) <;> (try simp) <;> (repeat' split) <;> simp)

@[simp] theorem State.passDeadline_frame (s : State) (k : Fin 8) :
    (s.passDeadline k).clock = s.clock ∧ (s.passDeadline k).store = s.store ∧ (s.passDeadline k).bus = s.bus ∧
    (s.passDeadline k).lines = s.lines ∧ (s.passDeadline k).receiver = s.receiver ∧
    (s.passDeadline k).site = s.site ∧ (s.passDeadline k).port = s.port ∧
    (s.passDeadline k).freeUsed = s.freeUsed ∧ (s.passDeadline k).pending = s.pending := by
  first
  | (simp [State.passDeadline]; done)
  | (unfold State.passDeadline; split <;> simp; done)
  | (unfold State.passDeadline; dsimp only; (repeat' split) <;> simp; done)
  | (unfold State.passDeadline; (repeat' split) <;> (try simp) <;> (repeat' split) <;> simp)

@[simp] theorem State.expireDeadline_frame (s : State) (k : Fin 8) :
    (s.expireDeadline k).clock = s.clock ∧ (s.expireDeadline k).port = s.port ∧
    (s.expireDeadline k).freeUsed = s.freeUsed ∧ (s.expireDeadline k).pending = s.pending := by
  first
  | (simp [State.expireDeadline]; done)
  | (unfold State.expireDeadline; split <;> simp; done)
  | (unfold State.expireDeadline; dsimp only; (repeat' split) <;> simp; done)
  | (unfold State.expireDeadline; (repeat' split) <;> (try simp) <;> (repeat' split) <;> simp)

@[simp] theorem State.clearEntry_frame (s : State) (k : Fin 8) :
    (s.clearEntry k).clock = s.clock ∧ (s.clearEntry k).store = s.store ∧ (s.clearEntry k).bus = s.bus ∧
    (s.clearEntry k).lines = s.lines ∧ (s.clearEntry k).receiver = s.receiver ∧ (s.clearEntry k).site = s.site ∧
    (s.clearEntry k).port = s.port ∧ (s.clearEntry k).freeUsed = s.freeUsed ∧ (s.clearEntry k).pending = s.pending := by
  first
  | (simp [State.clearEntry]; done)
  | (unfold State.clearEntry; split <;> simp; done)
  | (unfold State.clearEntry; dsimp only; (repeat' split) <;> simp; done)
  | (unfold State.clearEntry; (repeat' split) <;> (try simp) <;> (repeat' split) <;> simp)

@[simp] theorem State.waitAgain_frame (s : State) (k : Fin 8) (a : Alert) (e : Eligibility) (next : Option Nat) :
    (s.waitAgain k a e next).clock = s.clock ∧ (s.waitAgain k a e next).store = s.store ∧
    (s.waitAgain k a e next).interp = s.interp ∧ (s.waitAgain k a e next).air = s.air ∧
    (s.waitAgain k a e next).timer = s.timer ∧ (s.waitAgain k a e next).bus = s.bus ∧
    (s.waitAgain k a e next).lines = s.lines ∧ (s.waitAgain k a e next).site = s.site ∧
    (s.waitAgain k a e next).port = s.port ∧ (s.waitAgain k a e next).events = s.events ∧
    (s.waitAgain k a e next).freeUsed = s.freeUsed ∧ (s.waitAgain k a e next).pending = s.pending := by
  first
  | (simp [State.waitAgain]; done)
  | (unfold State.waitAgain; split <;> simp; done)
  | (unfold State.waitAgain; dsimp only; (repeat' split) <;> simp; done)
  | (unfold State.waitAgain; (repeat' split) <;> (try simp) <;> (repeat' split) <;> simp)

@[simp] theorem State.alertStart_frame (s : State) (b : Byte) :
    (s.alertStart b).clock = s.clock ∧ (s.alertStart b).store = s.store ∧ (s.alertStart b).interp = s.interp ∧
    (s.alertStart b).air = s.air ∧ (s.alertStart b).timer = s.timer ∧ (s.alertStart b).bus = s.bus ∧
    (s.alertStart b).lines = s.lines ∧ (s.alertStart b).sched = s.sched ∧ (s.alertStart b).site = s.site ∧
    (s.alertStart b).port = s.port ∧ (s.alertStart b).events = s.events ∧ (s.alertStart b).freeUsed = s.freeUsed ∧
    (s.alertStart b).pending = s.pending := by
  first
  | (simp [State.alertStart]; done)
  | (unfold State.alertStart; split <;> simp; done)
  | (unfold State.alertStart; dsimp only; (repeat' split) <;> simp; done)
  | (unfold State.alertStart; (repeat' split) <;> (try simp) <;> (repeat' split) <;> simp)

@[simp] theorem State.expireMoved_frame (c : Nat) (s : State) :
    (State.expireMoved c s).clock = s.clock ∧ (State.expireMoved c s).port = s.port ∧
    (State.expireMoved c s).freeUsed = s.freeUsed ∧ (State.expireMoved c s).pending = s.pending := by
  have hf : ∀ (t : State) (b : Bool) (k : Fin 8),
      (if b then t.expireDeadline k else t).clock = t.clock ∧ (if b then t.expireDeadline k else t).port = t.port ∧
      (if b then t.expireDeadline k else t).freeUsed = t.freeUsed ∧
      (if b then t.expireDeadline k else t).pending = t.pending := by
    intro t b k; split <;> simp
  exact ⟨foldl_clock (fun t k => (hf t _ k).1) _ _, foldl_port (fun t k => (hf t _ k).2.1) _ _,
    foldl_freeUsed (fun t k => (hf t _ k).2.2.1) _ _, foldl_pending (fun t k => (hf t _ k).2.2.2) _ _⟩

@[simp] theorem State.handleAck_frame (s : State) (sequence param value : Nat) :
    (s.handleAck sequence param value).clock = s.clock ∧ (s.handleAck sequence param value).store = s.store ∧
    (s.handleAck sequence param value).interp = s.interp ∧ (s.handleAck sequence param value).air = s.air ∧
    (s.handleAck sequence param value).timer = s.timer ∧ (s.handleAck sequence param value).bus = s.bus ∧
    (s.handleAck sequence param value).lines = s.lines ∧ (s.handleAck sequence param value).receiver = s.receiver ∧
    (s.handleAck sequence param value).sched = s.sched ∧ (s.handleAck sequence param value).port = s.port ∧
    (s.handleAck sequence param value).freeUsed = s.freeUsed ∧
    (s.handleAck sequence param value).pending = s.pending := by
  first
  | (simp [State.handleAck]; done)
  | (unfold State.handleAck; split <;> simp; done)
  | (unfold State.handleAck; dsimp only; (repeat' split) <;> simp; done)
  | (unfold State.handleAck; (repeat' split) <;> (try simp) <;> (repeat' split) <;> simp)

@[simp] theorem State.handleNak_frame (s : State) (sequence reason : Nat) :
    (s.handleNak sequence reason).clock = s.clock ∧ (s.handleNak sequence reason).store = s.store ∧
    (s.handleNak sequence reason).interp = s.interp ∧ (s.handleNak sequence reason).air = s.air ∧
    (s.handleNak sequence reason).timer = s.timer ∧ (s.handleNak sequence reason).bus = s.bus ∧
    (s.handleNak sequence reason).lines = s.lines ∧ (s.handleNak sequence reason).receiver = s.receiver ∧
    (s.handleNak sequence reason).sched = s.sched ∧ (s.handleNak sequence reason).port = s.port ∧
    (s.handleNak sequence reason).freeUsed = s.freeUsed ∧ (s.handleNak sequence reason).pending = s.pending := by
  first
  | (simp [State.handleNak]; done)
  | (unfold State.handleNak; split <;> simp; done)
  | (unfold State.handleNak; dsimp only; (repeat' split) <;> simp; done)
  | (unfold State.handleNak; (repeat' split) <;> (try simp) <;> (repeat' split) <;> simp)

@[simp] theorem State.foldBack_frame (s : State) :
    (s.foldBack).clock = s.clock ∧ (s.foldBack).store = s.store ∧ (s.foldBack).interp = s.interp ∧
    (s.foldBack).air = s.air ∧ (s.foldBack).timer = s.timer ∧ (s.foldBack).bus = s.bus ∧
    (s.foldBack).lines = s.lines ∧ (s.foldBack).receiver = s.receiver ∧ (s.foldBack).sched = s.sched ∧
    (s.foldBack).port = s.port ∧ (s.foldBack).freeUsed = s.freeUsed ∧ (s.foldBack).pending = s.pending := by
  first
  | (simp [State.foldBack]; done)
  | (unfold State.foldBack; split <;> simp; done)
  | (unfold State.foldBack; dsimp only; (repeat' split) <;> simp; done)
  | (unfold State.foldBack; (repeat' split) <;> (try simp) <;> (repeat' split) <;> simp)

@[simp] theorem State.foldCheck_frame (s : State) :
    (s.foldCheck).clock = s.clock ∧ (s.foldCheck).store = s.store ∧ (s.foldCheck).interp = s.interp ∧
    (s.foldCheck).air = s.air ∧ (s.foldCheck).timer = s.timer ∧ (s.foldCheck).bus = s.bus ∧
    (s.foldCheck).lines = s.lines ∧ (s.foldCheck).receiver = s.receiver ∧ (s.foldCheck).sched = s.sched ∧
    (s.foldCheck).port = s.port ∧ (s.foldCheck).freeUsed = s.freeUsed ∧ (s.foldCheck).pending = s.pending := by
  first
  | (simp [State.foldCheck]; done)
  | (unfold State.foldCheck; split <;> simp; done)
  | (unfold State.foldCheck; dsimp only; (repeat' split) <;> simp; done)
  | (unfold State.foldCheck; (repeat' split) <;> (try simp) <;> (repeat' split) <;> simp)

@[simp] theorem State.handleReading_frame (s : State) (sequence channel code : Nat) :
    (s.handleReading sequence channel code).clock = s.clock ∧
    (s.handleReading sequence channel code).store = s.store ∧
    (s.handleReading sequence channel code).interp = s.interp ∧
    (s.handleReading sequence channel code).air = s.air ∧ (s.handleReading sequence channel code).timer = s.timer ∧
    (s.handleReading sequence channel code).bus = s.bus ∧ (s.handleReading sequence channel code).lines = s.lines ∧
    (s.handleReading sequence channel code).receiver = s.receiver ∧
    (s.handleReading sequence channel code).sched = s.sched ∧
    (s.handleReading sequence channel code).port = s.port ∧
    (s.handleReading sequence channel code).freeUsed = s.freeUsed ∧
    (s.handleReading sequence channel code).pending = s.pending := by
  first
  | (simp [State.handleReading]; done)
  | (unfold State.handleReading; split <;> simp; done)
  | (unfold State.handleReading; dsimp only; (repeat' split) <;> simp; done)
  | (unfold State.handleReading; (repeat' split) <;> (try simp) <;> (repeat' split) <;> simp)

@[simp] theorem State.reportParam_frame (s : State) (p : Param) (v : Option Nat) :
    (s.reportParam p v).clock = s.clock ∧ (s.reportParam p v).store = s.store ∧
    (s.reportParam p v).interp = s.interp ∧ (s.reportParam p v).air = s.air ∧ (s.reportParam p v).timer = s.timer ∧
    (s.reportParam p v).bus = s.bus ∧ (s.reportParam p v).lines = s.lines ∧
    (s.reportParam p v).receiver = s.receiver ∧ (s.reportParam p v).sched = s.sched ∧
    (s.reportParam p v).port = s.port ∧ (s.reportParam p v).events = s.events ∧
    (s.reportParam p v).freeUsed = s.freeUsed ∧ (s.reportParam p v).pending = s.pending := by
  first
  | (simp [State.reportParam]; done)
  | (unfold State.reportParam; split <;> simp; done)
  | (unfold State.reportParam; dsimp only; (repeat' split) <;> simp; done)
  | (unfold State.reportParam; (repeat' split) <;> (try simp) <;> (repeat' split) <;> simp)

@[simp] theorem State.writeReport_frame (s : State) (r : SiteReport) :
    (s.writeReport r).clock = s.clock ∧ (s.writeReport r).store = s.store ∧ (s.writeReport r).interp = s.interp ∧
    (s.writeReport r).air = s.air ∧ (s.writeReport r).timer = s.timer ∧ (s.writeReport r).bus = s.bus ∧
    (s.writeReport r).lines = s.lines ∧ (s.writeReport r).receiver = s.receiver ∧
    (s.writeReport r).sched = s.sched ∧ (s.writeReport r).port = s.port ∧ (s.writeReport r).events = s.events ∧
    (s.writeReport r).freeUsed = s.freeUsed ∧ (s.writeReport r).pending = s.pending := by
  first
  | (simp [State.writeReport]; done)
  | (unfold State.writeReport; split <;> simp; done)
  | (unfold State.writeReport; dsimp only; (repeat' split) <;> simp; done)
  | (unfold State.writeReport; (repeat' split) <;> (try simp) <;> (repeat' split) <;> simp)

@[simp] theorem State.handleState_frame (s : State) (active carrier audio fallback : Nat) :
    (s.handleState active carrier audio fallback).clock = s.clock ∧
    (s.handleState active carrier audio fallback).store = s.store ∧
    (s.handleState active carrier audio fallback).interp = s.interp ∧
    (s.handleState active carrier audio fallback).air = s.air ∧
    (s.handleState active carrier audio fallback).timer = s.timer ∧
    (s.handleState active carrier audio fallback).bus = s.bus ∧
    (s.handleState active carrier audio fallback).lines = s.lines ∧
    (s.handleState active carrier audio fallback).receiver = s.receiver ∧
    (s.handleState active carrier audio fallback).sched = s.sched ∧
    (s.handleState active carrier audio fallback).port = s.port ∧
    (s.handleState active carrier audio fallback).events = s.events ∧
    (s.handleState active carrier audio fallback).freeUsed = s.freeUsed ∧
    (s.handleState active carrier audio fallback).pending = s.pending := by
  first
  | (simp [State.handleState]; done)
  | (unfold State.handleState; split <;> simp; done)
  | (unfold State.handleState; dsimp only; (repeat' split) <;> simp; done)
  | (unfold State.handleState; (repeat' split) <;> (try simp) <;> (repeat' split) <;> simp)

@[simp] theorem State.failChangeover_frame (s : State) (c : Changeover) :
    (s.failChangeover c).clock = s.clock ∧ (s.failChangeover c).store = s.store ∧
    (s.failChangeover c).interp = s.interp ∧ (s.failChangeover c).air = s.air ∧
    (s.failChangeover c).timer = s.timer ∧ (s.failChangeover c).bus = s.bus ∧
    (s.failChangeover c).lines = s.lines ∧ (s.failChangeover c).receiver = s.receiver ∧
    (s.failChangeover c).sched = s.sched ∧ (s.failChangeover c).port = s.port ∧
    (s.failChangeover c).freeUsed = s.freeUsed ∧ (s.failChangeover c).pending = s.pending := by
  first
  | (simp [State.failChangeover]; done)
  | (unfold State.failChangeover; split <;> simp; done)
  | (unfold State.failChangeover; dsimp only; (repeat' split) <;> simp; done)
  | (unfold State.failChangeover; (repeat' split) <;> (try simp) <;> (repeat' split) <;> simp)

@[simp] theorem State.retryUnconfirmed_frame (s : State) :
    (s.retryUnconfirmed).clock = s.clock ∧ (s.retryUnconfirmed).store = s.store ∧
    (s.retryUnconfirmed).interp = s.interp ∧ (s.retryUnconfirmed).air = s.air ∧
    (s.retryUnconfirmed).timer = s.timer ∧ (s.retryUnconfirmed).bus = s.bus ∧
    (s.retryUnconfirmed).lines = s.lines ∧ (s.retryUnconfirmed).receiver = s.receiver ∧
    (s.retryUnconfirmed).sched = s.sched ∧ (s.retryUnconfirmed).port = s.port ∧
    (s.retryUnconfirmed).events = s.events ∧ (s.retryUnconfirmed).freeUsed = s.freeUsed ∧
    (s.retryUnconfirmed).pending = s.pending := by
  unfold State.retryUnconfirmed
  refine ⟨?_, ?_, ?_, ?_, ?_, ?_, ?_, ?_, ?_, ?_, ?_, ?_, ?_⟩
  · exact foldl_clock (by intro t p; split <;> rfl) _ _
  · exact foldl_store (by intro t p; split <;> rfl) _ _
  · exact foldl_interp (by intro t p; split <;> rfl) _ _
  · exact foldl_air (by intro t p; split <;> rfl) _ _
  · exact foldl_timer (by intro t p; split <;> rfl) _ _
  · exact foldl_bus (by intro t p; split <;> rfl) _ _
  · exact foldl_lines (by intro t p; split <;> rfl) _ _
  · exact foldl_receiver (by intro t p; split <;> rfl) _ _
  · exact foldl_sched (by intro t p; split <;> rfl) _ _
  · exact foldl_port (by intro t p; split <;> rfl) _ _
  · exact foldl_events (by intro t p; split <;> rfl) _ _
  · exact foldl_freeUsed (by intro t p; split <;> rfl) _ _
  · exact foldl_pending (by intro t p; split <;> rfl) _ _

@[simp] theorem State.siteStart_frame (s : State) (b : Byte) :
    (s.siteStart b).clock = s.clock ∧ (s.siteStart b).store = s.store ∧ (s.siteStart b).interp = s.interp ∧
    (s.siteStart b).air = s.air ∧ (s.siteStart b).timer = s.timer ∧ (s.siteStart b).bus = s.bus ∧
    (s.siteStart b).lines = s.lines ∧ (s.siteStart b).receiver = s.receiver ∧ (s.siteStart b).sched = s.sched ∧
    (s.siteStart b).port = s.port ∧ (s.siteStart b).events = s.events ∧ (s.siteStart b).freeUsed = s.freeUsed ∧
    (s.siteStart b).pending = s.pending := by
  first
  | (simp [State.siteStart]; done)
  | (unfold State.siteStart; split <;> simp; done)
  | (unfold State.siteStart; dsimp only; (repeat' split) <;> simp; done)
  | (unfold State.siteStart; (repeat' split) <;> (try simp) <;> (repeat' split) <;> simp)

@[simp] theorem State.siteSent_frame (s : State) :
    (s.siteSent).clock = s.clock ∧ (s.siteSent).store = s.store ∧ (s.siteSent).interp = s.interp ∧
    (s.siteSent).air = s.air ∧ (s.siteSent).timer = s.timer ∧ (s.siteSent).bus = s.bus ∧
    (s.siteSent).lines = s.lines ∧ (s.siteSent).receiver = s.receiver ∧ (s.siteSent).sched = s.sched ∧
    (s.siteSent).port = s.port ∧ (s.siteSent).events = s.events ∧ (s.siteSent).freeUsed = s.freeUsed ∧
    (s.siteSent).pending = s.pending := by
  first
  | (simp [State.siteSent]; done)
  | (unfold State.siteSent; split <;> simp; done)
  | (unfold State.siteSent; dsimp only; (repeat' split) <;> simp; done)
  | (unfold State.siteSent; (repeat' split) <;> (try simp) <;> (repeat' split) <;> simp)

@[simp] theorem State.giveUp_frame (s : State) (e : InFlight) :
    (s.giveUp e).clock = s.clock ∧ (s.giveUp e).store = s.store ∧ (s.giveUp e).interp = s.interp ∧
    (s.giveUp e).air = s.air ∧ (s.giveUp e).timer = s.timer ∧ (s.giveUp e).bus = s.bus ∧
    (s.giveUp e).lines = s.lines ∧ (s.giveUp e).receiver = s.receiver ∧ (s.giveUp e).sched = s.sched ∧
    (s.giveUp e).port = s.port ∧ (s.giveUp e).freeUsed = s.freeUsed ∧ (s.giveUp e).pending = s.pending := by
  first
  | (simp [State.giveUp]; done)
  | (unfold State.giveUp; split <;> simp; done)
  | (unfold State.giveUp; dsimp only; (repeat' split) <;> simp; done)
  | (unfold State.giveUp; (repeat' split) <;> (try simp) <;> (repeat' split) <;> simp)

@[simp] theorem State.sendKeep_frame (s : State) :
    (s.sendKeep).clock = s.clock ∧ (s.sendKeep).store = s.store ∧ (s.sendKeep).interp = s.interp ∧
    (s.sendKeep).air = s.air ∧ (s.sendKeep).timer = s.timer ∧ (s.sendKeep).bus = s.bus ∧
    (s.sendKeep).lines = s.lines ∧ (s.sendKeep).receiver = s.receiver ∧ (s.sendKeep).sched = s.sched ∧
    (s.sendKeep).port = s.port ∧ (s.sendKeep).events = s.events ∧ (s.sendKeep).freeUsed = s.freeUsed ∧
    (s.sendKeep).pending = s.pending := by
  first
  | (simp [State.sendKeep]; done)
  | (unfold State.sendKeep; split <;> simp; done)
  | (unfold State.sendKeep; dsimp only; (repeat' split) <;> simp; done)
  | (unfold State.sendKeep; (repeat' split) <;> (try simp) <;> (repeat' split) <;> simp)

@[simp] theorem State.stopEntry_frame (s : State) :
    (s.stopEntry).clock = s.clock ∧ (s.stopEntry).receiver = s.receiver ∧ (s.stopEntry).sched = s.sched ∧
    (s.stopEntry).site = s.site ∧ (s.stopEntry).port = s.port ∧ (s.stopEntry).freeUsed = s.freeUsed ∧
    (s.stopEntry).pending = s.pending := by
  first
  | (simp [State.stopEntry]; done)
  | (unfold State.stopEntry; split <;> simp; done)
  | (unfold State.stopEntry; dsimp only; (repeat' split) <;> simp; done)
  | (unfold State.stopEntry; (repeat' split) <;> (try simp) <;> (repeat' split) <;> simp)

@[simp] theorem State.stopAll_frame (s : State) :
    (s.stopAll).clock = s.clock ∧ (s.stopAll).receiver = s.receiver ∧ (s.stopAll).sched = s.sched ∧
    (s.stopAll).site = s.site ∧ (s.stopAll).port = s.port ∧ (s.stopAll).freeUsed = s.freeUsed ∧
    (s.stopAll).pending = s.pending := by
  first
  | (simp [State.stopAll]; done)
  | (unfold State.stopAll; split <;> simp; done)
  | (unfold State.stopAll; dsimp only; (repeat' split) <;> simp; done)
  | (unfold State.stopAll; (repeat' split) <;> (try simp) <;> (repeat' split) <;> simp)

@[simp] theorem State.cuePlayer_frame (s : State) (p : Fin 4) (cue : Cue) :
    (s.cuePlayer p cue).clock = s.clock ∧ (s.cuePlayer p cue).store = s.store ∧
    (s.cuePlayer p cue).lines = s.lines ∧ (s.cuePlayer p cue).receiver = s.receiver ∧
    (s.cuePlayer p cue).sched = s.sched ∧ (s.cuePlayer p cue).site = s.site ∧ (s.cuePlayer p cue).port = s.port ∧
    (s.cuePlayer p cue).freeUsed = s.freeUsed ∧ (s.cuePlayer p cue).pending = s.pending := by
  first
  | (simp [State.cuePlayer]; done)
  | (unfold State.cuePlayer; split <;> simp; done)
  | (unfold State.cuePlayer; dsimp only; (repeat' split) <;> simp; done)
  | (unfold State.cuePlayer; (repeat' split) <;> (try simp) <;> (repeat' split) <;> simp)

@[simp] theorem State.answerLine_frame (s : State) (l : Fin 6) :
    (s.answerLine l).clock = s.clock ∧ (s.answerLine l).store = s.store ∧ (s.answerLine l).interp = s.interp ∧
    (s.answerLine l).air = s.air ∧ (s.answerLine l).timer = s.timer ∧ (s.answerLine l).bus = s.bus ∧
    (s.answerLine l).receiver = s.receiver ∧ (s.answerLine l).sched = s.sched ∧ (s.answerLine l).site = s.site ∧
    (s.answerLine l).port = s.port ∧ (s.answerLine l).events = s.events ∧ (s.answerLine l).freeUsed = s.freeUsed ∧
    (s.answerLine l).pending = s.pending := by
  first
  | (simp [State.answerLine]; done)
  | (unfold State.answerLine; split <;> simp; done)
  | (unfold State.answerLine; dsimp only; (repeat' split) <;> simp; done)
  | (unfold State.answerLine; (repeat' split) <;> (try simp) <;> (repeat' split) <;> simp)

@[simp] theorem State.acceptLine_frame (s : State) (l : Fin 6) (name : List Byte) (topic : Option Nat) (priority : Nat) :
    (s.acceptLine l name topic priority).clock = s.clock ∧ (s.acceptLine l name topic priority).store = s.store ∧
    (s.acceptLine l name topic priority).interp = s.interp ∧ (s.acceptLine l name topic priority).air = s.air ∧
    (s.acceptLine l name topic priority).timer = s.timer ∧ (s.acceptLine l name topic priority).bus = s.bus ∧
    (s.acceptLine l name topic priority).receiver = s.receiver ∧
    (s.acceptLine l name topic priority).sched = s.sched ∧ (s.acceptLine l name topic priority).site = s.site ∧
    (s.acceptLine l name topic priority).port = s.port ∧ (s.acceptLine l name topic priority).events = s.events ∧
    (s.acceptLine l name topic priority).freeUsed = s.freeUsed ∧
    (s.acceptLine l name topic priority).pending = s.pending := by
  first
  | (simp [State.acceptLine]; done)
  | (unfold State.acceptLine; split <;> simp; done)
  | (unfold State.acceptLine; dsimp only; (repeat' split) <;> simp; done)
  | (unfold State.acceptLine; (repeat' split) <;> (try simp) <;> (repeat' split) <;> simp)

@[simp] theorem State.moveLine_frame (s : State) (l : Fin 6) (x : LineState) :
    (s.moveLine l x).clock = s.clock ∧ (s.moveLine l x).store = s.store ∧ (s.moveLine l x).interp = s.interp ∧
    (s.moveLine l x).air = s.air ∧ (s.moveLine l x).timer = s.timer ∧ (s.moveLine l x).bus = s.bus ∧
    (s.moveLine l x).receiver = s.receiver ∧ (s.moveLine l x).sched = s.sched ∧ (s.moveLine l x).site = s.site ∧
    (s.moveLine l x).port = s.port ∧ (s.moveLine l x).events = s.events ∧ (s.moveLine l x).freeUsed = s.freeUsed ∧
    (s.moveLine l x).pending = s.pending := by
  first
  | (simp [State.moveLine]; done)
  | (unfold State.moveLine; split <;> simp; done)
  | (unfold State.moveLine; dsimp only; (repeat' split) <;> simp; done)
  | (unfold State.moveLine; (repeat' split) <;> (try simp) <;> (repeat' split) <;> simp)

@[simp] theorem State.clearedBy_frame (s : State) (p : Param) :
    (s.clearedBy p).clock = s.clock ∧ (s.clearedBy p).store = s.store ∧ (s.clearedBy p).interp = s.interp ∧
    (s.clearedBy p).air = s.air ∧ (s.clearedBy p).timer = s.timer ∧ (s.clearedBy p).lines = s.lines ∧
    (s.clearedBy p).receiver = s.receiver ∧ (s.clearedBy p).sched = s.sched ∧ (s.clearedBy p).port = s.port ∧
    (s.clearedBy p).events = s.events ∧ (s.clearedBy p).freeUsed = s.freeUsed ∧ (s.clearedBy p).pending = s.pending := by
  first
  | (simp [State.clearedBy]; done)
  | (unfold State.clearedBy; split <;> simp; done)
  | (unfold State.clearedBy; dsimp only; (repeat' split) <;> simp; done)
  | (unfold State.clearedBy; (repeat' split) <;> (try simp) <;> (repeat' split) <;> simp)

@[simp] theorem State.setTolerance_frame (s : State) (v : Nat) :
    (s.setTolerance v).clock = s.clock ∧ (s.setTolerance v).store = s.store ∧ (s.setTolerance v).bus = s.bus ∧
    (s.setTolerance v).lines = s.lines ∧ (s.setTolerance v).receiver = s.receiver ∧
    (s.setTolerance v).sched = s.sched ∧ (s.setTolerance v).site = s.site ∧ (s.setTolerance v).port = s.port ∧
    (s.setTolerance v).freeUsed = s.freeUsed ∧ (s.setTolerance v).pending = s.pending := by
  first
  | (simp [State.setTolerance]; done)
  | (unfold State.setTolerance; split <;> simp; done)
  | (unfold State.setTolerance; dsimp only; (repeat' split) <;> simp; done)
  | (unfold State.setTolerance; (repeat' split) <;> (try simp) <;> (repeat' split) <;> simp)

@[simp] theorem State.setFill_frame (s : State) (new : Option (Fin 4)) :
    (s.setFill new).clock = s.clock ∧ (s.setFill new).store = s.store ∧ (s.setFill new).lines = s.lines ∧
    (s.setFill new).receiver = s.receiver ∧ (s.setFill new).sched = s.sched ∧ (s.setFill new).site = s.site ∧
    (s.setFill new).port = s.port ∧ (s.setFill new).freeUsed = s.freeUsed ∧ (s.setFill new).pending = s.pending := by
  first
  | (simp [State.setFill]; done)
  | (unfold State.setFill; split <;> simp; done)
  | (unfold State.setFill; dsimp only; (repeat' split) <;> simp; done)
  | (unfold State.setFill; (repeat' split) <;> (try simp) <;> (repeat' split) <;> simp)

@[simp] theorem State.setCalibration_frame (s : State) (reserve : Bool) (v : Int) :
    (s.setCalibration reserve v).clock = s.clock ∧ (s.setCalibration reserve v).store = s.store ∧
    (s.setCalibration reserve v).interp = s.interp ∧ (s.setCalibration reserve v).air = s.air ∧
    (s.setCalibration reserve v).timer = s.timer ∧ (s.setCalibration reserve v).bus = s.bus ∧
    (s.setCalibration reserve v).lines = s.lines ∧ (s.setCalibration reserve v).receiver = s.receiver ∧
    (s.setCalibration reserve v).sched = s.sched ∧ (s.setCalibration reserve v).port = s.port ∧
    (s.setCalibration reserve v).events = s.events ∧ (s.setCalibration reserve v).freeUsed = s.freeUsed ∧
    (s.setCalibration reserve v).pending = s.pending := by
  first
  | (simp [State.setCalibration]; done)
  | (unfold State.setCalibration; split <;> simp; done)
  | (unfold State.setCalibration; dsimp only; (repeat' split) <;> simp; done)
  | (unfold State.setCalibration; (repeat' split) <;> (try simp) <;> (repeat' split) <;> simp)

@[simp] theorem State.clearPair_frame (s : State) (p : Nat × Nat) :
    (s.clearPair p).clock = s.clock ∧ (s.clearPair p).store = s.store ∧ (s.clearPair p).interp = s.interp ∧
    (s.clearPair p).air = s.air ∧ (s.clearPair p).timer = s.timer ∧ (s.clearPair p).bus = s.bus ∧
    (s.clearPair p).lines = s.lines ∧ (s.clearPair p).receiver = s.receiver ∧ (s.clearPair p).sched = s.sched ∧
    (s.clearPair p).site = s.site ∧ (s.clearPair p).port = s.port ∧ (s.clearPair p).freeUsed = s.freeUsed ∧
    (s.clearPair p).pending = s.pending := by
  first
  | (simp [State.clearPair]; done)
  | (unfold State.clearPair; split <;> simp; done)
  | (unfold State.clearPair; dsimp only; (repeat' split) <;> simp; done)
  | (unfold State.clearPair; (repeat' split) <;> (try simp) <;> (repeat' split) <;> simp)

@[simp] theorem State.clearOccurrences_frame (s : State) :
    (s.clearOccurrences).clock = s.clock ∧ (s.clearOccurrences).store = s.store ∧
    (s.clearOccurrences).interp = s.interp ∧ (s.clearOccurrences).air = s.air ∧
    (s.clearOccurrences).timer = s.timer ∧ (s.clearOccurrences).bus = s.bus ∧
    (s.clearOccurrences).lines = s.lines ∧ (s.clearOccurrences).receiver = s.receiver ∧
    (s.clearOccurrences).sched = s.sched ∧ (s.clearOccurrences).site = s.site ∧
    (s.clearOccurrences).port = s.port ∧ (s.clearOccurrences).freeUsed = s.freeUsed ∧
    (s.clearOccurrences).pending = s.pending := by
  first
  | (simp [State.clearOccurrences]; done)
  | (unfold State.clearOccurrences; split <;> simp; done)
  | (unfold State.clearOccurrences; dsimp only; (repeat' split) <;> simp; done)
  | (unfold State.clearOccurrences; (repeat' split) <;> (try simp) <;> (repeat' split) <;> simp)

@[simp] theorem State.resetInterp_frame (s : State) :
    (s.resetInterp).clock = s.clock ∧ (s.resetInterp).store = s.store ∧ (s.resetInterp).air = s.air ∧
    (s.resetInterp).timer = s.timer ∧ (s.resetInterp).bus = s.bus ∧ (s.resetInterp).lines = s.lines ∧
    (s.resetInterp).receiver = s.receiver ∧ (s.resetInterp).sched = s.sched ∧ (s.resetInterp).site = s.site ∧
    (s.resetInterp).port = s.port ∧ (s.resetInterp).events = s.events ∧ (s.resetInterp).freeUsed = s.freeUsed ∧
    (s.resetInterp).pending = s.pending := by
  first
  | (simp [State.resetInterp]; done)
  | (unfold State.resetInterp; split <;> simp; done)
  | (unfold State.resetInterp; dsimp only; (repeat' split) <;> simp; done)
  | (unfold State.resetInterp; (repeat' split) <;> (try simp) <;> (repeat' split) <;> simp)

@[simp] theorem State.resetPlayer_frame (s : State) (p : Fin 4) :
    (s.resetPlayer p).clock = s.clock ∧ (s.resetPlayer p).store = s.store ∧ (s.resetPlayer p).interp = s.interp ∧
    (s.resetPlayer p).timer = s.timer ∧ (s.resetPlayer p).lines = s.lines ∧
    (s.resetPlayer p).receiver = s.receiver ∧ (s.resetPlayer p).sched = s.sched ∧ (s.resetPlayer p).site = s.site ∧
    (s.resetPlayer p).port = s.port ∧ (s.resetPlayer p).events = s.events ∧
    (s.resetPlayer p).freeUsed = s.freeUsed ∧ (s.resetPlayer p).pending = s.pending := by
  first
  | (simp [State.resetPlayer]; done)
  | (unfold State.resetPlayer; split <;> simp; done)
  | (unfold State.resetPlayer; dsimp only; (repeat' split) <;> simp; done)
  | (unfold State.resetPlayer; (repeat' split) <;> (try simp) <;> (repeat' split) <;> simp)

@[simp] theorem State.resetAir_frame (s : State) :
    (s.resetAir).clock = s.clock ∧ (s.resetAir).store = s.store ∧ (s.resetAir).interp = s.interp ∧
    (s.resetAir).timer = s.timer ∧ (s.resetAir).lines = s.lines ∧ (s.resetAir).receiver = s.receiver ∧
    (s.resetAir).sched = s.sched ∧ (s.resetAir).site = s.site ∧ (s.resetAir).port = s.port ∧
    (s.resetAir).events = s.events ∧ (s.resetAir).freeUsed = s.freeUsed ∧ (s.resetAir).pending = s.pending := by
  first
  | (simp [State.resetAir]; done)
  | (unfold State.resetAir; split <;> simp; done)
  | (unfold State.resetAir; dsimp only; (repeat' split) <;> simp; done)
  | (unfold State.resetAir; (repeat' split) <;> (try simp) <;> (repeat' split) <;> simp)

@[simp] theorem State.resetTimer_frame (s : State) :
    (s.resetTimer).clock = s.clock ∧ (s.resetTimer).store = s.store ∧ (s.resetTimer).interp = s.interp ∧
    (s.resetTimer).air = s.air ∧ (s.resetTimer).bus = s.bus ∧ (s.resetTimer).lines = s.lines ∧
    (s.resetTimer).receiver = s.receiver ∧ (s.resetTimer).sched = s.sched ∧ (s.resetTimer).site = s.site ∧
    (s.resetTimer).port = s.port ∧ (s.resetTimer).events = s.events ∧ (s.resetTimer).freeUsed = s.freeUsed ∧
    (s.resetTimer).pending = s.pending := by
  first
  | (simp [State.resetTimer]; done)
  | (unfold State.resetTimer; split <;> simp; done)
  | (unfold State.resetTimer; dsimp only; (repeat' split) <;> simp; done)
  | (unfold State.resetTimer; (repeat' split) <;> (try simp) <;> (repeat' split) <;> simp)

@[simp] theorem State.resetBus_frame (s : State) :
    (s.resetBus).clock = s.clock ∧ (s.resetBus).store = s.store ∧ (s.resetBus).interp = s.interp ∧
    (s.resetBus).air = s.air ∧ (s.resetBus).timer = s.timer ∧ (s.resetBus).lines = s.lines ∧
    (s.resetBus).receiver = s.receiver ∧ (s.resetBus).sched = s.sched ∧ (s.resetBus).site = s.site ∧
    (s.resetBus).port = s.port ∧ (s.resetBus).events = s.events ∧ (s.resetBus).freeUsed = s.freeUsed ∧
    (s.resetBus).pending = s.pending := by
  first
  | (simp [State.resetBus]; done)
  | (unfold State.resetBus; split <;> simp; done)
  | (unfold State.resetBus; dsimp only; (repeat' split) <;> simp; done)
  | (unfold State.resetBus; (repeat' split) <;> (try simp) <;> (repeat' split) <;> simp)

@[simp] theorem State.resetLine_frame (s : State) (l : Fin 6) :
    (s.resetLine l).clock = s.clock ∧ (s.resetLine l).store = s.store ∧ (s.resetLine l).interp = s.interp ∧
    (s.resetLine l).air = s.air ∧ (s.resetLine l).timer = s.timer ∧ (s.resetLine l).bus = s.bus ∧
    (s.resetLine l).receiver = s.receiver ∧ (s.resetLine l).sched = s.sched ∧ (s.resetLine l).site = s.site ∧
    (s.resetLine l).port = s.port ∧ (s.resetLine l).events = s.events ∧ (s.resetLine l).freeUsed = s.freeUsed ∧
    (s.resetLine l).pending = s.pending := by
  first
  | (simp [State.resetLine]; done)
  | (unfold State.resetLine; split <;> simp; done)
  | (unfold State.resetLine; dsimp only; (repeat' split) <;> simp; done)
  | (unfold State.resetLine; (repeat' split) <;> (try simp) <;> (repeat' split) <;> simp)

@[simp] theorem State.resetLines_frame (s : State) :
    (s.resetLines).clock = s.clock ∧ (s.resetLines).store = s.store ∧ (s.resetLines).interp = s.interp ∧
    (s.resetLines).air = s.air ∧ (s.resetLines).timer = s.timer ∧ (s.resetLines).bus = s.bus ∧
    (s.resetLines).receiver = s.receiver ∧ (s.resetLines).sched = s.sched ∧ (s.resetLines).site = s.site ∧
    (s.resetLines).port = s.port ∧ (s.resetLines).events = s.events ∧ (s.resetLines).freeUsed = s.freeUsed ∧
    (s.resetLines).pending = s.pending := by
  first
  | (simp [State.resetLines]; done)
  | (unfold State.resetLines; split <;> simp; done)
  | (unfold State.resetLines; dsimp only; (repeat' split) <;> simp; done)
  | (unfold State.resetLines; (repeat' split) <;> (try simp) <;> (repeat' split) <;> simp)

@[simp] theorem State.resetAlert_frame (s : State) (k : Fin 8) :
    (s.resetAlert k).clock = s.clock ∧ (s.resetAlert k).store = s.store ∧ (s.resetAlert k).interp = s.interp ∧
    (s.resetAlert k).air = s.air ∧ (s.resetAlert k).timer = s.timer ∧ (s.resetAlert k).bus = s.bus ∧
    (s.resetAlert k).lines = s.lines ∧ (s.resetAlert k).sched = s.sched ∧ (s.resetAlert k).site = s.site ∧
    (s.resetAlert k).port = s.port ∧ (s.resetAlert k).events = s.events ∧ (s.resetAlert k).freeUsed = s.freeUsed ∧
    (s.resetAlert k).pending = s.pending := by
  first
  | (simp [State.resetAlert]; done)
  | (unfold State.resetAlert; split <;> simp; done)
  | (unfold State.resetAlert; dsimp only; (repeat' split) <;> simp; done)
  | (unfold State.resetAlert; (repeat' split) <;> (try simp) <;> (repeat' split) <;> simp)

@[simp] theorem State.resetReceiver_frame (s : State) :
    (s.resetReceiver).clock = s.clock ∧ (s.resetReceiver).store = s.store ∧ (s.resetReceiver).interp = s.interp ∧
    (s.resetReceiver).air = s.air ∧ (s.resetReceiver).timer = s.timer ∧ (s.resetReceiver).bus = s.bus ∧
    (s.resetReceiver).lines = s.lines ∧ (s.resetReceiver).sched = s.sched ∧ (s.resetReceiver).site = s.site ∧
    (s.resetReceiver).port = s.port ∧ (s.resetReceiver).events = s.events ∧
    (s.resetReceiver).freeUsed = s.freeUsed ∧ (s.resetReceiver).pending = s.pending := by
  first
  | (simp [State.resetReceiver]; done)
  | (unfold State.resetReceiver; split <;> simp; done)
  | (unfold State.resetReceiver; dsimp only; (repeat' split) <;> simp; done)
  | (unfold State.resetReceiver; (repeat' split) <;> (try simp) <;> (repeat' split) <;> simp)

@[simp] theorem State.resetSched_frame (s : State) :
    (s.resetSched).clock = s.clock ∧ (s.resetSched).store = s.store ∧ (s.resetSched).interp = s.interp ∧
    (s.resetSched).air = s.air ∧ (s.resetSched).timer = s.timer ∧ (s.resetSched).bus = s.bus ∧
    (s.resetSched).lines = s.lines ∧ (s.resetSched).receiver = s.receiver ∧ (s.resetSched).site = s.site ∧
    (s.resetSched).port = s.port ∧ (s.resetSched).events = s.events ∧ (s.resetSched).freeUsed = s.freeUsed ∧
    (s.resetSched).pending = s.pending := by
  first
  | (simp [State.resetSched]; done)
  | (unfold State.resetSched; split <;> simp; done)
  | (unfold State.resetSched; dsimp only; (repeat' split) <;> simp; done)
  | (unfold State.resetSched; (repeat' split) <;> (try simp) <;> (repeat' split) <;> simp)

@[simp] theorem State.resetSite_frame (s : State) :
    (s.resetSite).clock = s.clock ∧ (s.resetSite).store = s.store ∧ (s.resetSite).interp = s.interp ∧
    (s.resetSite).air = s.air ∧ (s.resetSite).timer = s.timer ∧ (s.resetSite).bus = s.bus ∧
    (s.resetSite).lines = s.lines ∧ (s.resetSite).receiver = s.receiver ∧ (s.resetSite).sched = s.sched ∧
    (s.resetSite).port = s.port ∧ (s.resetSite).events = s.events ∧ (s.resetSite).freeUsed = s.freeUsed ∧
    (s.resetSite).pending = s.pending := by
  first
  | (simp [State.resetSite]; done)
  | (unfold State.resetSite; split <;> simp; done)
  | (unfold State.resetSite; dsimp only; (repeat' split) <;> simp; done)
  | (unfold State.resetSite; (repeat' split) <;> (try simp) <;> (repeat' split) <;> simp)

@[simp] theorem State.resetBlocks_frame (s : State) :
    (s.resetBlocks).clock = s.clock ∧ (s.resetBlocks).store = s.store ∧ (s.resetBlocks).port = s.port ∧
    (s.resetBlocks).freeUsed = s.freeUsed ∧ (s.resetBlocks).pending = s.pending := by
  first
  | (simp [State.resetBlocks]; done)
  | (unfold State.resetBlocks; split <;> simp; done)
  | (unfold State.resetBlocks; dsimp only; (repeat' split) <;> simp; done)
  | (unfold State.resetBlocks; (repeat' split) <;> (try simp) <;> (repeat' split) <;> simp)

@[simp] theorem State.endFill_frame (s : State) (p : Fin 4) :
    (s.endFill p).clock = s.clock ∧ (s.endFill p).store = s.store ∧ (s.endFill p).interp = s.interp ∧
    (s.endFill p).timer = s.timer ∧ (s.endFill p).lines = s.lines ∧ (s.endFill p).receiver = s.receiver ∧
    (s.endFill p).sched = s.sched ∧ (s.endFill p).site = s.site ∧ (s.endFill p).port = s.port ∧
    (s.endFill p).events = s.events ∧ (s.endFill p).freeUsed = s.freeUsed ∧ (s.endFill p).pending = s.pending := by
  first
  | (simp [State.endFill]; done)
  | (unfold State.endFill; split <;> simp; done)
  | (unfold State.endFill; dsimp only; (repeat' split) <;> simp; done)
  | (unfold State.endFill; (repeat' split) <;> (try simp) <;> (repeat' split) <;> simp)

@[simp] theorem State.ringEvent_frame (s : State) (l : Fin 6) :
    (s.ringEvent l).clock = s.clock ∧ (s.ringEvent l).store = s.store ∧ (s.ringEvent l).interp = s.interp ∧
    (s.ringEvent l).air = s.air ∧ (s.ringEvent l).timer = s.timer ∧ (s.ringEvent l).bus = s.bus ∧
    (s.ringEvent l).receiver = s.receiver ∧ (s.ringEvent l).sched = s.sched ∧ (s.ringEvent l).site = s.site ∧
    (s.ringEvent l).port = s.port ∧ (s.ringEvent l).freeUsed = s.freeUsed ∧ (s.ringEvent l).pending = s.pending := by
  first
  | (simp [State.ringEvent]; done)
  | (unfold State.ringEvent; split <;> simp; done)
  | (unfold State.ringEvent; dsimp only; (repeat' split) <;> simp; done)
  | (unfold State.ringEvent; (repeat' split) <;> (try simp) <;> (repeat' split) <;> simp)

@[simp] theorem State.endWithdrawal_frame (s : State) (p : Fin 4) :
    (s.endWithdrawal p).clock = s.clock ∧ (s.endWithdrawal p).store = s.store ∧
    (s.endWithdrawal p).lines = s.lines ∧ (s.endWithdrawal p).receiver = s.receiver ∧
    (s.endWithdrawal p).sched = s.sched ∧ (s.endWithdrawal p).site = s.site ∧ (s.endWithdrawal p).port = s.port ∧
    (s.endWithdrawal p).freeUsed = s.freeUsed ∧ (s.endWithdrawal p).pending = s.pending := by
  first
  | (simp [State.endWithdrawal]; done)
  | (unfold State.endWithdrawal; split <;> simp; done)
  | (unfold State.endWithdrawal; dsimp only; (repeat' split) <;> simp; done)
  | (unfold State.endWithdrawal; (repeat' split) <;> (try simp) <;> (repeat' split) <;> simp)

@[simp] theorem State.enterDead_frame (s : State) (m : Monitor) (silence : Nat) :
    (s.enterDead m silence).clock = s.clock ∧ (s.enterDead m silence).store = s.store ∧
    (s.enterDead m silence).interp = s.interp ∧ (s.enterDead m silence).timer = s.timer ∧
    (s.enterDead m silence).lines = s.lines ∧ (s.enterDead m silence).receiver = s.receiver ∧
    (s.enterDead m silence).sched = s.sched ∧ (s.enterDead m silence).site = s.site ∧
    (s.enterDead m silence).port = s.port ∧ (s.enterDead m silence).events = s.events ∧
    (s.enterDead m silence).freeUsed = s.freeUsed ∧ (s.enterDead m silence).pending = s.pending := by
  first
  | (simp [State.enterDead]; done)
  | (unfold State.enterDead; split <;> simp; done)
  | (unfold State.enterDead; dsimp only; (repeat' split) <;> simp; done)
  | (unfold State.enterDead; (repeat' split) <;> (try simp) <;> (repeat' split) <;> simp)

@[simp] theorem State.escalate_frame (s : State) (m : Monitor) (escalation : Nat) :
    (s.escalate m escalation).clock = s.clock ∧ (s.escalate m escalation).store = s.store ∧
    (s.escalate m escalation).interp = s.interp ∧ (s.escalate m escalation).air = s.air ∧
    (s.escalate m escalation).timer = s.timer ∧ (s.escalate m escalation).lines = s.lines ∧
    (s.escalate m escalation).receiver = s.receiver ∧ (s.escalate m escalation).sched = s.sched ∧
    (s.escalate m escalation).port = s.port ∧ (s.escalate m escalation).events = s.events ∧
    (s.escalate m escalation).freeUsed = s.freeUsed ∧ (s.escalate m escalation).pending = s.pending := by
  first
  | (simp [State.escalate]; done)
  | (unfold State.escalate; split <;> simp; done)
  | (unfold State.escalate; dsimp only; (repeat' split) <;> simp; done)
  | (unfold State.escalate; (repeat' split) <;> (try simp) <;> (repeat' split) <;> simp)

@[simp] theorem State.recover_frame (s : State) (m : Monitor) :
    (s.recover m).clock = s.clock ∧ (s.recover m).store = s.store ∧ (s.recover m).interp = s.interp ∧
    (s.recover m).air = s.air ∧ (s.recover m).timer = s.timer ∧ (s.recover m).lines = s.lines ∧
    (s.recover m).receiver = s.receiver ∧ (s.recover m).sched = s.sched ∧ (s.recover m).port = s.port ∧
    (s.recover m).events = s.events ∧ (s.recover m).freeUsed = s.freeUsed ∧ (s.recover m).pending = s.pending := by
  first
  | (simp [State.recover]; done)
  | (unfold State.recover; split <;> simp; done)
  | (unfold State.recover; dsimp only; (repeat' split) <;> simp; done)
  | (unfold State.recover; (repeat' split) <;> (try simp) <;> (repeat' split) <;> simp)

@[simp] theorem State.judgeWindow_frame (s : State) (m : Monitor) (quiet : Bool) :
    (s.judgeWindow m quiet).clock = s.clock ∧ (s.judgeWindow m quiet).store = s.store ∧
    (s.judgeWindow m quiet).interp = s.interp ∧ (s.judgeWindow m quiet).timer = s.timer ∧
    (s.judgeWindow m quiet).lines = s.lines ∧ (s.judgeWindow m quiet).receiver = s.receiver ∧
    (s.judgeWindow m quiet).sched = s.sched ∧ (s.judgeWindow m quiet).port = s.port ∧
    (s.judgeWindow m quiet).events = s.events ∧ (s.judgeWindow m quiet).freeUsed = s.freeUsed ∧
    (s.judgeWindow m quiet).pending = s.pending := by
  first
  | (simp [State.judgeWindow]; done)
  | (unfold State.judgeWindow; split <;> simp; done)
  | (unfold State.judgeWindow; dsimp only; (repeat' split) <;> simp; done)
  | (unfold State.judgeWindow; (repeat' split) <;> (try simp) <;> (repeat' split) <;> simp)

@[simp] theorem State.endWindow_frame (s : State) :
    (s.endWindow).clock = s.clock ∧ (s.endWindow).store = s.store ∧ (s.endWindow).interp = s.interp ∧
    (s.endWindow).timer = s.timer ∧ (s.endWindow).lines = s.lines ∧ (s.endWindow).receiver = s.receiver ∧
    (s.endWindow).sched = s.sched ∧ (s.endWindow).port = s.port ∧ (s.endWindow).events = s.events ∧
    (s.endWindow).freeUsed = s.freeUsed ∧ (s.endWindow).pending = s.pending := by
  first
  | (simp [State.endWindow]; done)
  | (unfold State.endWindow; split <;> simp; done)
  | (unfold State.endWindow; dsimp only; (repeat' split) <;> simp; done)
  | (unfold State.endWindow; (repeat' split) <;> (try simp) <;> (repeat' split) <;> simp)

@[simp] theorem State.mixSample_frame (s : State) (lanes : Vector Sample 14) (talkback : Sample) :
    (s.mixSample lanes talkback).clock = s.clock ∧ (s.mixSample lanes talkback).store = s.store ∧
    (s.mixSample lanes talkback).interp = s.interp ∧ (s.mixSample lanes talkback).air = s.air ∧
    (s.mixSample lanes talkback).timer = s.timer ∧ (s.mixSample lanes talkback).lines = s.lines ∧
    (s.mixSample lanes talkback).receiver = s.receiver ∧ (s.mixSample lanes talkback).sched = s.sched ∧
    (s.mixSample lanes talkback).site = s.site ∧ (s.mixSample lanes talkback).port = s.port ∧
    (s.mixSample lanes talkback).events = s.events ∧ (s.mixSample lanes talkback).pending = s.pending := by
  first
  | (simp [State.mixSample]; done)
  | (unfold State.mixSample; split <;> simp; done)
  | (unfold State.mixSample; dsimp only; (repeat' split) <;> simp; done)
  | (unfold State.mixSample; (repeat' split) <;> (try simp) <;> (repeat' split) <;> simp)

@[simp] theorem State.closeAlert_frame (s : State) :
    (s.closeAlert).clock = s.clock ∧ (s.closeAlert).store = s.store ∧ (s.closeAlert).interp = s.interp ∧
    (s.closeAlert).air = s.air ∧ (s.closeAlert).timer = s.timer ∧ (s.closeAlert).bus = s.bus ∧
    (s.closeAlert).lines = s.lines ∧ (s.closeAlert).sched = s.sched ∧ (s.closeAlert).site = s.site ∧
    (s.closeAlert).port = s.port ∧ (s.closeAlert).events = s.events ∧ (s.closeAlert).freeUsed = s.freeUsed ∧
    (s.closeAlert).pending = s.pending := by
  first
  | (simp [State.closeAlert]; done)
  | (unfold State.closeAlert; split <;> simp; done)
  | (unfold State.closeAlert; dsimp only; (repeat' split) <;> simp; done)
  | (unfold State.closeAlert; (repeat' split) <;> (try simp) <;> (repeat' split) <;> simp)

@[simp] theorem State.alertSent_frame (s : State) :
    (s.alertSent).clock = s.clock ∧ (s.alertSent).store = s.store ∧ (s.alertSent).interp = s.interp ∧
    (s.alertSent).air = s.air ∧ (s.alertSent).timer = s.timer ∧ (s.alertSent).bus = s.bus ∧
    (s.alertSent).lines = s.lines ∧ (s.alertSent).site = s.site ∧ (s.alertSent).port = s.port ∧
    (s.alertSent).events = s.events ∧ (s.alertSent).freeUsed = s.freeUsed ∧ (s.alertSent).pending = s.pending := by
  first
  | (simp [State.alertSent]; done)
  | (unfold State.alertSent; split <;> simp; done)
  | (unfold State.alertSent; dsimp only; (repeat' split) <;> simp; done)
  | (unfold State.alertSent; (repeat' split) <;> (try simp) <;> (repeat' split) <;> simp)

@[simp] theorem State.closeSite_frame (s : State) :
    (s.closeSite).clock = s.clock ∧ (s.closeSite).store = s.store ∧ (s.closeSite).interp = s.interp ∧
    (s.closeSite).air = s.air ∧ (s.closeSite).timer = s.timer ∧ (s.closeSite).bus = s.bus ∧
    (s.closeSite).lines = s.lines ∧ (s.closeSite).receiver = s.receiver ∧ (s.closeSite).sched = s.sched ∧
    (s.closeSite).port = s.port ∧ (s.closeSite).events = s.events ∧ (s.closeSite).freeUsed = s.freeUsed ∧
    (s.closeSite).pending = s.pending := by
  first
  | (simp [State.closeSite]; done)
  | (unfold State.closeSite; split <;> simp; done)
  | (unfold State.closeSite; dsimp only; (repeat' split) <;> simp; done)
  | (unfold State.closeSite; (repeat' split) <;> (try simp) <;> (repeat' split) <;> simp)

@[simp] theorem State.nextPoll_frame (s : State) :
    (s.nextPoll).clock = s.clock ∧ (s.nextPoll).store = s.store ∧ (s.nextPoll).interp = s.interp ∧
    (s.nextPoll).air = s.air ∧ (s.nextPoll).timer = s.timer ∧ (s.nextPoll).bus = s.bus ∧
    (s.nextPoll).lines = s.lines ∧ (s.nextPoll).receiver = s.receiver ∧ (s.nextPoll).sched = s.sched ∧
    (s.nextPoll).port = s.port ∧ (s.nextPoll).events = s.events ∧ (s.nextPoll).freeUsed = s.freeUsed ∧
    (s.nextPoll).pending = s.pending := by
  first
  | (simp [State.nextPoll]; done)
  | (unfold State.nextPoll; split <;> simp; done)
  | (unfold State.nextPoll; dsimp only; (repeat' split) <;> simp; done)
  | (unfold State.nextPoll; (repeat' split) <;> (try simp) <;> (repeat' split) <;> simp)

@[simp] theorem State.ackTimeout_frame (s : State) (e : InFlight) :
    (s.ackTimeout e).clock = s.clock ∧ (s.ackTimeout e).store = s.store ∧ (s.ackTimeout e).interp = s.interp ∧
    (s.ackTimeout e).air = s.air ∧ (s.ackTimeout e).timer = s.timer ∧ (s.ackTimeout e).bus = s.bus ∧
    (s.ackTimeout e).lines = s.lines ∧ (s.ackTimeout e).receiver = s.receiver ∧ (s.ackTimeout e).sched = s.sched ∧
    (s.ackTimeout e).port = s.port ∧ (s.ackTimeout e).freeUsed = s.freeUsed ∧ (s.ackTimeout e).pending = s.pending := by
  first
  | (simp [State.ackTimeout]; done)
  | (unfold State.ackTimeout; split <;> simp; done)
  | (unfold State.ackTimeout; dsimp only; (repeat' split) <;> simp; done)
  | (unfold State.ackTimeout; (repeat' split) <;> (try simp) <;> (repeat' split) <;> simp)

@[simp] theorem State.retry_frame (s : State) (p : Param) :
    (s.retry p).clock = s.clock ∧ (s.retry p).store = s.store ∧ (s.retry p).interp = s.interp ∧
    (s.retry p).air = s.air ∧ (s.retry p).timer = s.timer ∧ (s.retry p).bus = s.bus ∧ (s.retry p).lines = s.lines ∧
    (s.retry p).receiver = s.receiver ∧ (s.retry p).sched = s.sched ∧ (s.retry p).port = s.port ∧
    (s.retry p).events = s.events ∧ (s.retry p).freeUsed = s.freeUsed ∧ (s.retry p).pending = s.pending := by
  first
  | (simp [State.retry]; done)
  | (unfold State.retry; split <;> simp; done)
  | (unfold State.retry; dsimp only; (repeat' split) <;> simp; done)
  | (unfold State.retry; (repeat' split) <;> (try simp) <;> (repeat' split) <;> simp)

end Sys2Proof.Machine
end

