-- ==== Sys2Proof/Laws/Mix.lean ====
section
/-! SUPPORT. The laws of the mix (R95): what a source at mute or at gain 0 adds, and the rounding of a whole value. -/

namespace Sys2Proof.Machine

theorem contribution_mute (sample gain : Int) (h : gain ≤ -160) : contribution sample gain = 0 := by
  simp [contribution, h]

theorem mixUnit_pos : 0 < mixUnit := Nat.mul_pos (by decide) (Nat.two_pow_pos _)

theorem contribution_unity (sample : Int) : contribution sample 0 = sample * mixUnit := by
  unfold contribution mixUnit
  rw [if_neg (by decide), show ((0 + 160 : Int) / 40).toNat = 4 by decide, show ((0 + 160 : Int) % 40).toNat = 0 by decide]
  dsimp only
  rw [Nat.pow_zero, Nat.mul_one, Nat.sub_zero]

/-- A whole number of units is rounded to itself. -/
theorem roundMix_units (v : Int) : roundMix (v * mixUnit) = v := by
  have hu : (0 : Int) < mixUnit := by exact_mod_cast mixUnit_pos
  unfold roundMix
  generalize (mixUnit : Nat) = u at *
  have h (n : Int) : (2 * (n * u) + u) / ((2 * u : Nat) : Int) = n := by
    push_cast
    rw [show 2 * (n * u) + u = u + n * (2 * u) by ring, Int.add_mul_ediv_right _ _ (by omega),
      Int.ediv_eq_zero_of_lt (by omega) (by omega), Int.zero_add]
  split
  · exact h v
  · rw [show -2 * (v * (u : Int)) = 2 * (-v * u) by ring, h, Int.neg_neg]

end Sys2Proof.Machine
end

