-- ==== Sys2Proof/Laws/PerInstr.lean ====
section
/-! SUPPORT. Laws for every command, as syntax: one lemma per constructor. -/

namespace Sys2Proof.Laws.Request

set_option Elab.async false

/-- A well-formed request has a one-byte request code of 10h or above, and no more field bytes than the longest request
frame can carry (R200): 58. -/
def Statement (i : Instr) : Prop :=
  i.wf = true → ∀ q, i.request? = some q → 0x10 ≤ q.2.1 ∧ q.2.1 < 256 ∧ q.2.2.length ≤ 58

theorem writeTransactionBad (first : Byte) (bytes : List Byte) : Statement (.writeTransactionBad first bytes) := by
  intro h q hq
  simp [Instr.request?] at hq

theorem portOverrun (bytes : List Byte) : Statement (.portOverrun bytes) := by
  intro h q hq
  simp [Instr.request?] at hq

theorem read (clocked : Nat) : Statement (.read clocked) := by
  intro h q hq
  simp [Instr.request?] at hq

theorem roInsert (role : Role) (anchor : Nat) (body : RawEntry) : Statement (.roInsert role anchor body) := by
  intro h q hq
  simp only [Instr.request?, Option.some.injEq] at hq
  subst hq
  simp [entryWidths, RawEntry.toFields]

theorem roChange (role : Role) (handle : Nat) (body : RawEntry) : Statement (.roChange role handle body) := by
  intro h q hq
  simp only [Instr.request?, Option.some.injEq] at hq
  subst hq
  simp [entryWidths, RawEntry.toFields]

theorem roMove (role : Role) (handle : Nat) (list : Nat) (anchor : Nat) : Statement (.roMove role handle list anchor) := by
  intro h q hq
  simp only [Instr.request?, Option.some.injEq] at hq
  subst hq
  simp

theorem roDelete (role : Role) (handle : Nat) : Statement (.roDelete role handle) := by
  intro h q hq
  simp only [Instr.request?, Option.some.injEq] at hq
  subst hq
  simp

theorem breakClear (role : Role) (brk : Nat) : Statement (.breakClear role brk) := by
  intro h q hq
  simp only [Instr.request?, Option.some.injEq] at hq
  subst hq
  simp

theorem roRead (role : Role) (handle : Nat) : Statement (.roRead role handle) := by
  intro h q hq
  simp only [Instr.request?, Option.some.injEq] at hq
  subst hq
  simp

theorem roList (role : Role) (list : Nat) (start : Nat) : Statement (.roList role list start) := by
  intro h q hq
  simp only [Instr.request?, Option.some.injEq] at hq
  subst hq
  simp

theorem airMode (role : Role) (mode : Nat) : Statement (.airMode role mode) := by
  intro h q hq
  simp only [Instr.request?, Option.some.injEq] at hq
  subst hq
  simp

theorem airGo (role : Role) : Statement (.airGo role) := by
  intro h q hq
  simp only [Instr.request?, Option.some.injEq] at hq
  subst hq
  simp

theorem airEndSegment (role : Role) : Statement (.airEndSegment role) := by
  intro h q hq
  simp only [Instr.request?, Option.some.injEq] at hq
  subst hq
  simp

theorem airHold (role : Role) : Statement (.airHold role) := by
  intro h q hq
  simp only [Instr.request?, Option.some.injEq] at hq
  subst hq
  simp

theorem airResume (role : Role) : Statement (.airResume role) := by
  intro h q hq
  simp only [Instr.request?, Option.some.injEq] at hq
  subst hq
  simp

theorem airStep (role : Role) : Statement (.airStep role) := by
  intro h q hq
  simp only [Instr.request?, Option.some.injEq] at hq
  subst hq
  simp

theorem airHoldAtPoint (role : Role) (value : Nat) : Statement (.airHoldAtPoint role value) := by
  intro h q hq
  simp only [Instr.request?, Option.some.injEq] at hq
  subst hq
  simp

theorem airStop (role : Role) : Statement (.airStop role) := by
  intro h q hq
  simp only [Instr.request?, Option.some.injEq] at hq
  subst hq
  simp

theorem airStart (role : Role) : Statement (.airStart role) := by
  intro h q hq
  simp only [Instr.request?, Option.some.injEq] at hq
  subst hq
  simp

theorem airCueTo (role : Role) (handle : Nat) : Statement (.airCueTo role handle) := by
  intro h q hq
  simp only [Instr.request?, Option.some.injEq] at hq
  subst hq
  simp

theorem airStatus (role : Role) : Statement (.airStatus role) := by
  intro h q hq
  simp only [Instr.request?, Option.some.injEq] at hq
  subst hq
  simp

theorem playerCue (role : Role) (player : Nat) (cart : Nat) (length : Nat) : Statement (.playerCue role player cart length) := by
  intro h q hq
  simp only [Instr.request?, Option.some.injEq] at hq
  subst hq
  simp

theorem playerClear (role : Role) (player : Nat) : Statement (.playerClear role player) := by
  intro h q hq
  simp only [Instr.request?, Option.some.injEq] at hq
  subst hq
  simp

theorem playerRead (role : Role) (player : Nat) : Statement (.playerRead role player) := by
  intro h q hq
  simp only [Instr.request?, Option.some.injEq] at hq
  subst hq
  simp

theorem lookaheadRead (role : Role) (start : Nat) : Statement (.lookaheadRead role start) := by
  intro h q hq
  simp only [Instr.request?, Option.some.injEq] at hq
  subst hq
  simp

theorem timingRead (role : Role) : Statement (.timingRead role) := by
  intro h q hq
  simp only [Instr.request?, Option.some.injEq] at hq
  subst hq
  simp

theorem busFader (role : Role) (source : Nat) (value : Int) : Statement (.busFader role source value) := by
  intro h q hq
  simp only [Instr.request?, Option.some.injEq] at hq
  subst hq
  simp

theorem busTrim (role : Role) (source : Nat) (value : Int) : Statement (.busTrim role source value) := by
  intro h q hq
  simp only [Instr.request?, Option.some.injEq] at hq
  subst hq
  simp

theorem micSwitch (role : Role) (source : Nat) (value : Nat) : Statement (.micSwitch role source value) := by
  intro h q hq
  simp only [Instr.request?, Option.some.injEq] at hq
  subst hq
  simp

theorem busRead (role : Role) : Statement (.busRead role) := by
  intro h q hq
  simp only [Instr.request?, Option.some.injEq] at hq
  subst hq
  simp

theorem lineAnswer (role : Role) (line : Nat) : Statement (.lineAnswer role line) := by
  intro h q hq
  simp only [Instr.request?, Option.some.injEq] at hq
  subst hq
  simp

theorem lineAccept (role : Role) (line : Nat) (name : List Byte) (topic : Nat) (priority : Nat) : Statement (.lineAccept role line name topic priority) := by
  intro h q hq
  simp only [Instr.wf, Bool.and_eq_true, decide_eq_true_eq] at h
  simp only [Instr.request?, Option.some.injEq] at hq
  subst hq
  simp
  omega

theorem lineReject (role : Role) (line : Nat) : Statement (.lineReject role line) := by
  intro h q hq
  simp only [Instr.request?, Option.some.injEq] at hq
  subst hq
  simp

theorem lineRelease (role : Role) (line : Nat) : Statement (.lineRelease role line) := by
  intro h q hq
  simp only [Instr.request?, Option.some.injEq] at hq
  subst hq
  simp

theorem lineTake (role : Role) (line : Nat) : Statement (.lineTake role line) := by
  intro h q hq
  simp only [Instr.request?, Option.some.injEq] at hq
  subst hq
  simp

theorem lineDrop (role : Role) (line : Nat) : Statement (.lineDrop role line) := by
  intro h q hq
  simp only [Instr.request?, Option.some.injEq] at hq
  subst hq
  simp

theorem lineService (role : Role) (line : Nat) (value : Nat) : Statement (.lineService role line value) := by
  intro h q hq
  simp only [Instr.request?, Option.some.injEq] at hq
  subst hq
  simp

theorem queueMove (role : Role) (line : Nat) (position : Nat) : Statement (.queueMove role line position) := by
  intro h q hq
  simp only [Instr.request?, Option.some.injEq] at hq
  subst hq
  simp

theorem linePin (role : Role) (line : Nat) : Statement (.linePin role line) := by
  intro h q hq
  simp only [Instr.request?, Option.some.injEq] at hq
  subst hq
  simp

theorem lineNotes (role : Role) (line : Nat) (name : List Byte) (topic : Nat) : Statement (.lineNotes role line name topic) := by
  intro h q hq
  simp only [Instr.wf, Bool.and_eq_true, decide_eq_true_eq] at h
  simp only [Instr.request?, Option.some.injEq] at hq
  subst hq
  simp
  omega

theorem callerRead (role : Role) (line : Nat) : Statement (.callerRead role line) := by
  intro h q hq
  simp only [Instr.request?, Option.some.injEq] at hq
  subst hq
  simp

theorem queueRead (role : Role) : Statement (.queueRead role) := by
  intro h q hq
  simp only [Instr.request?, Option.some.injEq] at hq
  subst hq
  simp

theorem classRead (role : Role) (cls : Nat) : Statement (.classRead role cls) := by
  intro h q hq
  simp only [Instr.request?, Option.some.injEq] at hq
  subst hq
  simp

theorem classWrite (role : Role) (cls : Nat) (action : Nat) (deadline : Nat) (required : Nat) : Statement (.classWrite role cls action deadline required) := by
  intro h q hq
  simp only [Instr.request?, Option.some.injEq] at hq
  subst hq
  simp

theorem classProbe (role : Role) (cls : Nat) (action : Nat) (deadline : Nat) (required : Nat) : Statement (.classProbe role cls action deadline required) := by
  intro h q hq
  simp only [Instr.request?, Option.some.injEq] at hq
  subst hq
  simp

theorem complianceLock (role : Role) : Statement (.complianceLock role) := by
  intro h q hq
  simp only [Instr.request?, Option.some.injEq] at hq
  subst hq
  simp

theorem alertCarry (role : Role) (origin : Nat) (number : Nat) : Statement (.alertCarry role origin number) := by
  intro h q hq
  simp only [Instr.request?, Option.some.injEq] at hq
  subst hq
  simp

theorem alertDismiss (role : Role) (origin : Nat) (number : Nat) : Statement (.alertDismiss role origin number) := by
  intro h q hq
  simp only [Instr.request?, Option.some.injEq] at hq
  subst hq
  simp

theorem alertRead (role : Role) (origin : Nat) (number : Nat) : Statement (.alertRead role origin number) := by
  intro h q hq
  simp only [Instr.request?, Option.some.injEq] at hq
  subst hq
  simp

theorem alertList (role : Role) : Statement (.alertList role) := by
  intro h q hq
  simp only [Instr.request?, Option.some.injEq] at hq
  subst hq
  simp

theorem carriageRead (role : Role) : Statement (.carriageRead role) := by
  intro h q hq
  simp only [Instr.request?, Option.some.injEq] at hq
  subst hq
  simp

theorem siteSet (role : Role) (param : Nat) (value : Nat) : Statement (.siteSet role param value) := by
  intro h q hq
  simp only [Instr.request?, Option.some.injEq] at hq
  subst hq
  simp

theorem siteRead (role : Role) : Statement (.siteRead role) := by
  intro h q hq
  simp only [Instr.request?, Option.some.injEq] at hq
  subst hq
  simp

theorem configWriteTolerance (role : Role) (value : Int) : Statement (.configWriteTolerance role value) := by
  intro h q hq
  simp only [Instr.request?, Option.some.injEq] at hq
  subst hq
  simp

theorem configWriteCueGrace (role : Role) (value : Int) : Statement (.configWriteCueGrace role value) := by
  intro h q hq
  simp only [Instr.request?, Option.some.injEq] at hq
  subst hq
  simp

theorem configWriteFillPlayer (role : Role) (value : Int) : Statement (.configWriteFillPlayer role value) := by
  intro h q hq
  simp only [Instr.request?, Option.some.injEq] at hq
  subst hq
  simp

theorem configWriteThreshold (role : Role) (value : Int) : Statement (.configWriteThreshold role value) := by
  intro h q hq
  simp only [Instr.request?, Option.some.injEq] at hq
  subst hq
  simp

theorem configWriteDeadAirLimit (role : Role) (value : Int) : Statement (.configWriteDeadAirLimit role value) := by
  intro h q hq
  simp only [Instr.request?, Option.some.injEq] at hq
  subst hq
  simp

theorem configWriteDuckDepth (role : Role) (value : Int) : Statement (.configWriteDuckDepth role value) := by
  intro h q hq
  simp only [Instr.request?, Option.some.injEq] at hq
  subst hq
  simp

theorem configWriteHoldLimit (role : Role) (value : Int) : Statement (.configWriteHoldLimit role value) := by
  intro h q hq
  simp only [Instr.request?, Option.some.injEq] at hq
  subst hq
  simp

theorem configWriteFoldBackLimit (role : Role) (value : Int) : Statement (.configWriteFoldBackLimit role value) := by
  intro h q hq
  simp only [Instr.request?, Option.some.injEq] at hq
  subst hq
  simp

theorem configWriteCalibration (role : Role) (item : Nat) (value : Int) : Statement (.configWriteCalibration role item value) := by
  intro h q hq
  simp only [Instr.request?, Option.some.injEq] at hq
  subst hq
  simp

theorem configRead (role : Role) : Statement (.configRead role) := by
  intro h q hq
  simp only [Instr.request?, Option.some.injEq] at hq
  subst hq
  simp

theorem clockSet (role : Role) (time : Nat) : Statement (.clockSet role time) := by
  intro h q hq
  simp only [Instr.request?, Option.some.injEq] at hq
  subst hq
  simp

theorem clockRead (role : Role) : Statement (.clockRead role) := by
  intro h q hq
  simp only [Instr.request?, Option.some.injEq] at hq
  subst hq
  simp

theorem ident (role : Role) : Statement (.ident role) := by
  intro h q hq
  simp only [Instr.request?, Option.some.injEq] at hq
  subst hq
  simp

theorem controllerReset (role : Role) : Statement (.controllerReset role) := by
  intro h q hq
  simp only [Instr.request?, Option.some.injEq] at hq
  subst hq
  simp

theorem eventsRead (role : Role) : Statement (.eventsRead role) := by
  intro h q hq
  simp only [Instr.request?, Option.some.injEq] at hq
  subst hq
  simp

theorem eventsClear (role : Role) (pairs : List (Nat × Nat)) : Statement (.eventsClear role pairs) := by
  intro h q hq
  simp only [Instr.wf, Bool.and_eq_true, decide_eq_true_eq] at h
  simp only [Instr.request?, Option.some.injEq] at hq
  subst hq
  simp
  omega

theorem eventsMask (role : Role) (mask : Vector Byte 24) : Statement (.eventsMask role mask) := by
  intro h q hq
  simp only [Instr.request?, Option.some.injEq] at hq
  subst hq
  simp

theorem powerOnReset (levels : PinLevels) : Statement (.powerOnReset levels) := by
  intro h q hq
  simp [Instr.request?] at hq

theorem goEdge : Statement (.goEdge) := by
  intro h q hq
  simp [Instr.request?] at hq

theorem netAEdge : Statement (.netAEdge) := by
  intro h q hq
  simp [Instr.request?] at hq

theorem netBEdge : Statement (.netBEdge) := by
  intro h q hq
  simp [Instr.request?] at hq

theorem endInput (player : Fin 4) : Statement (.endInput player) := by
  intro h q hq
  simp [Instr.request?] at hq

theorem endTimer : Statement (.endTimer) := by
  intro h q hq
  simp [Instr.request?] at hq

theorem seguePoint : Statement (.seguePoint) := by
  intro h q hq
  simp [Instr.request?] at hq

theorem outgoingEnd : Statement (.outgoingEnd) := by
  intro h q hq
  simp [Instr.request?] at hq

theorem graceDeadline : Statement (.graceDeadline) := by
  intro h q hq
  simp [Instr.request?] at hq

theorem postInstant : Statement (.postInstant) := by
  intro h q hq
  simp [Instr.request?] at hq

theorem cutInstant : Statement (.cutInstant) := by
  intro h q hq
  simp [Instr.request?] at hq

theorem cutCompletion (player : Fin 4) : Statement (.cutCompletion player) := by
  intro h q hq
  simp [Instr.request?] at hq

theorem fillWithdrawalEnd (player : Fin 4) : Statement (.fillWithdrawalEnd player) := by
  intro h q hq
  simp [Instr.request?] at hq

theorem gainUpdate : Statement (.gainUpdate) := by
  intro h q hq
  simp [Instr.request?] at hq

theorem deadAirWindow : Statement (.deadAirWindow) := by
  intro h q hq
  simp [Instr.request?] at hq

theorem periodicTimer : Statement (.periodicTimer) := by
  intro h q hq
  simp [Instr.request?] at hq

theorem ringEvent (line : Fin 6) : Statement (.ringEvent line) := by
  intro h q hq
  simp [Instr.request?] at hq

theorem loopEdge (line : Fin 6) (level : Bool) : Statement (.loopEdge line level) := by
  intro h q hq
  simp [Instr.request?] at hq

theorem loopDrop (line : Fin 6) : Statement (.loopDrop line) := by
  intro h q hq
  simp [Instr.request?] at hq

theorem ringTimer (line : Fin 6) : Statement (.ringTimer line) := by
  intro h q hq
  simp [Instr.request?] at hq

theorem clearingTimer (line : Fin 6) : Statement (.clearingTimer line) := by
  intro h q hq
  simp [Instr.request?] at hq

theorem holdTimer (line : Fin 6) : Statement (.holdTimer line) := by
  intro h q hq
  simp [Instr.request?] at hq

theorem issue (frame : IssueFrame) : Statement (.issue frame) := by
  intro h q hq
  simp [Instr.request?] at hq

theorem cancel (origin : Nat) (number : Nat) : Statement (.cancel origin number) := by
  intro h q hq
  simp [Instr.request?] at hq

theorem audioEnd : Statement (.audioEnd) := by
  intro h q hq
  simp [Instr.request?] at hq

theorem audioFail : Statement (.audioFail) := by
  intro h q hq
  simp [Instr.request?] at hq

theorem alertFrameAbandoned (bytes : List Byte) : Statement (.alertFrameAbandoned bytes) := by
  intro h q hq
  simp [Instr.request?] at hq

theorem alertFrameGap : Statement (.alertFrameGap) := by
  intro h q hq
  simp [Instr.request?] at hq

theorem alertFrameSent : Statement (.alertFrameSent) := by
  intro h q hq
  simp [Instr.request?] at hq

theorem validFrom (slot : Fin 8) : Statement (.validFrom slot) := by
  intro h q hq
  simp [Instr.request?] at hq

theorem expiry (slot : Fin 8) : Statement (.expiry slot) := by
  intro h q hq
  simp [Instr.request?] at hq

theorem nextEligible (slot : Fin 8) : Statement (.nextEligible slot) := by
  intro h q hq
  simp [Instr.request?] at hq

theorem deadlineExpiry (slot : Fin 8) : Statement (.deadlineExpiry slot) := by
  intro h q hq
  simp [Instr.request?] at hq

theorem guardExpiry : Statement (.guardExpiry) := by
  intro h q hq
  simp [Instr.request?] at hq

theorem ack (sequence : Nat) (param : Nat) (value : Nat) : Statement (.ack sequence param value) := by
  intro h q hq
  simp [Instr.request?] at hq

theorem nak (sequence : Nat) (reason : Nat) : Statement (.nak sequence reason) := by
  intro h q hq
  simp [Instr.request?] at hq

theorem reading (sequence : Nat) (channel : Nat) (code : Nat) : Statement (.reading sequence channel code) := by
  intro h q hq
  simp [Instr.request?] at hq

theorem siteState (active : Nat) (carrier : Nat) (audio : Nat) (fallback : Nat) : Statement (.siteState active carrier audio fallback) := by
  intro h q hq
  simp [Instr.request?] at hq

theorem siteFrameAbandoned (bytes : List Byte) : Statement (.siteFrameAbandoned bytes) := by
  intro h q hq
  simp [Instr.request?] at hq

theorem siteFrameGap : Statement (.siteFrameGap) := by
  intro h q hq
  simp [Instr.request?] at hq

theorem siteFrameSent : Statement (.siteFrameSent) := by
  intro h q hq
  simp [Instr.request?] at hq

theorem keepTimer : Statement (.keepTimer) := by
  intro h q hq
  simp [Instr.request?] at hq

theorem pollTimer : Statement (.pollTimer) := by
  intro h q hq
  simp [Instr.request?] at hq

theorem ackTimeout (sequence : Nat) : Statement (.ackTimeout sequence) := by
  intro h q hq
  simp [Instr.request?] at hq

theorem retryTimer (param : Param) : Statement (.retryTimer param) := by
  intro h q hq
  simp [Instr.request?] at hq

theorem silenceTimerDegrade : Statement (.silenceTimerDegrade) := by
  intro h q hq
  simp [Instr.request?] at hq

theorem silenceTimerLoss : Statement (.silenceTimerLoss) := by
  intro h q hq
  simp [Instr.request?] at hq

theorem changeoverTimer : Statement (.changeoverTimer) := by
  intro h q hq
  simp [Instr.request?] at hq

theorem readingStale (channel : Fin 8) : Statement (.readingStale channel) := by
  intro h q hq
  simp [Instr.request?] at hq

theorem cueInputFall (input : CueInput) : Statement (.cueInputFall input) := by
  intro h q hq
  simp [Instr.request?] at hq

theorem ringFall (line : Fin 6) : Statement (.ringFall line) := by
  intro h q hq
  simp [Instr.request?] at hq

theorem samplePeriod (lanes : Vector Sample 14) (talkback : Sample) : Statement (.samplePeriod lanes talkback) := by
  intro h q hq
  simp [Instr.request?] at hq

end Sys2Proof.Laws.Request
end

