-- ==== Sys2Proof/Laws/Walk.lean ====
section
/-! SUPPORT. What a resolution does where it appends nothing or one entry, and what one pass of the procedure of R47
does: the lemmas that a proof cites in place of unfolding the two bounded loops. -/

namespace Sys2Proof.Machine

set_option Elab.async false

/-! ### The walk (R25) -/

theorem Walk.run_stopped (st : Store) (n : Nat) (w : Walk) (h : w.stopped = true) : Walk.run st n w = w := by
  cases n <;> simp [Walk.run, h]

theorem Walk.run_full (st : Store) (n : Nat) (w : Walk) (h : 64 ≤ w.look.length) : Walk.run st n w = w := by
  cases n <;> simp [Walk.run, h]

theorem Walk.run_more (st : Store) (n : Nat) (w : Walk) (h : w.stopped = false) (h2 : w.look.length < 64) :
    Walk.run st (n + 1) w = Walk.run st n (w.step st) := by
  simp [Walk.run, h, Nat.not_le.mpr h2]

/-- Whether a lookahead ends with an END marker. -/
theorem resolve_open (st : Store) (ctx : Context) (look : List Resolved) (drawn : Vector Bool 17)
    (h : look.getLast?.any Resolved.isEnd = false) :
    resolve st ctx look drawn =
      Walk.run st walkFuel { ctx, look, breakNext := false, drawn, faults := [], stopped := false } := by
  unfold resolve
  cases hl : look.getLast? with
  | none => rfl
  | some r =>
    have : r.isEnd = false := by simpa [hl] using h
    simp only [this]

/-- A lookahead whose tail is an END marker gains nothing (R25). -/
theorem resolve_ended (st : Store) (ctx : Context) (look : List Resolved) (drawn : Vector Bool 17)
    (h : look.getLast?.any Resolved.isEnd = true) :
    resolve st ctx look drawn = { ctx, look, breakNext := false, drawn, faults := [], stopped := true } := by
  unfold resolve
  cases hl : look.getLast? with
  | none => simp [hl] at h
  | some r =>
    have : r.isEnd = true := by simpa [hl] using h
    simp only [this]
    exact Walk.run_stopped _ _ _ rfl

/-- A resolution that stands at the end of a list, with no call frame, appends the end-of-list END marker (R27). -/
theorem resolve_end (st : Store) (ctx : Context) (look : List Resolved) (drawn : Vector Bool 17)
    (h : look.getLast?.any Resolved.isEnd = false) (hl : look.length < 64) (hn : st.next ctx.pos = none)
    (hc : ctx.call = none) :
    resolve st ctx look drawn =
      ({ ctx, look, breakNext := false, drawn, faults := [], stopped := false } : Walk).endOfList ctx.pos.list := by
  rw [resolve_open _ _ _ _ h, show walkFuel = 1099511627775 + 1 from rfl, Walk.run_more _ _ _ rfl hl]
  have : Walk.step { ctx, look, breakNext := false, drawn, faults := [], stopped := false } st =
      ({ ctx, look, breakNext := false, drawn, faults := [], stopped := false } : Walk).endOfList ctx.pos.list := by
    simp only [Walk.step, hn]
  rw [this]
  exact Walk.run_stopped _ _ _ (by simp [Walk.endOfList, hc])

/-! ### Alerts at break points (R36) -/

@[simp] theorem realignAlerts_length (ctx : Context) (l : List Resolved) : (realignAlerts ctx l).length = l.length := by
  induction l generalizing ctx with
  | nil => rfl
  | cons r rest ih => unfold realignAlerts; split <;> simp [ih]

/-- Realigning writes contexts after alone: every source stays in its place. -/
theorem realignAlerts_sources (ctx : Context) (l : List Resolved) :
    (realignAlerts ctx l).map Resolved.source = l.map Resolved.source := by
  induction l generalizing ctx with
  | nil => rfl
  | cons r rest ih => unfold realignAlerts; split <;> simp [ih]

/-- A lookahead without alerts is left as it is. -/
theorem realignAlerts_items (ctx : Context) (l : List Resolved) (h : ∀ r ∈ l, r.isAlert = false) :
    realignAlerts ctx l = l := by
  induction l generalizing ctx with
  | nil => rfl
  | cons r rest ih =>
    unfold realignAlerts
    rw [if_neg (by simp [h r (by simp)]), ih _ fun x hx => h x (by simp [hx])]

/-! ### Taking the head (R47) -/

theorem State.takeHead_loop (s : State) (m : TakeMode) :
    s.takeHead m = takeLoop (18446744073709551615 + 1) m s := rfl

/-- At an END marker the procedure comes to rest in STOPPED (R47, step 2). -/
theorem takeLoop_end (n : Nat) (m : TakeMode) (s : State) (r : Resolved) (hr : s.head? = some r)
    (hs : r.source = .endMark none) : takeLoop (n + 1) m s = some (s.enterState .stopped) := by
  simp [takeLoop, hr, hs, Source.handle]

/-- An item entry that is live, bears no drop mark and needs no go, with no hold demand and no watch that keeps it
waiting, is started (R47, steps 4 to 8). -/
theorem takeLoop_item (n : Nat) (m : TakeMode) (s : State) (r : Resolved) (h : Nat) (l : ListId) (b : Body)
    (hr : s.head? = some r) (hs : r.source = .item h l b) (hl : s.store.live h = true) (hd : r.dropMark = false)
    (hh : s.air.holdDemand = false) (hp : s.beforePost r = false) (hg : b.needsGo s.air.mode = false)
    (ht : (s.startItem r b).2 = true) : takeLoop (n + 1) m s = some (s.startItem r b).1 := by
  have h1 : ¬(h ≠ 0 ∧ (!s.store.live h) = true) := by simp [hl]
  cases m <;> simp [takeLoop, hr, hs, Source.handle, hl, hd, hh, hp, State.goGiven, hg, ht]

end Sys2Proof.Machine
end

