-- ==== Sys2Proof/Laws/Requests.lean ====
section
/-! SUPPORT. The one form that every request of the command port has: discarded over an unread response, refused for a
role the permission table does not list, else answered by its owner (R188, R189). -/

namespace Sys2Proof.Machine

set_option Elab.async false

/-- A request that only answers is a request. -/
theorem form_of_read {code : Nat} {role : Role} {roles : List Role} {i : Instr} {o : State → Reply}
    (h : ∀ s, exec i s = readRequest code role roles s o) :
    ∃ owner : State → Option (State × Reply), ∀ s, exec i s = request code role roles s owner := ⟨_, h⟩

/-- A request's meaning is `request` under its code and the roles that the permission table lists for it. -/
theorem Instr.exec_request (i : Instr) (role : Role) (code : Nat) (fields : List Byte)
    (h : i.request? = some (role, code, fields)) :
    ∃ owner : State → Option (State × Reply), ∀ s, exec i s = request code role (Safety.permittedRoles code) s owner := by
  cases i <;> simp only [Instr.request?, Option.some.injEq, Prod.mk.injEq, reduceCtorEq] at h <;>
    obtain ⟨rfl, rfl, rfl⟩ := h <;>
    first
    | exact ⟨_, fun _ => rfl⟩
    | exact form_of_read fun _ => rfl
    | (apply Exists.intro; intro s
       simp only [exec, execConfigWriteTolerance, execConfigWriteCueGrace, execConfigWriteThreshold,
         execConfigWriteDeadAirLimit, execConfigWriteDuckDepth, execConfigWriteHoldLimit,
         execConfigWriteFoldBackLimit, execEventsMask]
       rfl)

/-- Over an unread response every request is discarded, and nothing but the occurrence's record changes (R189). -/
theorem Instr.exec_overrun (i : Instr) (role : Role) (code : Nat) (fields : List Byte)
    (h : i.request? = some (role, code, fields)) (s : State) (hs : s.port.response.isSome = true) :
    exec i s = .next (s.overrun (some (BitVec.ofNat 8 code))) := by
  obtain ⟨owner, ho⟩ := Instr.exec_request i role code fields h
  rw [ho, request, if_pos hs]

end Sys2Proof.Machine
end

