-- ==== Sys2Proof/Tests/Slice0.lean ====
section
/-! SUPPORT. Tests: the ill-formed terms that Instr.wf refuses, request frames written out from R200 to R202, worked
numbers of the manual, single steps, and for each statement with hypotheses a state that meets them all. -/

set_option Elab.async false

namespace Sys2Proof.Tests

open Sys2Proof Sys2Proof.Machine Sys2Proof.Safety

/-! ### Well-formed commands -/

/-- An entry body with every byte zero. -/
def raw : RawEntry :=
  { list := 0, kind := 0, cart := 0, planned := 0, segue := 0, timing := 0, stretchMin := 0, stretchMax := 0,
    postTime := 0, postKind := 0, waitForGo := 0, breakAfter := 0, oneShot := 0, timed := 0, cueStart := 0,
    spanCount := 0, breakNumber := 0, callers := 0, endAction := 0, endOnLast := 0 }

/-- An ISSUE payload with every byte zero. -/
def frame : IssueFrame :=
  { origin := 0, number := 0, revision := 0, cls := 0, validFrom := 0, expires := 0, declared := 0, required := 0,
    interval := 0, test := 0 }

/-- A field of a command is refused from 256^k on and accepted just below. -/
def limits (t : (Nat → Instr) × Nat) : Bool := !(t.1 (256 ^ t.2)).wf && (t.1 (256 ^ t.2 - 1)).wf

/-- A signed field of a command is accepted at both ends of two bytes and refused beyond each. -/
def signedLimits (t : Int → Instr) : Bool :=
  !(t 32768).wf && (t 32767).wf && !(t (-32769)).wf && (t (-32768)).wf

theorem test_wf_refuses_1 :
    [(fun n => .roInsert .automation n raw, 2),
     (fun n => .roChange .automation n raw, 2),
     (fun n => .roMove .automation n 0 0, 2),
     (fun n => .roMove .automation 0 n 0, 1),
     (fun n => .roMove .automation 0 0 n, 2),
     (fun n => .roDelete .automation n, 2),
     (fun n => .breakClear .automation n, 1),
     (fun n => .roRead .automation n, 2),
     (fun n => .roList .automation n 0, 1),
     (fun n => .roList .automation 0 n, 2),
     (fun n => .airMode .automation n, 1),
     (fun n => .airHoldAtPoint .automation n, 1),
     (fun n => .airCueTo .automation n, 2),
     (fun n => .playerCue .automation n 0 0, 1),
     (fun n => .playerCue .automation 0 n 0, 4),
     (fun n => .playerCue .automation 0 0 n, 4),
     (fun n => .playerClear .automation n, 1),
     (fun n => .playerRead .automation n, 1),
     (fun n => .lookaheadRead .automation n, 1)].all limits = true := by
  decide +kernel

theorem test_wf_refuses_2 :
    [(fun n => .busFader .automation n 0, 1),
     (fun n => .busTrim .automation n 0, 1),
     (fun n => .micSwitch .automation n 0, 1),
     (fun n => .micSwitch .automation 0 n, 1),
     (fun n => .lineAnswer .automation n, 1),
     (fun n => .lineAccept .automation n [] 0 0, 1),
     (fun n => .lineAccept .automation 0 [] n 0, 2),
     (fun n => .lineAccept .automation 0 [] 0 n, 1),
     (fun n => .lineReject .automation n, 1),
     (fun n => .lineRelease .automation n, 1),
     (fun n => .lineTake .automation n, 1),
     (fun n => .lineDrop .automation n, 1),
     (fun n => .lineService .automation n 0, 1),
     (fun n => .lineService .automation 0 n, 1),
     (fun n => .queueMove .automation n 0, 1),
     (fun n => .queueMove .automation 0 n, 1),
     (fun n => .linePin .automation n, 1),
     (fun n => .lineNotes .automation n [] 0, 1),
     (fun n => .lineNotes .automation 0 [] n, 2)].all limits = true := by
  decide +kernel

theorem test_wf_refuses_3 :
    [(fun n => .callerRead .automation n, 1),
     (fun n => .classRead .automation n, 1),
     (fun n => .classWrite .automation n 0 0 0, 1),
     (fun n => .classWrite .automation 0 n 0 0, 1),
     (fun n => .classWrite .automation 0 0 n 0, 2),
     (fun n => .classWrite .automation 0 0 0 n, 1),
     (fun n => .classProbe .automation n 0 0 0, 1),
     (fun n => .classProbe .automation 0 n 0 0, 1),
     (fun n => .classProbe .automation 0 0 n 0, 2),
     (fun n => .classProbe .automation 0 0 0 n, 1),
     (fun n => .alertCarry .automation n 0, 1),
     (fun n => .alertCarry .automation 0 n, 2),
     (fun n => .alertDismiss .automation n 0, 1),
     (fun n => .alertDismiss .automation 0 n, 2),
     (fun n => .alertRead .automation n 0, 1),
     (fun n => .alertRead .automation 0 n, 2),
     (fun n => .siteSet .automation n 0, 1),
     (fun n => .siteSet .automation 0 n, 2),
     (fun n => .configWriteCalibration .automation n 0, 1)].all limits = true := by
  decide +kernel

theorem test_wf_refuses_4 :
    [(fun n => .clockSet .automation n, 6),
     (fun n => .cancel n 0, 1),
     (fun n => .cancel 0 n, 2),
     (fun n => .ack n 0 0, 1),
     (fun n => .ack 0 n 0, 1),
     (fun n => .ack 0 0 n, 2),
     (fun n => .nak n 0, 1),
     (fun n => .nak 0 n, 1),
     (fun n => .reading n 0 0, 1),
     (fun n => .reading 0 n 0, 1),
     (fun n => .reading 0 0 n, 2),
     (fun n => .siteState n 0 0 0, 1),
     (fun n => .siteState 0 n 0 0, 1),
     (fun n => .siteState 0 0 n 0, 1),
     (fun n => .siteState 0 0 0 n, 1),
     (fun n => .ackTimeout n, 1)].all limits = true := by
  decide +kernel

theorem test_wf_refuses_signed :
    [fun v => .busFader .automation 0 v,
     fun v => .busTrim .automation 0 v,
     fun v => .configWriteTolerance .automation v,
     fun v => .configWriteCueGrace .automation v,
     fun v => .configWriteFillPlayer .automation v,
     fun v => .configWriteThreshold .automation v,
     fun v => .configWriteDeadAirLimit .automation v,
     fun v => .configWriteDuckDepth .automation v,
     fun v => .configWriteHoldLimit .automation v,
     fun v => .configWriteFoldBackLimit .automation v,
     fun v => .configWriteCalibration .automation 0 v].all signedLimits = true := by
  decide +kernel

theorem test_wf_refuses_insert_body :
    [(fun n => .roInsert .automation 0 { raw with list := n }, 1),
     (fun n => .roInsert .automation 0 { raw with kind := n }, 1),
     (fun n => .roInsert .automation 0 { raw with cart := n }, 4),
     (fun n => .roInsert .automation 0 { raw with planned := n }, 4),
     (fun n => .roInsert .automation 0 { raw with segue := n }, 4),
     (fun n => .roInsert .automation 0 { raw with timing := n }, 1),
     (fun n => .roInsert .automation 0 { raw with stretchMin := n }, 4),
     (fun n => .roInsert .automation 0 { raw with stretchMax := n }, 4),
     (fun n => .roInsert .automation 0 { raw with postTime := n }, 4),
     (fun n => .roInsert .automation 0 { raw with postKind := n }, 1),
     (fun n => .roInsert .automation 0 { raw with waitForGo := n }, 1),
     (fun n => .roInsert .automation 0 { raw with breakAfter := n }, 1),
     (fun n => .roInsert .automation 0 { raw with oneShot := n }, 1),
     (fun n => .roInsert .automation 0 { raw with timed := n }, 1),
     (fun n => .roInsert .automation 0 { raw with cueStart := n }, 1),
     (fun n => .roInsert .automation 0 { raw with spanCount := n }, 1),
     (fun n => .roInsert .automation 0 { raw with breakNumber := n }, 1),
     (fun n => .roInsert .automation 0 { raw with callers := n }, 1),
     (fun n => .roInsert .automation 0 { raw with endAction := n }, 1),
     (fun n => .roInsert .automation 0 { raw with endOnLast := n }, 1)].all limits = true := by
  decide +kernel

theorem test_wf_refuses_change_body :
    [(fun n => .roChange .automation 0 { raw with list := n }, 1),
     (fun n => .roChange .automation 0 { raw with kind := n }, 1),
     (fun n => .roChange .automation 0 { raw with cart := n }, 4),
     (fun n => .roChange .automation 0 { raw with planned := n }, 4),
     (fun n => .roChange .automation 0 { raw with segue := n }, 4),
     (fun n => .roChange .automation 0 { raw with timing := n }, 1),
     (fun n => .roChange .automation 0 { raw with stretchMin := n }, 4),
     (fun n => .roChange .automation 0 { raw with stretchMax := n }, 4),
     (fun n => .roChange .automation 0 { raw with postTime := n }, 4),
     (fun n => .roChange .automation 0 { raw with postKind := n }, 1),
     (fun n => .roChange .automation 0 { raw with waitForGo := n }, 1),
     (fun n => .roChange .automation 0 { raw with breakAfter := n }, 1),
     (fun n => .roChange .automation 0 { raw with oneShot := n }, 1),
     (fun n => .roChange .automation 0 { raw with timed := n }, 1),
     (fun n => .roChange .automation 0 { raw with cueStart := n }, 1),
     (fun n => .roChange .automation 0 { raw with spanCount := n }, 1),
     (fun n => .roChange .automation 0 { raw with breakNumber := n }, 1),
     (fun n => .roChange .automation 0 { raw with callers := n }, 1),
     (fun n => .roChange .automation 0 { raw with endAction := n }, 1),
     (fun n => .roChange .automation 0 { raw with endOnLast := n }, 1)].all limits = true := by
  decide +kernel

theorem test_wf_refuses_issue :
    [(fun n => .issue { frame with origin := n }, 1),
     (fun n => .issue { frame with number := n }, 2),
     (fun n => .issue { frame with revision := n }, 1),
     (fun n => .issue { frame with cls := n }, 1),
     (fun n => .issue { frame with validFrom := n }, 6),
     (fun n => .issue { frame with expires := n }, 6),
     (fun n => .issue { frame with declared := n }, 2),
     (fun n => .issue { frame with required := n }, 1),
     (fun n => .issue { frame with interval := n }, 1),
     (fun n => .issue { frame with test := n }, 1)].all limits = true := by
  decide +kernel

theorem test_wf_refuses_lists :
    (Instr.lineAccept .screener 1 (List.replicate 54 0x41#8) 0 0).wf = false ∧
    (Instr.lineAccept .screener 1 (List.replicate 53 0x41#8) 0 0).wf = true ∧
    (Instr.lineNotes .screener 1 (List.replicate 55 0x41#8) 0).wf = false ∧
    (Instr.lineNotes .screener 1 (List.replicate 54 0x41#8) 0).wf = true ∧
    (Instr.eventsClear .presenter (List.replicate 29 (1, 1))).wf = false ∧
    (Instr.eventsClear .presenter (List.replicate 28 (1, 1))).wf = true ∧
    (Instr.eventsClear .presenter [(256, 1)]).wf = false ∧ (Instr.eventsClear .presenter [(1, 256)]).wf = false ∧
    (Instr.configWriteCalibration .engineer 1 0).wf = false ∧ (Instr.configWriteCalibration .engineer 8 0).wf = false ∧
    (Instr.configWriteCalibration .engineer 9 0).wf = true := by
  decide +kernel

/-! ### Request frames, written out from R200 to R202 with the check of R199 -/

theorem test_check_of_nine_digits :
    crc [0x31#8, 0x32#8, 0x33#8, 0x34#8, 0x35#8, 0x36#8, 0x37#8, 0x38#8, 0x39#8] = 0x29B1 := by
  decide +kernel

theorem test_frame_insert :
    decodeRequest
      [0x00#8, 0x2C#8, 0x01#8, 0x10#8, 0x00#8, 0x00#8, 0x00#8, 0x01#8, 0x00#8, 0x00#8, 0x9C#8, 0xB5#8,
       0x00#8, 0x03#8, 0x47#8, 0xD8#8, 0x00#8, 0x00#8, 0x0B#8, 0xB8#8, 0x01#8, 0x00#8, 0x00#8, 0x00#8,
       0x00#8, 0x00#8, 0x00#8, 0x00#8, 0x00#8, 0x00#8, 0x00#8, 0x00#8, 0x00#8, 0x00#8, 0x00#8, 0x00#8,
       0x00#8, 0x00#8, 0x00#8, 0x00#8, 0x00#8, 0x00#8, 0x00#8, 0x00#8, 0xE6#8, 0xDE#8] =
      .request (.roInsert .automation 0 { raw with kind := 1, cart := 40117, planned := 215000, segue := 3000, timing := 1 }) := by
  decide +kernel

theorem test_frame_move :
    decodeRequest
      [0x00#8, 0x09#8, 0x01#8, 0x12#8, 0x02#8, 0x04#8, 0x03#8, 0x02#8, 0x03#8, 0xE9#8, 0xFD#8] =
      .request (.roMove .automation 516 3 515) := by
  decide +kernel

theorem test_frame_go :
    decodeRequest
      [0x00#8, 0x04#8, 0x02#8, 0x21#8, 0x0A#8, 0x21#8] =
      .request (.airGo .presenter) := by
  decide +kernel

theorem test_frame_cue :
    decodeRequest
      [0x00#8, 0x0D#8, 0x01#8, 0x2B#8, 0x01#8, 0x00#8, 0x00#8, 0x9C#8, 0xB5#8, 0x00#8, 0x03#8, 0x47#8,
       0xD8#8, 0x83#8, 0xB6#8] =
      .request (.playerCue .automation 1 40117 215000) := by
  decide +kernel

theorem test_frame_lookahead :
    decodeRequest
      [0x00#8, 0x05#8, 0x03#8, 0x30#8, 0x3F#8, 0x36#8, 0x30#8] =
      .request (.lookaheadRead .screener 63) := by
  decide +kernel

theorem test_frame_timing :
    decodeRequest
      [0x00#8, 0x04#8, 0x04#8, 0x31#8, 0xB2#8, 0xB6#8] =
      .request (.timingRead .engineer) := by
  decide +kernel

theorem test_frame_fader :
    decodeRequest
      [0x00#8, 0x07#8, 0x02#8, 0x38#8, 0x0D#8, 0xFF#8, 0x60#8, 0xF9#8, 0x2E#8] =
      .request (.busFader .presenter 13 (-160)) := by
  decide +kernel

theorem test_frame_accept :
    decodeRequest
      [0x00#8, 0x0B#8, 0x03#8, 0x41#8, 0x02#8, 0x02#8, 0x4A#8, 0x4F#8, 0xFF#8, 0xFF#8, 0x03#8, 0x49#8,
       0x24#8] =
      .request (.lineAccept .screener 2 [0x4A#8, 0x4F#8] 65535 3) := by
  decide +kernel

theorem test_frame_class :
    decodeRequest
      [0x00#8, 0x09#8, 0x04#8, 0x51#8, 0x14#8, 0x02#8, 0x02#8, 0x58#8, 0x01#8, 0x2C#8, 0xEA#8] =
      .request (.classWrite .engineer 20 2 600 1) := by
  decide +kernel

theorem test_frame_carry :
    decodeRequest
      [0x00#8, 0x07#8, 0x02#8, 0x54#8, 0x07#8, 0x00#8, 0x0A#8, 0xE6#8, 0x1C#8] =
      .request (.alertCarry .presenter 7 10) := by
  decide +kernel

theorem test_frame_site :
    decodeRequest
      [0x00#8, 0x07#8, 0x04#8, 0x60#8, 0x02#8, 0x00#8, 0xFA#8, 0xC9#8, 0x6E#8] =
      .request (.siteSet .engineer 2 250) := by
  decide +kernel

theorem test_frame_config :
    decodeRequest
      [0x00#8, 0x07#8, 0x04#8, 0x70#8, 0x09#8, 0xFF#8, 0xF4#8, 0xC0#8, 0x09#8] =
      .request (.configWriteCalibration .engineer 9 (-12)) := by
  decide +kernel

theorem test_frame_clock :
    decodeRequest
      [0x00#8, 0x0A#8, 0x01#8, 0x72#8, 0x00#8, 0x00#8, 0x02#8, 0xF8#8, 0xF4#8, 0xB0#8, 0x72#8, 0xB5#8] =
      .request (.clockSet .automation 49870000) := by
  decide +kernel

theorem test_frame_ident :
    decodeRequest
      [0x00#8, 0x04#8, 0x04#8, 0x74#8, 0xAA#8, 0xD7#8] =
      .request (.ident .engineer) := by
  decide +kernel

theorem test_frame_clear :
    decodeRequest
      [0x00#8, 0x09#8, 0x02#8, 0x77#8, 0x02#8, 0x0C#8, 0x01#8, 0x0E#8, 0x03#8, 0x83#8, 0xA8#8] =
      .request (.eventsClear .presenter [(12, 1), (14, 3)]) := by
  decide +kernel


/-! ### Worked numbers of the manual -/

theorem test_handles_and_generations : makeHandle 3 37 = 1573 ∧ handleGen 1573 = 3 ∧ handleSlot 1573 = 37 ∧
    nextGen 127 = 1 ∧ nextGen 1 = 2 := by
  decide +kernel

/-- R7: its two examples of clamped stretch bounds. -/
theorem test_stretch_bounds_clamped : clampTiming 180000 (.stretch 190000 240000) = .stretch 180000 240000 ∧
    clampTiming 120000 (.stretch 50000 90000) = .stretch 50000 120000 := by
  decide +kernel

/-- Section 4.9, cases one and three. -/
theorem test_stretch_shares : stretchShares 56000 [41000, 30000] = [32338, 23662] ∧
    stretchShares 20000 [10000, 10000, 1000] = [9523, 9524, 953] ∧
    stretchShares 19000 [10000, 10000, 1000] = [9047, 9048, 905] := by
  decide +kernel

/-- Sections 9.11 and 9.12: 250 W and 300 W under an offset of -12, 1,217 back to 300 W, 40 W forward, 8 W reflected. -/
theorem test_power_codes : toCode 200 (-12) = 807 ∧ toCode 250 (-12) = 1012 ∧ toCode 300 (-12) = 1217 ∧
    toWatts 1217 (-12) = 300 ∧ readingValue 0 2098 = 40 ∧ readingValue 1 4195 = 8 := by
  decide +kernel

/-- Section 5.10: a FADE 160 ms into 4,000, and a CUT from -40 half way. -/
theorem test_ramps : rampGain 0 160 4000 = -7 ∧ rampGain (-40) 10 20 = -100 ∧ rampGain 0 10 20 = -80 ∧
    rampGain 0 20 20 = -160 := by
  decide +kernel

/-- Section 4.9: the post instant of 14:00 from 13:52:10, and of midnight from 23:58 the day before. -/
theorem test_post_instants : postInstantFrom 49930000 50400000 = 50400000 ∧
    postInstantFrom 86280000 0 = 86400000 := by
  decide +kernel

/-- The literal is 10^(1/40) in 2,048 binary places, rounded down. -/
theorem test_root_of_ten : rootTen ^ 40 ≤ 10 * 2 ^ (40 * rootPlaces) ∧
    10 * 2 ^ (40 * rootPlaces) < (rootTen + 1) ^ 40 := by
  decide +kernel

/-- R95: full scale at gain 0 stays, at -40 is a tenth, and at mute is nothing. -/
theorem test_contributions : roundMix (contribution 8388607 0) = 8388607 ∧
    roundMix (contribution 1000 (-40)) = 100 ∧ roundMix (contribution (-1000) (-40)) = -100 ∧
    contribution 8388607 (-160) = 0 ∧ sampleOf 9000000 = 8388607#24 := by
  decide +kernel

/-! ### Small states -/

/-- The reset state at a monotonic and a station time. -/
def atTime (mono station : Nat) : State :=
  { State.reset with clock := { mono, station, unset := false } }

/-- The state with an air sequencer changed. -/
def onAirSide (f : Air → Air) (s : State) : State := { s with air := f s.air }

/-- An item without a post that waits for no go. -/
def plain : ItemFields :=
  { planned := 1000, timing := .fixed, post := none, waitForGo := false, breakAfter := false, oneShot := false }

/-- A resolved entry of handle 512 in MAIN. -/
def resolved (b : Body) : Resolved :=
  { source := .item 512 0 b, iteration := [], fromBreak := none, breakStart := false, effective := 1000,
    dropMark := false, after := { pos := .after 512 0, stack := [], call := none } }

/-- A store with one entry, of handle 512 in MAIN. -/
def storeOf (b : Body) : Store :=
  { slots := [(0, { gen := 1, entry := some { list := 0, body := b } })]
    orders := (Vector.replicate 17 []).set 0 [512] }

/-- One entry in the store and in the lookahead, followed by the end of the running order. -/
def oneEntry (b : Body) : State :=
  { atTime 1000 1000 with
    store := storeOf b
    interp := { State.reset.interp with look := [resolved b, Resolved.endOfMain] } }

/-- The on-air record of that entry, PLAYING since 0. -/
def playing (b : Body) (player : Option (Fin 4)) : OnAir :=
  { source := .item 512 0 b, iteration := [], phase := .playing 0 0, player, frozen := 1000, segue := b.segue,
    endTimer := some 1000, seguePoint := none }

/-- The one entry is on air and held. -/
def oneOnAir (b : Body) (player : Option (Fin 4)) : State :=
  let s := oneEntry b
  { s with
    interp := { s.interp with held := true }
    air := { s.air with state := .running, onAir := some (playing b player) } }

/-- The entry bodies used here. -/
def live : Body := .live true plain
def join : Body := .join false true plain
def music : Body := .audio .music 1 0 plain
def cue : Cue := { cart := 1, length := 5000 }

/-- A line's caller record changed. -/
def withCaller (l : Fin 6) (f : Caller → Caller) (s : State) : State := s.putCaller l (f (s.caller l))

/-- A line in a state at 10,000 ms. -/
def lineIn (l : Fin 6) (x : LineState) : State := withCaller l (fun c => { c with state := x }) (atTime 10000 10000)

/-- An ISSUE payload in range, valid at once. -/
def issue : IssueFrame :=
  { frame with origin := 63, number := 65535, cls := 127, validFrom := 1000, expires := 9000, declared := 10,
               required := 1, interval := 1 }

/-- A record of it. -/
def record (state : AlertState) (rank : Nat) : Alert :=
  { frame := issue, state, carried := 0, failed := 0, rank, operatorCarry := false, storedAt := 0,
    waitingSince := none, nextEligible := none, revisionOnAir := none }

/-- The record in slot 7 at station time 5,000. -/
def alertIn (state : AlertState) (rank : Nat) : State := (atTime 5000 5000).putAlert 7 (some (record state rank))

/-- The site link UP since 0. -/
def linkUp : State :=
  let s := atTime 10000 10000
  { s with site := { s.site with link := .up, silenceFrom := some 0 } }

/-- An answer waits to be read. -/
def unread : State :=
  { State.reset with port := { response := some { code := 0x74#8, status := .ok, fields := [1#8] }, dataOut := .none } }

/-! ### Single steps -/

/-- Section 1.6, step 1. -/
theorem test_first_insert_answers_512 :
    ∃ t, exec (.roInsert .automation 0 { raw with kind := 1, cart := 40117, planned := 215000, segue := 3000, timing := 1 })
      State.reset = .next t ∧ t.store.order 0 = [512] ∧ t.store.freeCount = 511 := by
  refine ⟨_, rfl, ?_⟩
  decide +kernel

/-- R6: a planned length above 10,800,000 is refused, and the store stays as it was. -/
theorem test_overlong_insert_refused :
    ∃ t, exec (.roInsert .automation 0 { raw with kind := 1, cart := 1, timing := 1, planned := 10800001 })
      State.reset = .next t ∧ t.port.response = some { code := 0x10#8, status := .badField, fields := [] } ∧
      t.store = State.reset.store := by
  refine ⟨_, rfl, ?_⟩
  decide +kernel

/-- R117: a third caller is refused with FULL. -/
theorem test_third_caller_refused :
    ∃ t, exec (.lineTake .presenter 3)
      (withCaller 0 (fun c => { c with state := .onAir }) (withCaller 1 (fun c => { c with state := .onAir })
        (lineIn 2 .ready))) = .next t ∧ t.port.response = some { code := 0x44#8, status := .full, fields := [] } := by
  refine ⟨_, rfl, ?_⟩
  decide +kernel

/-- R187: a READ with no response ready clocks out 00h and then FFh. -/
theorem test_read_without_response :
    ∃ t, exec (.read 3) State.reset = .next t ∧ t.port.dataOut = .bytes [0x00#8, 0xFF#8, 0xFF#8] := by
  refine ⟨_, rfl, ?_⟩
  decide +kernel

/-- R200: the response to IDENT, its check worked out apart. -/
theorem test_ident_response :
    ∃ t, exec (.ident .screener) State.reset = .next t ∧ t.port.response.map Response.frame =
      some [0xC5#8, 0x00#8, 0x08#8, 0x74#8, 0x00#8, 0x19#8, 0x14#8, 0x01#8, 0x3E#8, 0x72#8, 0x71#8] := by
  refine ⟨_, rfl, ?_⟩
  decide +kernel

/-- 5.2: station time wraps at 2^40. -/
theorem test_station_time_wraps :
    ∃ t, step (atTime 0 (2 ^ 40 - 1)) = .next t ∧ t.clock.station = 0 ∧ t.clock.mono = 1 := by
  refine ⟨_, rfl, ?_⟩
  decide +kernel

/-- R131, section 7.8: a new MANDATORY_BREAK alert is of rank 3 and WAITING. -/
theorem test_mandatory_alert_waits :
    ∃ t, exec (.issue issue) ((atTime 5000 5000).putClass 127
        { action := .mandatoryBreak, deadline := 180, required := false, ceiling := none }) = .next t ∧
      (t.alert? 0).map (fun a => (a.state, a.rank)) = some (.waiting, 3) ∧ t.deadlineOf 0 = some 185000 ∧
      t.holds .mandatoryWaiting = true := by
  refine ⟨_, rfl, ?_⟩
  decide +kernel

/-- R204: RECEIPT of result DUPLICATE, PLAY and STOP, their checks worked out apart. -/
theorem test_alert_frames_sent :
    (AlertFrame.receipt 7 10 2 .duplicate).bytes =
      [0xA7#8, 0x81#8, 0x05#8, 0x07#8, 0x00#8, 0x0A#8, 0x02#8, 0x05#8, 0x37#8, 0x85#8] ∧
    (AlertFrame.play 7 0x1234 0).bytes = [0xA7#8, 0x82#8, 0x03#8, 0x07#8, 0x12#8, 0x34#8, 0x7A#8, 0xD5#8] ∧
    AlertFrame.stop.bytes = [0xA7#8, 0x83#8, 0x00#8, 0x53#8, 0xC4#8] := by
  decide +kernel

/-- R205: SET of POWER to code 300, POLL of channel 8 and KEEP, their checks worked out apart. -/
theorem test_site_frames_sent :
    (SiteFrame.set 9 .power 300).bytes =
      [0xC3#8, 0x11#8, 0x09#8, 0x03#8, 0x02#8, 0x01#8, 0x2C#8, 0xDA#8, 0x2B#8] ∧
    (SiteFrame.poll 255 7).bytes = [0xC3#8, 0x12#8, 0xFF#8, 0x01#8, 0x08#8, 0x0F#8, 0x55#8] ∧
    (SiteFrame.keep 1 true false).bytes = [0xC3#8, 0x13#8, 0x01#8, 0x02#8, 0x01#8, 0x00#8, 0xD0#8, 0x61#8] := by
  decide +kernel

/-- R198, R190: the tolerance in 4 bytes, the fill player's code in 1, the threshold as -50 in 2. -/
theorem test_config_values : configB 1 5000 = [0x01#8, 0x00#8, 0x00#8, 0x13#8, 0x88#8] ∧
    configB 3 4 = [0x03#8, 0x04#8] ∧ configB 4 (-50) = [0x04#8, 0xFF#8, 0xCE#8] := by
  decide +kernel

/-- R24, R198: the phone part of a PHONE entry's planned values (2 callers, RELEASE, end-on-last) comes before timed and
cue-start, which end them; span count and break number are not among them. -/
theorem test_planned_values_order :
    (plannedB (.phone true { callers := 2, endAction := .release, endOnLast := true }
        { planned := 60000, timing := .drop, post := some { timeOfDay := 1, kind := .nearest }, waitForGo := true,
          breakAfter := false, oneShot := true })) =
      [0x07#8, 0#8, 0#8, 0#8, 0#8, 0x00#8, 0x00#8, 0xEA#8, 0x60#8, 0#8, 0#8, 0#8, 0#8, 0x03#8,
       0#8, 0#8, 0#8, 0#8, 0#8, 0#8, 0#8, 0#8, 0#8, 0#8, 0#8, 1#8, 0x02#8, 1#8, 0#8, 1#8,
       0x02#8, 0x02#8, 1#8, 1#8, 0#8] := by
  decide +kernel

/-- R198: POWER in 2 bytes, an enumerated parameter's code in 1. -/
theorem test_site_values : paramValueB .power 300 = [0x01#8, 0x2C#8] ∧ paramValueB .txSelect 1 = [0x01#8] := by
  decide +kernel

/-- Section 4.9, case two: the spot is dropped and the bed extended by 4,000. -/
theorem test_drop_then_extension :
    let entry (b : Body) : Resolved :=
      { source := .item 512 0 b, iteration := [], fromBreak := none, breakStart := false, effective := 0,
        dropMark := false, after := { pos := .after 512 0, stack := [], call := none } }
    let item (planned : Nat) (timing : Timing) : ItemFields :=
      { planned, timing, post := none, waitForGo := false, breakAfter := false, oneShot := false }
    let r := adjust 1000 (-56000) (([.audio .spot 1 0 (item 30000 .fixed),
        .audio .music 1 2000 (item 241000 (.stretch 200000 241000)), .audio .spot 1 0 (item 60000 .drop),
        .audio .bed 1 0 (item 45000 (.stretch 40000 90000))] : List Body).map fun b => (entry b).cleared)
    (r.entries.map Resolved.effective, r.direction, r.amount, r.drops, r.stretches, r.residual) =
      ([30000, 241000, 60000, 49000], .extend, 4000, 1, 1, 0) := by
  decide +kernel

/-! ### A state that meets the hypotheses of each statement -/

theorem witness_step_idle : (atTime 0 0).pending = [] ∧ (atTime 0 0).dueCommands = [] := by
  decide +kernel

theorem witness_step_due : (atTime 1 1).pending = [] ∧ (atTime 1 1).dueCommands ≠ [] := by
  decide +kernel

theorem witness_station_range :
    stationInRange (atTime 0 (2 ^ 40 - 1)) ∧ ∃ t, step (atTime 0 (2 ^ 40 - 1)) = .next t :=
  ⟨by unfold stationInRange; decide +kernel, _, rfl⟩

/-- Every count is at its top and a ring event waits. -/
def topCounts : State :=
  let s := lineIn 0 .idle
  { s with
    events := { s.events with records := Vector.replicate 19 { count := 255, detail := none } }
    receiver := { s.receiver with discards := 65535 }
    site := { s.site with discards := 65535 }
    pending := [.ringEvent 0] }

theorem witness_count_ranges : countsInRange topCounts ∧ ∃ t, step topCounts = .next t :=
  ⟨⟨fun o => by cases o <;> decide +kernel, by decide +kernel, by decide +kernel⟩, _, rfl⟩

/-- Two callers are on air and a third is to be taken. -/
def twoOnAir : State :=
  { withCaller 0 (fun c => { c with state := .onAir }) (withCaller 5 (fun c => { c with state := .onAir })
      (lineIn 2 .ready)) with pending := [.lineTake .presenter 3] }

theorem witness_two_callers : callersInLimit twoOnAir ∧ twoOnAir.linesOnAir.length = 2 ∧ ∃ t, step twoOnAir = .next t :=
  ⟨by unfold callersInLimit; decide +kernel, by decide +kernel, _, rfl⟩

/-- Four frames are in flight and a channel comes due. -/
def fourInFlight : State :=
  { linkUp with
    site := { linkUp.site with inFlight :=
      [{ sequence := 0, target := .set .carrier 1 none, sentAt := none, tries := 1 },
       { sequence := 1, target := .set .modLimit 100 none, sentAt := none, tries := 1 },
       { sequence := 2, target := .poll 0, sentAt := some 0, tries := 3 },
       { sequence := 255, target := .poll 1, sentAt := none, tries := 1 }] }
    pending := [.pollTimer] }

theorem witness_flight_limit :
    flightInLimit fourInFlight ∧ fourInFlight.site.inFlight.length = 4 ∧ ∃ t, step fourInFlight = .next t :=
  ⟨⟨by decide +kernel, fun p => by cases p <;> decide +kernel⟩, by decide +kernel, _, rfl⟩

/-- Class 5 is required and MANDATORY_BREAK, and a CLASS_WRITE of IGNORE waits. -/
def requiredClass : State :=
  { (oneEntry music).putClass 5 { action := .mandatoryBreak, deadline := 600, required := true, ceiling := none } with
    pending := [.classWrite .engineer 5 5 0 0] }

theorem witness_tables_canonical : tablesCanonical requiredClass ∧ ∃ t, step requiredClass = .next t :=
  ⟨⟨by decide +kernel, by decide +kernel⟩, _, rfl⟩

theorem witness_required_mandatory : requiredIsMandatory requiredClass ∧ ∃ t, step requiredClass = .next t := by
  refine ⟨fun c h => ?_, _, rfl⟩
  by_cases hc : c = 5
  · subst hc
    exact .inr (by decide +kernel)
  · have e : requiredClass.classEntry c = ClassEntry.fresh := if_neg fun h5 => hc h5.symm
    rw [e] at h
    cases h

/-- The compliance lock is set. -/
def locked : State :=
  { requiredClass with receiver := { requiredClass.receiver with lock := true } }

theorem witness_lock_stays :
    (∀ l, Instr.classWrite .engineer 5 5 0 0 ≠ .powerOnReset l) ∧ locked.receiver.lock = true ∧
    ∃ t, exec (.classWrite .engineer 5 5 0 0) locked = .next t :=
  ⟨fun _ h => (nomatch h), rfl, _, rfl⟩

theorem witness_power_on : (∃ t, exec (.powerOnReset PinLevels.low) locked = .next t) ∧
    issueMalformed issue = false ∧ issue.validFrom < issue.expires := ⟨⟨_, rfl⟩, by decide +kernel⟩

/-- Player 4 is on air for an entry and line 1 has a caller on air; player 1 is to become the fill player. -/
def resetting : State :=
  { (twoOnAir.putPlayer 3 (.onAir cue false)) with air := { (twoOnAir.putPlayer 3 (.onAir cue false)).air with
      fillPending := some 0 } }

theorem witness_controller_reset :
    portFree locked ∧ portFree resetting ∧ resetting.player 3 = .onAir cue false ∧ (resetting.player 0).isOnAir = false ∧
    (∃ l, (resetting.caller l).state = .onAir) ∧ resetting.air.fillPending = some 0 :=
  ⟨rfl, rfl, by decide +kernel⟩

theorem witness_decode_of_encoded :
    (Instr.lineAccept .screener 255 (List.replicate 53 0x41#8) 65535 255).wf = true ∧
    (∃ bytes, encodeRequest (.lineAccept .screener 255 (List.replicate 53 0x41#8) 65535 255) = some bytes ∧
      bytes.length = 64) ∧
    (Instr.airGo .presenter).wf = true ∧ ∃ bytes, encodeRequest (.airGo .presenter) = some bytes ∧ bytes.length = 6 :=
  ⟨by decide +kernel, ⟨_, rfl, by decide +kernel⟩, rfl, _, rfl, by decide +kernel⟩

/-- A frame of five bytes after its length field holds no request of this port; one with a wrong check fails there. -/
theorem witness_write_transactions :
    portFree locked ∧ (Instr.airGo .presenter).wf = true ∧ (∃ bytes, encodeRequest (.airGo .presenter) = some bytes) ∧
    ([0x00#8, 0x04#8, 0x04#8, 0xFF#8] : List Byte)[3]? = some 0xFF#8 ∧
    decodeRequest [0x00#8, 0x04#8, 0x04#8, 0xFF#8] = .badRequest ∧
    ([0x00#8, 0x04#8, 0x04#8, 0x74#8, 0x00#8, 0x00#8] : List Byte)[3]? = some 0x74#8 ∧
    decodeRequest [0x00#8, 0x04#8, 0x04#8, 0x74#8, 0x00#8, 0x00#8] = .badCheck ∧
    ([0x00#8, 0x04#8, 0x04#8] : List Byte).length < 4 ∧ 0xA4#8 ≠ 0xA5#8 ∧ 0xA4#8 ≠ 0x5A#8 :=
  ⟨rfl, rfl, ⟨_, rfl⟩, by decide +kernel⟩

theorem witness_unpermitted_role :
    (Instr.lineTake .screener 1).request? = some (.screener, 0x44, [1#8]) ∧ Role.screener ∉ permittedRoles 0x44 ∧
    portFree State.reset :=
  ⟨by decide +kernel, by decide +kernel, rfl⟩

theorem witness_overrun : unread.port.response.isSome = true ∧
    (Instr.airGo .presenter).request? = some (.presenter, 0x21, []) := by
  decide +kernel

/-- The unread response is 8 bytes long: 8 clocked bytes are just enough, 7 are not. -/
theorem witness_read : (∃ r, unread.port.response = some r ∧ r.frame.length = 8) ∧ State.reset.port.response = none :=
  ⟨⟨_, rfl, by decide +kernel⟩, rfl⟩

theorem witness_reading_requests :
    portFree (oneEntry music) ∧ (oneEntry music).store.find? 512 = some { list := 0, body := music } ∧
    readList 0 = some 0 ∧ readList 16 = some 16 ∧ (oneEntry music).store.live 512 = true ∧
    512 ∈ (oneEntry music).store.order 0 ∧ portFree (alertIn .pending 1) ∧
    (alertIn .pending 1).slotOf 63 65535 = some 7 ∧ (alertIn .pending 1).alert? 7 = some (record .pending 1) :=
  ⟨rfl, by decide +kernel, by decide +kernel, by decide +kernel, by decide +kernel, by decide +kernel, rfl,
   by decide +kernel, by decide +kernel⟩

/-- Of the two pairs one names an occurrence whose count it covers exactly and one a count one short. -/
theorem witness_events_clear :
    portFree State.reset ∧ clearable [(2, 1), (23, 3)] = true ∧ occurrenceOf 2 = some .alertFailed ∧
    clearable ((List.range 24).filterMap fun n => (occurrenceOf (n + 1)).map fun _ => (n + 1, 0)) = true :=
  ⟨rfl, by decide +kernel⟩

/-! #### The running order -/

/-- No slot is free. -/
def fullStore : State :=
  { oneEntry music with store := { (storeOf music) with
      slots := (List.range 512).map fun n => (n, { gen := 1, entry := some { list := 0, body := .endMark } }) } }

theorem witness_insert :
    portFree (oneEntry music) ∧ readList 0 = some 0 ∧ readBody { raw with kind := 11, breakNumber := 16 } =
      some (.call 16) ∧ (oneEntry music).store.live 512 = true ∧ 512 ∈ (oneEntry music).store.order 0 ∧
    (oneEntry music).store.lowestFree = some 1 ∧ (oneEntry music).air.state.isWait = false :=
  ⟨rfl, by decide +kernel⟩

theorem witness_insert_refused :
    readList 17 = none ∧ readBody raw = none ∧ handleClass 511 = .malformed ∧ readList 16 = some 16 ∧
    handleClass 513 = .formed ∧ (oneEntry music).store.live 513 = false ∧ 512 ∉ (oneEntry music).store.order 16 ∧
    fullStore.store.lowestFree = none := by
  decide +kernel

theorem witness_insert_refused_port : portFree fullStore := rfl

theorem witness_change_and_move :
    portFree (oneEntry live) ∧ (oneEntry live).store.find? 512 = some { list := 0, body := live } ∧
    (oneEntry live).protects 512 = false ∧ (oneEntry live).air.state.isWait = false ∧
    (readBody { raw with kind := 6, planned := 10800000, timing := 3 }).map Body.kindCode = some live.kindCode ∧
    readList 16 = some 16 ∧ (16 : ListId) ≠ 0 :=
  ⟨rfl, by decide +kernel⟩

/-- The one entry moved to the start of its list stays where it is; on air it is protected. -/
theorem witness_change_and_move_refused :
    (((oneEntry live).store.move 512 { list := 0, body := live } 0 0).order 0 = (oneEntry live).store.order 0) ∧
    (oneEntry live).store.live 512 = true ∧ 512 ∉ (oneEntry live).store.order 16 ∧
    (oneOnAir live none).store.find? 512 = some { list := 0, body := live } ∧ (oneOnAir live none).protects 512 = true ∧
    (readBody { raw with kind := 13 }).map Body.kindCode = some 13 ∧ live.kindCode ≠ 13 ∧
    handleClass 1024 = .formed ∧ (oneEntry live).store.live 1024 = false ∧ readBody raw = none ∧ readList 17 = none ∧
    handleClass 511 = .malformed := by
  decide +kernel

theorem witness_protected_port : portFree (oneOnAir live none) := rfl

/-- BREAK 1 holds the entry that is on air. -/
def onAirInBreak : State :=
  { oneOnAir live none with store :=
      { slots := [(0, { gen := 1, entry := some { list := 1, body := live } })]
        orders := (Vector.replicate 17 []).set 1 [512] } }

theorem witness_delete_and_clear :
    portFree (oneEntry live) ∧ (oneEntry live).air.state.isWait = false ∧
    (oneEntry live).store.find? 512 = some { list := 0, body := live } ∧ (oneEntry live).protects 512 = false ∧
    readBreak 1 = some 1 ∧ readBreak 16 = some 16 ∧
    (∀ h ∈ (oneEntry live).store.order 16, (oneEntry live).protects h = false) ∧ handleClass 1024 = .formed ∧
    (oneEntry live).store.live 1024 = false :=
  ⟨rfl, by decide +kernel⟩

theorem witness_delete_and_clear_refused :
    portFree onAirInBreak ∧ onAirInBreak.store.live 512 = true ∧ onAirInBreak.protects 512 = true ∧
    512 ∈ onAirInBreak.store.order 1 ∧ 16 < 17 :=
  ⟨rfl, by decide +kernel⟩

theorem witness_first_insert :
    readBody { raw with kind := 6, timing := 1 } =
      some (.live false { plain with planned := 0 }) ∧ (Body.live false { plain with planned := 0 }).item? =
      some { plain with planned := 0 } ∧ plain.post = none := by
  decide +kernel

/-- BREAK 16 holds one entry, and the lookahead draws on it or does not. -/
def inBreak (drawn : Bool) : State :=
  let s := oneEntry live
  { s with
    store := { slots := [(0, { gen := 1, entry := some { list := 16, body := live } })]
               orders := (Vector.replicate 17 []).set 16 [512] }
    interp := { s.interp with drawn := s.interp.drawn.set 16 drawn } }

/-- An entry of MAIN moves to BREAK 16 and one of BREAK 16 to BREAK 1; BREAK 16 is cleared, and BREAK 1 is empty. -/
theorem witness_rebuild_move_and_clear :
    portFree (oneEntry live) ∧ readList 16 = some 16 ∧ (16 : ListId) ≠ 0 ∧ portFree (inBreak true) ∧
    portFree (inBreak false) ∧
    [true, false].all (fun d => decide ((inBreak d).air.state.isWait = false) &&
      decide ((inBreak d).interp.placement = []) && decide ((inBreak d).interp.drawn[(16 : ListId)] = d) &&
      decide ((inBreak d).interp.drawn[(1 : ListId)] = false) &&
      decide ((inBreak d).store.find? 512 = some { list := 16, body := live }) &&
      decide ((inBreak d).store.order 16 = [512]) && decide ((inBreak d).protects 512 = false) &&
      decide ((inBreak d).store.order 1 = [])) = true ∧
    readList 1 = some 1 ∧ (1 : ListId) ≠ 16 ∧ readBreak 16 = some 16 ∧ readBreak 1 = some 1 :=
  ⟨rfl, by decide +kernel, by decide, rfl, rfl, by decide +kernel⟩

/-- The lookahead draws on MAIN and not on BREAK 16. -/
theorem witness_rebuild :
    portFree (oneEntry live) ∧ (oneEntry live).air.state.isWait = false ∧ (oneEntry live).interp.placement = [] ∧
    (oneEntry live).interp.drawn[(0 : ListId)] = true ∧ (oneEntry live).interp.drawn[(16 : ListId)] = false ∧
    (oneEntry live).store.find? 512 = some { list := 0, body := live } ∧ (oneEntry live).protects 512 = false :=
  ⟨rfl, by decide +kernel⟩

/-- A walk at a position, under so many frames of span 512 in MAIN, in a call of BREAK 1 or in none. -/
def walkAt (pos : Position) (frames : Nat) (inCall : Bool) : Walk :=
  { ctx := { pos, stack := List.replicate frames { handle := 512, list := 0, remaining := 2, pass := true }
             call := if inCall then some { brk := 1, ret := .after 512 0 } else none }
    look := [], breakNext := false, drawn := Vector.replicate 17 false, faults := [], stopped := false }

theorem witness_walk_source :
    [live, .holdPoint, .endMark].all (fun b => decide ((storeOf b).next (walkAt (.start 0) 0 false).ctx.pos = some 512) &&
      decide ((storeOf b).find? 512 = some { list := 0, body := b })) = true ∧
    live.item? = some plain ∧ (storeOf live).next (walkAt (.start 1) 1 true).ctx.pos = none ∧
    (walkAt (.start 1) 1 true).ctx.call = some { brk := 1, ret := .after 512 0 } ∧
    (walkAt (.start 1) 1 true).ctx.pos.list ≠ 0 ∧ (storeOf live).next (walkAt (.after 512 0) 0 false).ctx.pos = none ∧
    (walkAt (.after 512 0) 0 false).ctx.call = none := by
  decide +kernel

theorem witness_walk_span_and_call :
    [.spanStart 2, .spanEnd, .call 16].all (fun b => decide ((storeOf b).next (.start 0) = some 512) &&
      decide ((storeOf b).find? 512 = some { list := 0, body := b })) = true ∧
    (walkAt (.start 0) 4 false).ctx.stack.length = 4 ∧ (walkAt (.start 0) 3 false).ctx.stack.length = 3 ∧
    (walkAt (.start 0) 0 false).ctx.stack = [] ∧ (walkAt (.start 0) 0 false).ctx.pos.list = 0 ∧
    (storeOf (.call 16)).order 16 = [] ∧ (storeOf (.call 0)).order 0 ≠ [] ∧
    (storeOf (.call 0)).find? 512 = some { list := 0, body := .call 0 } ∧
    (onAirInBreak.store.putSlot 0 { gen := 1, entry := some { list := 1, body := .call 1 } }).next
      (walkAt (.start 1) 0 true).ctx.pos = some 512 := by
  decide +kernel

/-! #### Air control -/

/-- The one entry in a state of the sequencer. -/
def airIn (x : AirState) (b : Body) : State := onAirSide (fun a => { a with state := x }) (oneEntry b)

theorem live_head (x : AirState) : LiveHead (airIn x live) (resolved live) true plain :=
  ⟨rfl, rfl, _, _, rfl, by cases x <;> decide +kernel⟩

/-- The one entry in a state of the sequencer, in ASSIST: it needs a go. -/
def assistIn (x : AirState) : State := onAirSide (fun a => { a with mode := .assist }) (airIn x live)

theorem live_head_assist (x : AirState) : LiveHead (assistIn x) (resolved live) true plain :=
  ⟨rfl, rfl, _, _, rfl, by cases x <;> decide +kernel⟩

theorem witness_demands : portFree (airIn .running live) ∧ (airIn .running live).air.state = .running ∧
    (airIn .running live).air.goLevel = false := ⟨rfl, rfl, rfl⟩

theorem witness_air_stop : portFree (oneOnAir live none) ∧ (oneOnAir live none).air.state ≠ .stopped ∧
    (oneOnAir live none).air.state ≠ .preempted ∧ (oneOnAir live none).alertEntryOnAir = false :=
  ⟨rfl, by decide +kernel⟩

theorem witness_live_head_starts :
    LiveHead (assistIn .stopped) (resolved live) true plain ∧ portFree (assistIn .stopped) ∧
    (assistIn .stopped).air.holdDemand = false ∧ (assistIn .stopped).air.watch = .disarmed ∧
    LiveHead (airIn .held live) (resolved live) true plain ∧ (airIn .held live).air.watch = .disarmed ∧
    NeedsNoGo (airIn .held live) plain ∧ LiveHead (assistIn .held) (resolved live) true plain ∧
    ¬ NeedsNoGo (assistIn .held) plain :=
  ⟨live_head_assist _, rfl, rfl, rfl, live_head _, rfl, ⟨rfl, rfl⟩, live_head_assist _, fun h => nomatch h.1⟩

theorem witness_live_head_go :
    LiveHead (assistIn .waitGo) (resolved live) true plain ∧ (assistIn .waitGo).air.goLevel = false ∧
    LiveHead (assistIn .postWait) (resolved live) true plain ∧ (assistIn .postWait).air.goLevel = false :=
  ⟨live_head_assist _, rfl, live_head_assist _, rfl⟩

/-- The post entry is the head in POST_WAIT, its post at the present instant, or its cut instant. -/
def postWait (instant cut : Nat) : State :=
  onAirSide (fun a => { a with watch := .armed { handle := 512, iteration := [], instant, cut } }) (airIn .postWait live)

theorem witness_post_instant :
    LiveHead (postWait 1000 2000) (resolved live) true plain ∧ (postWait 1000 2000).air.state = .postWait ∧
    (postWait 1000 2000).air.watch = .armed { handle := 512, iteration := [], instant := 1000, cut := 2000 } ∧
    1000 ≤ (postWait 1000 2000).clock.station ∧ NeedsNoGo (postWait 1000 2000) plain ∧
    (onAirSide (fun a => { a with mode := .assist }) (postWait 1000 2000)).air.goLatch = false ∧
    ¬ NeedsNoGo (onAirSide (fun a => { a with mode := .assist }) (postWait 1000 2000)) plain :=
  ⟨⟨rfl, rfl, _, _, rfl, by decide +kernel⟩, rfl, rfl, by decide +kernel, ⟨rfl, rfl⟩, rfl, fun h => nomatch h.1⟩

theorem witness_cut_instant :
    LiveHead (postWait 0 1000) (resolved live) true plain ∧ (postWait 0 1000).air.state = .postWait ∧
    (onAirSide (fun a => { a with state := .waitGo }) (postWait 0 1000)).air.state = .waitGo ∧
    (postWait 0 1000).air.watch = .armed { handle := 512, iteration := [], instant := 0, cut := 1000 } ∧
    1000 ≤ (postWait 0 1000).clock.station ∧ (postWait 0 1000).air.onAir = none ∧
    (postWait 0 1000).air.outgoing = none ∧ (postWait 0 1000).interp.held = false ∧
    ((512 : Nat), ([] : List Nat)) = (resolved live).copyId :=
  ⟨⟨rfl, rfl, _, _, rfl, by decide +kernel⟩, rfl, rfl, rfl, by decide +kernel⟩

theorem witness_network_cue :
    (airIn .waitGo join).air.netALevel = false ∧ (airIn .waitGo join).air.state = .waitGo ∧
    (airIn .waitGo join).interp.look.head? = some (resolved join) ∧
    (resolved join).source = .item 512 0 (.join false true plain) := ⟨rfl, rfl, rfl, rfl⟩

/-- Players 2 and 4 are cued with the head's cart. -/
def cuedPlayers : State :=
  onAirSide (fun a => { a with players := #v[.empty, .cued cue, .ended cue, .cued cue] }) (airIn .stopped music)

theorem witness_audio_head :
    portFree cuedPlayers ∧ cuedPlayers.air.state = .stopped ∧ cuedPlayers.air.holdDemand = false ∧
    cuedPlayers.air.watch = .disarmed ∧ cuedPlayers.bus.fillPostWait = false ∧
    cuedPlayers.interp.look.head? = some (resolved music) ∧ (resolved music).dropMark = false ∧
    (resolved music).source = .item 512 0 (.audio .music 1 0 plain) ∧ cuedPlayers.store.live 512 = true ∧
    cuedPlayers.playerFor 1 = some 1 ∧ cuedPlayers.player 1 = .cued cue :=
  ⟨rfl, rfl, rfl, rfl, rfl, rfl, rfl, rfl, by decide +kernel⟩

/-- The entry's end timer expires at the present moment. -/
theorem last_before_end (b : Body) (p : Option (Fin 4)) :
    LastBeforeEnd (oneOnAir b p) (playing b p) (resolved b) Resolved.endOfMain := ⟨rfl, rfl, rfl, rfl, rfl, rfl⟩

theorem kept_at_end (b : Body) (p : Option (Fin 4)) (h : (b.item?.map ItemFields.oneShot).getD false = false) :
    KeptAtEnd (oneOnAir b p) 512 := by
  intro en he
  have e : (oneOnAir b p).store.find? 512 = some { list := 0, body := b } := rfl
  rw [e] at he
  cases he
  exact h

theorem witness_last_live :
    LastBeforeEnd (oneOnAir live none) (playing live none) (resolved live) Resolved.endOfMain ∧
    KeptAtEnd (oneOnAir live none) 512 ∧ (oneOnAir live none).air.state = .running ∧
    (playing live none).source = .item 512 0 (.live true plain) ∧ (playing live none).player = none ∧
    (playing live none).endTimer = some 1000 ∧ 1000 ≤ (oneOnAir live none).clock.mono ∧ portFree (oneOnAir live none) :=
  ⟨last_before_end _ _, kept_at_end _ _ rfl, rfl, rfl, rfl, rfl, by decide +kernel, rfl⟩

theorem witness_last_join :
    LastBeforeEnd (oneOnAir join none) (playing join none) (resolved join) Resolved.endOfMain ∧
    KeptAtEnd (oneOnAir join none) 512 ∧ (playing join none).source = .item 512 0 (.join false true plain) ∧
    (oneOnAir join none).air.netBLevel = false := ⟨last_before_end _ _, kept_at_end _ _ rfl, rfl, rfl⟩

/-- The audio entry is on player 4, or still waits for its cart until now. -/
def audioOnAir : State :=
  onAirSide (fun a => { a with players := #v[.empty, .empty, .empty, .onAir cue false] }) (oneOnAir music (some 3))

def stillCueing : OnAir := { playing music none with phase := .cueing 1000, endTimer := none }

def cueingMusic : State := onAirSide (fun a => { a with onAir := some stillCueing }) (oneOnAir music none)

theorem witness_last_audio :
    LastBeforeEnd audioOnAir (playing music (some 3)) (resolved music) Resolved.endOfMain ∧ KeptAtEnd audioOnAir 512 ∧
    audioOnAir.air.state = .running ∧ (playing music (some 3)).source = .item 512 0 (.audio .music 1 0 plain) ∧
    (playing music (some 3)).player = some 3 ∧ audioOnAir.player 3 = .onAir cue false ∧
    audioOnAir.air.fillPending = none :=
  ⟨⟨rfl, rfl, rfl, rfl, rfl, rfl⟩, kept_at_end music (some 3) rfl, rfl, rfl, rfl, rfl, rfl⟩

theorem witness_last_missed :
    LastBeforeEnd cueingMusic stillCueing (resolved music) Resolved.endOfMain ∧ KeptAtEnd cueingMusic 512 ∧
    cueingMusic.air.state = .running ∧ stillCueing.phase = .cueing 1000 ∧ 1000 ≤ cueingMusic.clock.mono :=
  ⟨⟨rfl, rfl, rfl, rfl, rfl, rfl⟩, kept_at_end music none rfl, rfl, rfl, by decide +kernel⟩

/-- MUSIC with a segue of 1 ms is on air, before a LIVE entry of handle 513, at its segue point. -/
def segueBody : Body := .audio .music 1 1 plain
def segueNext : Resolved :=
  { resolved live with source := .item 513 0 live, after := { pos := .after 513 0, stack := [], call := none } }
def segueOnAir : OnAir := { playing segueBody (some 3) with endTimer := some 1001, seguePoint := some 1000 }
def segueing : State :=
  { audioOnAir with
    store := (storeOf segueBody).putSlot 1 { gen := 1, entry := some { list := 0, body := live } }
    interp := { audioOnAir.interp with look := [resolved segueBody, segueNext, Resolved.endOfMain] }
    air := { audioOnAir.air with onAir := some segueOnAir } }

theorem witness_segue :
    segueing.air.onAir = some segueOnAir ∧ segueing.interp.look = [resolved segueBody, segueNext, Resolved.endOfMain] ∧
    segueing.interp.held = true ∧ segueing.interp.placement = [] ∧
    segueOnAir.source = .item 512 0 (.audio .music 1 1 plain) ∧ (resolved segueBody).source = segueOnAir.source ∧
    segueOnAir.player = some 3 ∧ 0 < segueOnAir.segue ∧ segueOnAir.seguePoint = some 1000 ∧
    1000 ≤ segueing.clock.mono ∧ segueOnAir.endTimer = some 1001 ∧ segueing.air.outgoing = none ∧
    segueing.air.state = .running ∧ segueing.bus.fillPostWait = false ∧ segueNext.source = .item 513 0 (.live true plain) ∧
    segueNext.dropMark = false ∧ plain.post = none ∧ plain.waitForGo = false ∧ segueing.air.mode = .auto ∧
    segueing.air.holdDemand = false ∧ segueing.air.watch = .disarmed ∧ segueing.store.live 513 = true ∧
    Resolved.endOfMain.source = .endMark none :=
  ⟨rfl, rfl, rfl, rfl, rfl, rfl, rfl, by decide +kernel, rfl, by decide +kernel, rfl, rfl, rfl, rfl, rfl, rfl, rfl, rfl,
   rfl, rfl, rfl, by decide +kernel, rfl⟩

/-- An outgoing entry whose end time is now. -/
def outgoing : Outgoing := { handle := 512, kind := .music, player := 3, frozen := 1000, endsAt := 1000 }
def withOutgoing : State :=
  onAirSide (fun a => { a with outgoing := some outgoing, onAir := none }) audioOnAir

theorem witness_outgoing_end : withOutgoing.air.outgoing = some outgoing ∧ outgoing.endsAt ≤ withOutgoing.clock.mono ∧
    withOutgoing.air.state.isWait = false ∧ withOutgoing.player outgoing.player = .onAir cue false ∧
    withOutgoing.air.fillPending = none := ⟨rfl, by decide +kernel, rfl, rfl, rfl⟩

theorem witness_cue_to : portFree (airIn .held live) ∧ (airIn .held live).air.state = .held ∧
    (airIn .held live).store.find? 512 = some { list := 0, body := live } ∧ (airIn .stopped live).air.state = .stopped :=
  ⟨rfl, rfl, by decide +kernel, rfl⟩

/-- Player 1 is ENDED and player 3 is under a cut that is at mute just now. -/
def cutPlayers (fill : Bool) : State :=
  (onAirSide (fun a => { a with players := #v[.ended cue, .empty, .onAir cue fill, .empty] }) (atTime 20 20)).putSource 2
    { fader := none, micOn := none, trim := 0, current := -40, law := .cut 0 0 fill }

theorem witness_player_records :
    (∀ o d, (cutPlayers false).air.onAir = some o → o.phase ≠ .cueing d) ∧
    (∀ o d, audioOnAir.air.onAir = some o → o.phase ≠ .cueing d) ∧ portFree audioOnAir ∧
    (audioOnAir.player 0).isOnAir = false ∧ 0 < 1 ∧ 10800000 ≤ 10800000 ∧ audioOnAir.air.fillPlayer ≠ some 0 ∧
    (cutPlayers false).air.fillPending ≠ some 2 ∧ (cutPlayers false).player 2 = .onAir cue false ∧
    ((cutPlayers false).source (playerSource 2)).law = .cut 0 0 false ∧ 0 + 20 ≤ (cutPlayers false).clock.mono ∧
    (cutPlayers true).player 2 = .onAir cue true ∧ ((cutPlayers true).source (playerSource 2)).law = .cut 0 0 true ∧
    (cutPlayers true).air.fillPlayer ≠ some 2 := by
  refine ⟨fun o d h => (nomatch h), fun o d h => ?_, rfl, by decide +kernel⟩
  cases h
  exact fun h => nomatch h

/-- Player 1 is the fill player in dead air, and player 3 the fill player as its withdrawal ends in dead air. -/
def deadAirFill (p : Fin 4) : State :=
  let s := onAirSide (fun a => { a with fillPlayer := some p }) (cutPlayers true)
  { s with bus := { s.bus with fillDeadAir := true, monitor := { s.bus.monitor with state := .dead } } }

theorem witness_fill_player :
    portFree (deadAirFill 0) ∧ (deadAirFill 0).air.fillPlayer = some 0 ∧ (deadAirFill 0).holds .deadAir = true ∧
    ((deadAirFill 0).player 0).isCued = false ∧ ((deadAirFill 0).player 0).isOnAir = false ∧
    (deadAirFill 2).air.fillPlayer = some 2 ∧ (deadAirFill 2).bus.fillDeadAir = true ∧
    (deadAirFill 2).player 2 = .onAir cue true ∧ ((deadAirFill 2).source (playerSource 2)).law = .cut 0 0 true :=
  ⟨rfl, by decide +kernel⟩

/-! #### The back-timer and the bus -/

theorem witness_periodic :
    (oneOnAir music none).timer.periodicAt ≤ (oneOnAir music none).clock.mono ∧
    (∀ r ∈ (oneOnAir music none).interp.look.drop 1, r.post? = none) ∧ (oneOnAir music none).interp.held = true ∧
    State.reset.interp.held = false ∧ (oneEntry music).interp.held = false ∧
    (∀ r ∈ (oneEntry music).interp.look, r.post? = none) := by
  decide +kernel

/-- The one LIVE entry is on air, some entries are pending, and the entry after them carries a post. -/
def beforePost (pending : List Body) (post : Post) : State :=
  let s := oneOnAir live none
  let look := (resolved live) :: pending.map resolved ++ [resolved (.live true { plain with post := some post })]
  { s with interp := { s.interp with look } }

/-- An EXACT post 1 ms before midnight after a DROP and a STRETCH entry, and one at midnight with nothing pending. -/
theorem witness_post_found :
    let pending : List Body :=
      [.live true { plain with timing := .drop }, .live true { plain with timing := .stretch 0 2000 }]
    (beforePost pending { timeOfDay := 86399999, kind := .exact }).timer.periodicAt ≤
      (beforePost pending { timeOfDay := 86399999, kind := .exact }).clock.mono ∧
    (beforePost pending { timeOfDay := 86399999, kind := .exact }).interp.look.drop 1 =
      pending.map resolved ++
        resolved (.live true { plain with post := some { timeOfDay := 86399999, kind := .exact } }) :: [] ∧
    (∀ r ∈ pending.map resolved, r.post? = none) ∧
    (resolved (.live true { plain with post := some { timeOfDay := 0, kind := .nearest } })).post? =
      some { timeOfDay := 0, kind := .nearest } ∧ 86399999 < 86400000 ∧
    (beforePost [] { timeOfDay := 0, kind := .nearest }).interp.look.drop 1 =
      [] ++ resolved (.live true { plain with post := some { timeOfDay := 0, kind := .nearest } }) :: [] ∧
    (beforePost [] { timeOfDay := 0, kind := .nearest }).interp.held = true := by
  decide +kernel

theorem witness_shares : 71 ≤ ([41, 30] : List Nat).sum ∧ 0 ≤ ([] : List Nat).sum ∧
    1 < ([41, 30] : List Nat).length := by
  decide +kernel

theorem witness_bus_requests : portFree State.reset ∧ 4 ≤ (4 : Fin 14).val ∧ (11 : Fin 14).val ≤ 11 ∧
    (5 : Fin 14).val = 5 := ⟨rfl, by decide⟩

/-- A source under FOLLOW below its target and one under a cut that is over, at the ms of a gain update. -/
theorem witness_gain_update :
    (cutPlayers false).bus.gainAt ≤ (cutPlayers false).clock.mono ∧ ((cutPlayers false).source 0).law = .follow ∧
    ((cutPlayers false).source 2).law = .cut 0 0 false := by
  decide +kernel

/-- The monitor in a state at the end of a window, with a peak. -/
def monitorIn (x : MonitorState) (silence peak : Nat) : State :=
  let s := atTime 10 10
  { s with bus := { s.bus with monitor := { s.bus.monitor with state := x, silence, peak } } }

theorem witness_windows :
    (monitorIn .sound 0 0).bus.monitor.windowEnds ≤ (monitorIn .sound 0 0).clock.mono ∧
    peakQuiet 0 (-50) = true ∧ peakQuiet 8388607 (-50) = false ∧
    (monitorIn .quiet 998 0).bus.monitor.silence + 1 < (monitorIn .quiet 998 0).bus.deadAirLimit * 100 ∧
    (monitorIn .quiet 999 0).bus.deadAirLimit * 100 ≤ (monitorIn .quiet 999 0).bus.monitor.silence + 1 := by
  decide +kernel

/-- The monitor in DEAD or ESCALATED at the end of a window, with its two counts, and fill given or not. -/
def deadIn (x : MonitorState) (escalation recovery peak : Nat) (fill : Bool) : State :=
  let s := deadAirFill 2
  { s with bus := { s.bus with fillDeadAir := fill, monitor := { s.bus.monitor with state := x, escalation, recovery, peak } } }

theorem witness_dead_windows :
    (deadIn .dead 998 0 0 false).bus.monitor.windowEnds ≤ (deadIn .dead 998 0 0 false).clock.mono ∧
    (deadIn .dead 998 0 0 false).bus.monitor.windowThreshold = -50 ∧
    (deadIn .dead 998 0 0 false).bus.monitor.escalation + 1 < (deadIn .dead 998 0 0 false).bus.deadAirLimit * 100 ∧
    (deadIn .dead 999 0 0 false).bus.deadAirLimit * 100 ≤ (deadIn .dead 999 0 0 false).bus.monitor.escalation + 1 ∧
    (deadIn .dead 0 0 0 true).bus.fillDeadAir = true ∧ (deadIn .dead 0 0 0 true).fillActive = true ∧
    (deadIn .escalated 0 498 8388607 false).bus.monitor.recovery + 1 < 500 ∧
    500 ≤ (deadIn .escalated 0 499 8388607 false).bus.monitor.recovery + 1 ∧
    ((deadIn .dead 999 0 0 false).param .siteAudio).desired ≠ some 1 ∧
    (((deadIn .dead 999 0 0 false).putParam .siteAudio
      { desired := some 1, confirmed := none, state := .settled, refusal := none, retryAt := none }).param
        .siteAudio).desired = some 1 ∧ (deadIn .escalated 0 499 0 false).bus.escalationFlag = false := by
  decide +kernel

theorem witness_sample_period :
    ((lineIn 0 .screening).caller 0).state = .screening ∧ ((lineIn 0 .hold).caller 0).state = .hold ∧
    ((lineIn 0 .clearing).caller 0).state = .clearing ∧ (∀ i : Fin 14, (Vector.replicate 14 (0 : Sample))[i] = 0) ∧
    State.reset.bus.fillDeadAir = false := by
  decide +kernel

/-- Every gain at mute, but those of two sources. -/
def gains (i j : Fin 14) (x y : Int) : State :=
  let s := lineIn 0 .onAir
  let s := allSources.foldl (fun s k => s.putSource k { s.source k with current := -160 }) s
  let s := s.putSource i { s.source i with current := x }
  s.putSource j { s.source j with current := y }

/-- Two sources at unity that saturate, the caller on air among them; and one alone at a tenth. -/
theorem witness_mix :
    (∀ i : Fin 14, ((gains 0 (lineSource 0) 0 0).source i).current = 0 ∨
      ((gains 0 (lineSource 0) 0 0).source i).current ≤ -160) ∧
    ((gains 0 (lineSource 0) 0 0).caller 0).state = .onAir ∧
    sumAtUnity (gains 0 (lineSource 0) 0 0) (Vector.replicate 14 8388607#24) = 16777214 ∧
    fullScale 16777214 = 8388607#24 ∧ fullScale (-16777216) = 8388608#24 ∧
    ((gains 0 13 (-160) (-40)).source 13).current = -40 ∧
    ∀ j : Fin 14, j ≠ 13 → ((gains 0 13 (-160) (-40)).source j).current ≤ -160 := by
  decide +kernel

/-! #### Caller lines -/

theorem witness_line_number :
    portFree State.reset ∧ Role.presenter ∈ permittedRoles 0x44 ∧ Role.screener ∉ permittedRoles 0x44 ∧ 6 < 7 ∧
    (Instr.lineTake .presenter 7, 0x44) ∈ [(Instr.lineTake .presenter 7, 0x44)] :=
  ⟨rfl, by decide +kernel, by decide +kernel, by decide, by decide +kernel⟩

theorem witness_ring :
    ((lineIn 5 .idle).caller 5).ring = false ∧ ((lineIn 5 .idle).caller 5).state = .idle ∧
    ((lineIn 5 .ringing).caller 5).ring = false ∧ ((lineIn 5 .ringing).caller 5).state = .ringing ∧
    ((withCaller 5 (fun c => { c with ring := true }) (lineIn 5 .idle)).caller 5).ring = true ∧
    ((withCaller 5 (fun c => { c with ringTimer := some 10000 }) (lineIn 5 .ringing)).caller 5).ringTimer = some 10000 ∧
    10000 ≤ (lineIn 5 .ringing).clock.mono := by
  decide +kernel

theorem witness_answer_and_accept :
    portFree (lineIn 0 .ringing) ∧ ((lineIn 0 .ringing).caller 0).state = .ringing ∧
    ((lineIn 0 .screening).caller 0).state = .screening ∧ readTopic 65535 = some none ∧
    nameInRange (List.replicate 24 0x41#8) = true ∧ nameInRange [] = true ∧ 3 ≤ 3 :=
  ⟨rfl, by decide +kernel⟩

theorem witness_calls_cleared :
    portFree (lineIn 0 .ready) ∧ ((lineIn 0 .ready).caller 0).state = .ready ∧
    ((withCaller 0 (fun c => { c with loopTimer := some 10000 }) (lineIn 0 .hold)).caller 0).loopTimer = some 10000 ∧
    ((withCaller 0 (fun c => { c with clearingTimer := some 10000 }) (lineIn 0 .clearing)).caller 0).clearingTimer =
      some 10000 ∧ ((lineIn 0 .clearing).caller 0).state = .clearing ∧ 10000 ≤ (lineIn 0 .hold).clock.mono :=
  ⟨rfl, by decide +kernel⟩

/-- One caller is on air, and line 3 waits in HOLD with an expired hold timer. -/
def oneCaller : State :=
  withCaller 0 (fun c => { c with state := .onAir, airSince := some 0 })
    (withCaller 2 (fun c => { c with holdTimer := some 10000 }) (lineIn 2 .hold))

theorem witness_take_drop_hold :
    portFree oneCaller ∧ (oneCaller.caller 2).state = .hold ∧ oneCaller.lines.alertHold = false ∧
    oneCaller.linesOnAir.length = 1 ∧ (oneCaller.caller 0).state = .onAir ∧
    (∀ g, oneCaller.lines.segment = some g →
      g.part.endOnLast = false ∨ g.suspended = true ∨ g.seen = false ∨ oneCaller.linesOnAir ≠ [0]) ∧
    (oneCaller.caller 2).holdTimer = some 10000 ∧ 10000 ≤ oneCaller.clock.mono :=
  ⟨rfl, by decide +kernel, by decide +kernel, by decide +kernel, by decide +kernel, fun _ h => (nomatch h),
   by decide +kernel⟩

/-- A PHONE entry for two callers that ends itself on the last one; alone in the running order, in STOPPED, with three
callers queued of whom one is pinned; and on air with one caller, the segment having seen it. -/
def phonePart : PhonePart := { callers := 2, endAction := .release, endOnLast := true }
def phone : Body := .phone false phonePart plain
def phoneQueue : State :=
  let s := airIn .stopped phone
  let s := withCaller 3 (fun c => { c with state := .ready, pinned := true }) s
  let s := withCaller 4 (fun c => { c with state := .ready }) (withCaller 5 (fun c => { c with state := .ready }) s)
  { s with lines := { s.lines with queue := [3, 4, 5] } }
def segment : Segment := { handle := 512, part := phonePart, seen := true, suspended := false }
def phoneOnAir : State :=
  let s := withCaller 4 (fun c => { c with state := .onAir, airSince := some 0 }) (oneOnAir phone none)
  { s with lines := { s.lines with segment := some segment } }

theorem witness_phone_start :
    portFree phoneQueue ∧ phoneQueue.air.state = .stopped ∧ phoneQueue.air.holdDemand = false ∧
    phoneQueue.air.watch = .disarmed ∧ phoneQueue.interp.look.head? = some (resolved phone) ∧
    (resolved phone).dropMark = false ∧ (resolved phone).source = .item 512 0 (.phone false phonePart plain) ∧
    phoneQueue.store.live 512 = true ∧ TakenCallers phoneQueue phonePart = [4, 5] :=
  ⟨rfl, rfl, rfl, rfl, rfl, rfl, rfl, by decide +kernel⟩

theorem witness_phone_end :
    portFree phoneOnAir ∧ LastBeforeEnd phoneOnAir (playing phone none) (resolved phone) Resolved.endOfMain ∧
    KeptAtEnd phoneOnAir 512 ∧ phoneOnAir.air.state = .running ∧
    (playing phone none).source = .item 512 0 (.phone false phonePart plain) ∧ (playing phone none).player = none ∧
    phoneOnAir.lines.segment = some segment ∧ phoneOnAir.linesOnAir = [4] ∧ segment.handle = 512 ∧
    segment.suspended = false ∧ segment.part.endOnLast = true ∧ segment.seen = true :=
  ⟨rfl, ⟨rfl, rfl, rfl, rfl, rfl, rfl⟩, kept_at_end phone none rfl, rfl, rfl, rfl, rfl, by decide +kernel⟩

/-- Six lines wait. -/
def sixWaiting : State :=
  let s := allLines.foldl (fun s l => withCaller l (fun c => { c with state := .ready }) s) (atTime 0 0)
  { s with lines := { s.lines with queue := allLines } }

theorem witness_line_service :
    portFree (lineIn 0 .idle) ∧ ((lineIn 0 .idle).caller 0).state = .idle ∧
    ((lineIn 0 .outOfService).caller 0).state = .outOfService ∧ (sixWaiting.caller 0).state = .ready ∧
    6 ≤ sixWaiting.lines.queue.length ∧ sixWaiting.lines.queue.countP (· = 0) ≤ 1 ∧
    ((withCaller 0 (fun c => { c with loop := true }) (lineIn 0 .screening)).caller 0).loop = true :=
  ⟨rfl, by decide +kernel⟩

/-! #### Alerts -/

/-- Under the lock, class 127 is required, with a ceiling of 600 s, and class 0 has none. -/
def ceiling : State :=
  let s := (atTime 0 0).putClass 127
    { action := .mandatoryBreak, deadline := 600, required := true, ceiling := some 600 }
  { s with receiver := { s.receiver with lock := true } }

theorem witness_class_write :
    portFree (atTime 0 0) ∧ (atTime 0 0).receiver.lock = false ∧ 127 ≤ 127 ∧
    (∀ k : Fin 8, (atTime 0 0).alert? k = none) ∧ ceiling.receiver.lock = true ∧
    (∀ k : Fin 8, ceiling.alert? k = none) ∧ (ceiling.classEntry 127).ceiling = some 600 ∧ 600 < min 601 900 ∧
    ¬ 600 < min 600 900 ∧ (ceiling.classEntry 0).ceiling = none :=
  ⟨rfl, by decide +kernel⟩

theorem witness_unknown_alert :
    portFree (atTime 0 0) ∧ (Instr.alertDismiss .engineer 63 65535, 0x55) ∈
      [(Instr.alertDismiss .engineer 63 65535, 0x55)] ∧ Role.engineer ∈ permittedRoles 0x55 ∧
    63 < 64 ∧ 63 ≤ 63 ∧ (atTime 0 0).slotOf 63 65535 = none :=
  ⟨rfl, by decide +kernel⟩

/-- The class of `issue` is to be carried; its valid-from is one ms ahead at 999. -/
theorem witness_issue_stored :
    issueMalformed issue = false ∧ (atTime 999 999).receiver.opened = none ∧
    (atTime 999 999).slotOf issue.origin issue.number = none ∧ ((atTime 999 999).classEntry issue.cls).action ≠ .ignore ∧
    issue.validFrom < issue.expires ∧ (atTime 999 999).clock.station < issue.validFrom ∧
    (atTime 999 999).emptySlot = some 0 := by
  decide +kernel

theorem witness_issue_answered :
    issueMalformed issue = false ∧ (alertIn .waiting 1).receiver.opened = none ∧
    (alertIn .waiting 1).slotOf issue.origin issue.number = some 7 ∧
    (alertIn .waiting 1).alert? 7 = some (record .waiting 1) ∧ issue.revision = (record .waiting 1).frame.revision ∧
    issueMalformed { issue with revision := 1 } = false ∧
    issue.revision < { record .waiting 1 with frame := { issue with revision := 1 } }.frame.revision := by
  decide +kernel

/-- The record's expiry is the present instant. -/
def expiring : State := { alertIn .carried 2 with clock := { mono := 9000, station := 9000, unset := false } }

theorem witness_retired :
    expiring.alert? 7 = some (record .carried 2) ∧ (record .carried 2).state ≠ .onAir ∧ 63 ≤ 63 ∧
    expiring.slotOf 63 65535 = some 7 ∧ expiring.receiver.opened = none ∧ issue.expires ≤ expiring.clock.station ∧
    (record .carried 2).rank < 3 := by
  decide +kernel

theorem witness_retired_port : portFree expiring := rfl

/-- The record's valid-from is the present instant; or its next-eligible instant is. -/
def becomingValid : State := { alertIn .pending 1 with clock := { mono := 1000, station := 1000, unset := false } }
def deferred : State :=
  ((atTime 5000 5000).putAlert 7 (some { record .waiting 1 with nextEligible := some 5000 })).putSched 7
    { eligibility := .deferred, placed := false, base := none, passed := false }

theorem witness_alert_instants :
    becomingValid.alert? 7 = some (record .pending 1) ∧ (record .pending 1).rank = 1 ∧
    (record .pending 1).state = .pending ∧ issue.validFrom ≤ becomingValid.clock.station ∧
    deferred.alert? 7 = some { record .waiting 1 with nextEligible := some 5000 } ∧
    (deferred.sched? 7).eligibility = .deferred ∧ 5000 ≤ deferred.clock.station := by
  decide +kernel

theorem witness_operator_carry :
    portFree becomingValid ∧ 63 ≤ 63 ∧ becomingValid.slotOf 63 65535 = some 7 ∧
    (becomingValid.sched? 7).eligibility ≠ .eligible := ⟨rfl, by decide +kernel⟩

/-- A carriage of slot 0 is in progress. -/
def carriage : Carriage :=
  { slot := 0, origin := 63, number := 65535, way := .immediate, startMono := 0, startStation := 0, revision := 0,
    linkLost := false, playSent := true, guardAt := 5000, serial := 1, passed := false }

/-- A rank-3 record of slot 7 whose deadline is now, during that carriage. -/
def deadlineNow : State :=
  let s := ((atTime 120000 120000).putAlert 7 (some (record .waiting 3))).putSched 7
    { eligibility := .eligible, placed := false, base := some 0, passed := false }
  { s with sched := { s.sched with carriage := some carriage } }

theorem witness_deadline :
    deadlineNow.alert? 7 = some (record .waiting 3) ∧
    deadlineNow.sched? 7 = { eligibility := .eligible, placed := false, base := some 0, passed := false } ∧
    (record .waiting 3).rank = 3 ∧
    0 + (deadlineNow.classEntry (record .waiting 3).frame.cls).deadline * 1000 ≤ deadlineNow.clock.mono ∧
    deadlineNow.sched.carriage = some carriage := by
  decide +kernel

/-- Class 127 is MANDATORY_NOW, and nothing or a LIVE entry is on air. -/
def mandatory (s : State) : State :=
  { s.putClass 127 { action := .mandatoryNow, deadline := 120, required := false, ceiling := none } with
    clock := { mono := 1000, station := 1000, unset := false } }

theorem witness_carriage_starts :
    issueMalformed issue = false ∧ (mandatory (atTime 0 0)).receiver.opened = none ∧
    (mandatory (atTime 0 0)).slotOf issue.origin issue.number = none ∧
    ((mandatory (atTime 0 0)).classEntry issue.cls).action = .mandatoryNow ∧ issue.test = 0 ∧
    issue.validFrom < issue.expires ∧ issue.validFrom ≤ (mandatory (atTime 0 0)).clock.station ∧
    (mandatory (atTime 0 0)).clock.station < issue.expires ∧ (mandatory (atTime 0 0)).emptySlot = some 0 ∧
    (mandatory (atTime 0 0)).sched.carriage = none ∧
    (∀ j, ((mandatory (atTime 0 0)).sched? j).eligibility ≠ .eligible) ∧ (mandatory (atTime 0 0)).air.outgoing = none ∧
    (mandatory (atTime 0 0)).air.state = .stopped ∧ (mandatory (atTime 0 0)).air.onAir = none ∧
    (mandatory (oneOnAir live none)).air.state = .running ∧
    (mandatory (oneOnAir live none)).air.onAir = some (playing live none) ∧
    (mandatory (oneOnAir live none)).emptySlot = some 0 ∧ (mandatory (oneOnAir live none)).air.outgoing = none := by
  decide +kernel

/-- An immediate carriage, its guard expiring now, after a number of failures; the callers were held at its start. -/
def carried (failed : Nat) : Alert := { record .onAir 4 with failed, revisionOnAir := some 0 }
def carrying (failed : Nat) (p : Preemption) : State :=
  let s := (atTime 5000 5000).putAlert 0 (some (carried failed))
  { s with
    lines := { s.lines with alertHold := true }
    sched := { s.sched with carriage := some carriage }
    air := { s.air with state := .preempted, preemption := some p } }

/-- It came out of STOPPED, or interrupted a LIVE entry that had 1 ms to go. -/
def fromStopped : Preemption :=
  { interrupted := none, elapsed := 0, policy := .next, before := .stopped, outgoingCut := false }
def fromLive : Preemption :=
  { interrupted := some (playing live none), elapsed := 999, policy := .resume, before := .running, outgoingCut := false }

theorem plain_carriage (p : Preemption) : PlainCarriage (carrying 1 p) carriage (carried 1) :=
  ⟨rfl, rfl, rfl, rfl, rfl, rfl, (by decide : (1000 : Nat) ≤ 5000),
   (by decide +kernel : ∀ k, ((atTime 5000 5000).sched? k).eligibility ≠ .eligible), rfl, rfl, rfl,
   (by decide +kernel : ∀ l, ((atTime 5000 5000).caller l).state = .hold → ((atTime 5000 5000).caller l).restore = false)⟩

theorem witness_carriage_ends :
    PlainCarriage (carrying 1 fromStopped) carriage (carried 1) ∧ (carrying 1 fromStopped).receiver.opened = none ∧
    (carrying 1 fromStopped).air.preemption = some fromStopped ∧ fromStopped.policy = .next ∧
    fromStopped.before = .stopped ∧ (carried 1).frame.required ≤ (carried 1).carried + 1 ∧ (carried 1).failed + 1 < 3 ∧
    carriage.guardAt ≤ (carrying 1 fromStopped).clock.mono :=
  ⟨plain_carriage _, by decide +kernel⟩

theorem witness_carriage_resumes :
    PlainCarriage (carrying 1 fromLive) carriage (carried 1) ∧ (carrying 1 fromLive).receiver.opened = none ∧
    (carrying 1 fromLive).air.preemption = some fromLive ∧ fromLive.policy = .resume ∧
    fromLive.interrupted = some (playing live none) ∧ (playing live none).source = .item 512 0 (.live true plain) ∧
    fromLive.elapsed ≤ (carrying 1 fromLive).clock.mono ∧ fromLive.elapsed ≤ (carrying 1 fromLive).clock.station ∧
    (carrying 1 fromLive).clock.station < Config.stationModulus ∧
    (carried 1).frame.required ≤ (carried 1).carried + 1 :=
  ⟨plain_carriage _, by decide +kernel⟩

/-- A rank-3 alert that was carried when its deadline had passed is on air. -/
def carryingPassed : State :=
  let s := carrying 0 fromStopped
  { s.putAlert 0 (some { carried 0 with rank := 3 }) with
    sched := { s.sched with carriage := some { carriage with passed := true } } }

theorem witness_carried_again :
    portFree carryingPassed ∧ carryingPassed.onAirSlot = some 0 ∧
    carryingPassed.alert? 0 = some { carried 0 with rank := 3 } ∧
    (carried 0).frame.validFrom ≤ carryingPassed.clock.station ∧ carryingPassed.carriedPassed = true ∧
    (∀ j, (carryingPassed.sched? j).eligibility ≠ .eligible) ∧ portFree (carrying 1 fromStopped) ∧
    (carrying 1 fromStopped).onAirSlot = some 0 ∧ (carrying 1 fromStopped).alert? 0 = some (carried 1) ∧
    (carried 1).rank = 4 :=
  ⟨rfl, by decide +kernel, by decide +kernel, by decide +kernel, rfl, by decide +kernel, rfl, by decide +kernel⟩

/-- R167, its last sentence. -/
theorem test_passed_alert_is_carried_again :
    (match exec (.controllerReset .engineer) carryingPassed with
     | .next t => (t.sched.carriage.map fun c => (c.slot, c.way, c.startMono),
                   (t.alert? 0).map fun a => (a.state, a.rank))
     | .fault _ => (none, none)
     | .refused _ => (none, none)) = (some (0, .immediate, 5000), some (.onAir, 3)) := by
  decide +kernel

/-- A frame is open since 0, 51 ms ago, on both ports. -/
def openFrames : State :=
  let s := atTime 51 51
  { s with
    receiver := { s.receiver with opened := some { bytes := [0xA7#8], lastAt := 0 } }
    site := { s.site with opened := some { bytes := [0xC3#8], lastAt := 0 } } }

/-- Frames are being sent to the decoder while a carriage is in progress. -/
def sendingAlert (out : List AlertFrame) : State :=
  { carrying 1 fromStopped with receiver := { (carrying 1 fromStopped).receiver with outgoing := out } }

theorem witness_alert_port :
    (atTime 0 0).receiver.opened = none ∧ alertLength (5#8).toNat = none ∧ alertLength (1#8).toNat = some 22 ∧
    (21#8).toNat ≠ 22 ∧ alertLength (4#8).toNat = some ([] : List Byte).length ∧ (0#8).toNat = ([] : List Byte).length ∧
    ([0#8, 0#8] : List Byte).length = 2 ∧ [0#8, 0#8] ≠ be 2 (crc [4#8, 0#8]) ∧
    openFrames.receiver.opened = some { bytes := [0xA7#8], lastAt := 0 } ∧ 50 < openFrames.clock.mono - 0 ∧
    (sendingAlert [.play 63 65535 1]).receiver.outgoing = [.play carriage.origin carriage.number carriage.serial] ∧
    (sendingAlert [.play 63 65535 1]).sched.carriage = some carriage ∧
    (sendingAlert [.receipt 1 2 3 .unknown, .stop]).receiver.outgoing = .receipt 1 2 3 .unknown :: [.stop] ∧
    [ReceiptResult.accepted, .ignored, .expired, .full, .duplicate, .staleRevision, .malformed, .cancelled,
      .unknown][8]? = some .unknown ∧ (sendingAlert [.stop]).receiver.outgoing = [.stop] := by
  decide +kernel

/-! #### The site link -/

theorem witness_site_set :
    portFree linkUp ∧ readParam 2 = some .power ∧ siteValue .power 65535 = .ok 1000 ∧ readParam 4 = some .siteAudio ∧
    siteValue .siteAudio 1 = .ok 1 ∧ readParam 1 = some .carrier ∧ siteValue .carrier 0 = .ok 0 :=
  ⟨rfl, rfl, rfl, rfl, rfl, rfl, rfl⟩

/-- A SET of CARRIER and a POLL of channel 8 are in flight. -/
def awaiting : State :=
  let s := linkUp.putParam .carrier
    { desired := some 1, confirmed := none, state := .sent, refusal := none, retryAt := none }
  { s with site := { s.site with inFlight :=
      [{ sequence := 255, target := .set .carrier 1 none, sentAt := some 9600, tries := 2 },
       { sequence := 0, target := .poll 7, sentAt := some 0, tries := 1 }] } }

theorem witness_site_frames :
    awaiting.site.link = .up ∧ awaiting.site.opened = none ∧
    awaiting.inFlight? 255 = some { sequence := 255, target := .set .carrier 1 none, sentAt := some 9600, tries := 2 } ∧
    readParam 1 = some .carrier ∧ Param.carrier ≠ .power ∧ Param.carrier ≠ .txSelect ∧ validValue .carrier 1 = true ∧
    (awaiting.param .carrier).desired = some 1 ∧
    awaiting.inFlight? 0 = some { sequence := 0, target := .poll 7, sentAt := some 0, tries := 1 } ∧
    awaiting.site.changeover = none := by
  decide +kernel

/-- A POLL of channel 2 is in flight, with a strike or none, a POWER desired, and 50 W read on channel 1 just 2,000 ms
ago: under the fold-back limit of 10 % a reflected 5 W is no strike and 6 W is one. -/
def folding (strikes power : Nat) : State :=
  let s := linkUp.putParam .power
    { desired := some power, confirmed := none, state := .settled, refusal := none, retryAt := none }
  { s with site := { s.site with
      strikes, inFlight := [{ sequence := 4, target := .poll 1, sentAt := some 9900, tries := 1 }]
      readings := s.site.readings.set 0 { state := .valid, value := some 50, takenAt := some 8000 } } }

theorem witness_foldback :
    (folding 0 11).site.link = .up ∧ (folding 0 11).site.opened = none ∧
    (folding 0 11).inFlight? 4 = some { sequence := 4, target := .poll 1, sentAt := some 9900, tries := 1 } ∧
    (folding 0 11).site.readings[(0 : Fin 8)] = { state := .valid, value := some 50, takenAt := some 8000 } ∧
    8000 ≤ (folding 0 11).clock.mono ∧ (folding 0 11).clock.mono ≤ 8000 + 2000 ∧ (folding 0 11).site.foldLimit = 10 ∧
    (2622 * 125 / 65535 : Nat) * 100 ≤ 50 * 10 ∧ 50 * 10 < (3146 * 125 / 65535 : Nat) * 100 ∧
    (folding 0 11).site.strikes = 0 ∧ (folding 1 11).site.strikes = 1 ∧
    ((folding 1 11).param .power).desired = some 11 ∧ ((folding 1 10).param .power).desired = some 10 := by
  decide +kernel

/-- Three frames hold the numbers 255, 0 and 1, and 255 is the next in turn. -/
def threeInFlight : State :=
  { linkUp with site := { linkUp.site with sequence := 255, inFlight :=
      [{ sequence := 255, target := .poll 0, sentAt := none, tries := 1 },
       { sequence := 0, target := .poll 1, sentAt := none, tries := 1 },
       { sequence := 1, target := .poll 2, sentAt := none, tries := 1 }] } }

theorem witness_next_sequence :
    threeInFlight.site.sequence < 256 ∧ threeInFlight.site.inFlight.length < 4 ∧ threeInFlight.nextSequence = 2 := by
  decide +kernel

/-- A frame is being sent, and the keep timer and the poll timer expire now. -/
def sendingSite (f : SiteFrame) : State :=
  let s := atTime 1000 1000
  { s with site := { s.site with outgoing := [f], pollAt := 1000 } }

theorem witness_site_port :
    (atTime 0 0).site.opened = none ∧ siteLength (0xFF#8).toNat = none ∧ siteLength (0x22#8).toNat = some 1 ∧
    (2#8).toNat ≠ 1 ∧ siteLength (0x22#8).toNat = some ([1#8] : List Byte).length ∧ (1#8).toNat = 1 ∧
    ([0#8, 0#8] : List Byte).length = 2 ∧ [0#8, 0#8] ≠ be 2 (crc [0x22#8, 255#8, 1#8, 1#8]) ∧
    openFrames.site.opened = some { bytes := [0xC3#8], lastAt := 0 } ∧ 50 < openFrames.clock.mono - 0 ∧
    (sendingSite (.poll 3 7)).site.outgoing = [.poll 3 7] ∧
    (sendingSite (.set 0 .modLimit 100)).site.outgoing = [.set 0 .modLimit 100] ∧
    [Param.carrier, .power, .txSelect, .siteAudio, .alertFlag, .modLimit][5]? = some .modLimit ∧
    (sendingSite (.keep 255 true false)).site.outgoing = [.keep 255 true false] ∧
    (sendingSite (.poll 3 7)).site.keepAt ≤ (sendingSite (.poll 3 7)).clock.mono ∧
    (sendingSite (.poll 3 7)).site.pollAt ≤ (sendingSite (.poll 3 7)).clock.mono ∧
    (sendingSite (.poll 3 7)).site.link = .lost := by
  decide +kernel

theorem witness_timeouts :
    awaiting.inFlight? 255 = some { sequence := 255, target := .set .carrier 1 none, sentAt := some 9600, tries := 2 } ∧
    9600 + 400 ≤ awaiting.clock.mono ∧ 2 < 3 := by
  decide +kernel

/-- The third try of a SET has timed out; and a parameter's retry timer expires with the link LOST, or UP. -/
def thirdTry : State :=
  { awaiting with site := { awaiting.site with inFlight :=
      [{ sequence := 255, target := .set .carrier 1 none, sentAt := some 9600, tries := 3 }] } }
def retrying (link : LinkState) : State :=
  let s := linkUp.putParam .modLimit
    { desired := some 100, confirmed := none, state := .unconfirmed, refusal := none, retryAt := some 10000 }
  { s with site := { s.site with link } }

theorem witness_third_try :
    thirdTry.inFlight? 255 = some { sequence := 255, target := .set .carrier 1 none, sentAt := some 9600, tries := 3 } ∧
    9600 + 400 ≤ thirdTry.clock.mono ∧ (thirdTry.param .carrier).desired = some 1 := by
  decide +kernel

theorem witness_retries :
    ((retrying .lost).param .modLimit).state = .unconfirmed ∧ ((retrying .lost).param .modLimit).retryAt = some 10000 ∧
    10000 ≤ (retrying .lost).clock.mono ∧ (retrying .lost).site.link = .lost ∧ (retrying .up).site.link ≠ .lost ∧
    ((retrying .up).param .modLimit).state = .unconfirmed ∧
    ((retrying .up).param .modLimit).retryAt = some 10000 := by
  decide +kernel

/-- The link has been silent since 0, a changeover runs since 0, and channel 8 was read at 9,999. -/
def supervised (mono : Nat) (link : LinkState) : State :=
  let s := atTime mono mono
  { s with site := { s.site with
      link, silenceFrom := some 0, changeover := some { target := 1, startedAt := 0, seen := false }
      readings := s.site.readings.set 7 { state := .valid, value := some 0, takenAt := some 9999 } } }

theorem witness_supervision :
    (supervised 3000 .up).site.silenceFrom = some 0 ∧ 0 + 3000 ≤ (supervised 3000 .up).clock.mono ∧
    (supervised 3000 .up).site.link = .up ∧ (supervised 10000 .degraded).site.link = .degraded ∧
    0 + 10000 ≤ (supervised 10000 .degraded).clock.mono ∧
    (supervised 20000 .lost).site.changeover = some { target := 1, startedAt := 0, seen := false } ∧
    0 + 20000 ≤ (supervised 20000 .lost).clock.mono ∧
    (supervised 20000 .lost).site.readings[7].state = .valid ∧
    (supervised 20000 .lost).site.readings[7].takenAt = some 9999 ∧
    9999 + 10000 < (supervised 20000 .lost).clock.mono := by
  decide +kernel

/-! #### Configuration and the clock -/

/-- Player 4 is on air for an entry, player 1 is not. -/
theorem witness_configuration :
    portFree audioOnAir ∧ (audioOnAir.player 0).onAirForEntry = false ∧ (audioOnAir.player 3).onAirForEntry = true ∧
    10 < 11 ∧ (-1 : Int) < 0 ∧ (4 : Int) < 5 := ⟨rfl, by decide +kernel⟩

theorem witness_clock_set :
    portFree (atTime 0 0) ∧ 2 ^ 40 - 1 < 2 ^ 40 ∧ (∀ w, (atTime 0 0).air.watch ≠ .armed w) ∧
    (∀ k : Fin 8, (atTime 0 0).alert? k = none) ∧ (∀ k : Fin 8, ((atTime 0 0).sched? k).eligibility ≠ .deferred) ∧
    2 ^ 40 ≤ 2 ^ 40 :=
  ⟨rfl, by decide, fun _ h => (nomatch h), by decide +kernel⟩

end Sys2Proof.Tests
end

section
/-! PROOFS. The five edits of the running order: what their checks refuse, what each acceptance answers, and what an edit
notice leaves alone; with these O21, O22 and O23. -/

namespace Sys2Proof.Machine

open Sys2Proof.Safety

/-! ### Requests -/

/-- AUTOMATION sends a request that the table lists for it alone, and its owner refuses (R188). -/
theorem request_automation_refused {code : Nat} {s : State} {owner : State → Option (State × Reply)} {st : Status}
    (hp : portFree s) (ho : owner s = refused s st) :
    request code .automation roleAutomation s owner = .next (s.answer code { status := st, fields := [] }) :=
  request_owner hp rfl ho

/-- A reading request of any role is answered by its owner and changes nothing but the response. -/
theorem readRequest_answer {code : Nat} {s : State} {owner : State → Reply} {r : Reply} (role : Role)
    (hp : portFree s) (ho : owner s = r) : readRequest code role roleAll s owner = .next (s.answer code r) :=
  request_owner hp (by cases role <;> rfl) (by rw [ho])

/-! ### Handles (R4) -/

/-- The handle of a live entry names that entry's slot at its generation. -/
theorem Store.find?_eq_some {st : Store} {h : Nat} {e : Entry} :
    st.find? h = some e ↔
      handleClass h = .formed ∧ (st.slot (handleSlot h)).gen = handleGen h ∧ (st.slot (handleSlot h)).entry = some e := by
  unfold Store.find?
  split
  · rename_i hf; simp [hf.1, hf.2]
  · rename_i hf; simp only [reduceCtorEq, false_iff]; exact fun hc => hf ⟨hc.1, hc.2.1⟩

theorem Store.live_of_find? {st : Store} {h : Nat} {e : Entry} (he : st.find? h = some e) : st.live h = true := by
  simp [Store.live, he]

/-- A live handle names an entry. -/
theorem Store.find?_of_live {st : Store} {h : Nat} (hl : st.live h = true) : ∃ e, st.find? h = some e :=
  Option.isSome_iff_exists.mp hl

/-- A live handle is formed. -/
theorem Store.formed_of_live {st : Store} {h : Nat} (hl : st.live h = true) : handleClass h = .formed := by
  obtain ⟨e, he⟩ := Store.find?_of_live hl
  obtain ⟨hf, -, -⟩ := Store.find?_eq_some.mp he
  exact hf

/-- A formed handle is not 0. -/
theorem ne_zero_of_formed {h : Nat} (hf : handleClass h = .formed) : h ≠ 0 := by
  rintro rfl; simp [handleClass] at hf

/-- A formed handle that is not live gets STALE where an entry is required (R4). -/
theorem State.handleRefusal_stale {s : State} {h : Nat} (hf : handleClass h = .formed) (hl : s.store.live h = false) :
    s.handleRefusal h = some .stale := by
  simp [State.handleRefusal, hf, hl]

/-- A live handle gets no refusal (R4). -/
theorem State.handleRefusal_live {s : State} {h : Nat} (hl : s.store.live h = true) : s.handleRefusal h = none := by
  simp [State.handleRefusal, Store.formed_of_live hl, hl]

/-- An anchor of a list: 0 for its start, or a live entry of the list (R11). -/
def Store.anchors (st : Store) (l : ListId) (anchor : Nat) : Prop :=
  anchor = 0 ∨ (st.live anchor = true ∧ anchor ∈ st.order l)

/-- An anchor of a list passes the three checks that R8 makes of it. -/
theorem Store.anchors_checks {st : Store} {l : ListId} {anchor : Nat} (h : st.anchors l anchor) :
    handleClass anchor ≠ .malformed ∧ ¬(anchor ≠ 0 ∧ st.live anchor = false) ∧
      ¬(anchor ≠ 0 ∧ (st.order l).contains anchor = false) := by
  obtain rfl | ⟨hl, hm⟩ := h
  · simp [handleClass]
  · simp [Store.formed_of_live hl, hl, hm]

/-! ### What an edit notice leaves alone (R10, R33, R69) -/

/-- Comparing the drop sets raises no occurrence but TIMING_CHANGED (R81). -/
theorem State.keepDrops_occurrence (s : State) (entries : List Resolved) {o : Occurrence} (h : o ≠ .timingChanged) :
    (s.keepDrops entries).occurrence o = s.occurrence o := by
  unfold State.keepDrops
  dsimp only
  split
  · rfl
  · exact (State.occurrence_raise _ _ _ _).trans (if_neg h)

theorem State.compute_occurrence (s : State) {o : Occurrence} (h : o ≠ .timingChanged) :
    s.compute.occurrence o = s.occurrence o := by
  unfold State.compute
  exact State.keepDrops_occurrence _ _ h

/-- Reporting faults raises LOOKAHEAD_FAULT alone (R29). -/
theorem State.reportFaults_occurrence (l : List (Nat × WalkFault)) (s : State) {o : Occurrence}
    (h : o ≠ .lookaheadFault) : (State.reportFaults l s).occurrence o = s.occurrence o := by
  induction l generalizing s with
  | nil => rfl
  | cons p rest ih =>
    rw [State.reportFaults, ih]
    exact (State.occurrence_raise _ _ _ _).trans (if_neg h)

theorem State.tryPlace_occurrence (s : State) {o : Occurrence} (h : o ≠ .timingChanged) :
    s.tryPlace.occurrence o = s.occurrence o := by
  unfold State.tryPlace
  split
  · rfl
  · split
    · rfl
    · dsimp only
      split
      · rfl
      · exact State.compute_occurrence _ h

/-- A rebuild raises no occurrence but LOOKAHEAD_FAULT and TIMING_CHANGED (R29, R81). -/
theorem State.rebuild_occurrence (s : State) {o : Occurrence} (hf : o ≠ .lookaheadFault) (ht : o ≠ .timingChanged) :
    s.rebuild.occurrence o = s.occurrence o := by
  unfold State.rebuild
  dsimp only
  rw [State.compute_occurrence _ ht]
  exact (State.tryPlace_occurrence _ ht).trans (State.reportFaults_occurrence _ _ hf)

theorem State.takeNotice_occurrence (s : State) (n : Notice) {o : Occurrence} (hf : o ≠ .lookaheadFault)
    (ht : o ≠ .timingChanged) : (s.takeNotice n).occurrence o = s.occurrence o := by
  unfold State.takeNotice
  dsimp only
  split
  · exact State.rebuild_occurrence _ hf ht
  · rfl

/-- The state after an edit whose notice has been taken, before a waiting sequencer answers it (R10, R33). -/
def State.noticed (s : State) (st : Store) (n : Notice) : State := { s with store := st }.takeNotice n

@[simp] theorem State.noticed_store (s : State) (st : Store) (n : Notice) : (s.noticed st n).store = st := by
  simp [State.noticed]

/-- A sequencer that is not waiting answers nothing to an edit (R61). -/
theorem State.edited_of_not_wait {s : State} (hw : s.air.state.isWait = false) (st : Store) (n : Notice) :
    s.edited st n = some (s.noticed st n) := by
  have ha : (s.noticed st n).air.state = s.air.state := by simp [State.noticed]
  change settleHead s (s.noticed st n) = _
  simp [settleHead, ha, hw]

/-- An answered edit changes nothing outside its frame. -/
theorem State.noticed_editFrame (s : State) (st : Store) (n : Notice) (code : Nat) (r : Reply) :
    EditFrame s ((s.noticed st n).answer code r) := by
  have hair : (s.noticed st n).air = { s.air with watch := (s.noticed st n).air.watch } := by
    change (⟨_, _, _, _, _, _, _, _, _, _, _, _, _, _, _, _, _⟩ : Air) = _
    simp [State.noticed]
  have htimer : (s.noticed st n).timer =
      { s.timer with record := (s.noticed st n).timer.record, dropSet := (s.noticed st n).timer.dropSet } := by
    change (⟨_, _, _, _⟩ : Timer) = _
    simp [State.noticed]
  have hocc (o : Occurrence) (hf : o ≠ .lookaheadFault) (ht : o ≠ .timingChanged) :
      (s.noticed st n).occurrence o = s.occurrence o := State.takeNotice_occurrence _ _ hf ht
  refine ⟨?_, hair, htimer, ?_, ?_, ?_, ?_, ?_, rfl, ?_, hocc, ?_, ?_⟩ <;> simp [State.noticed]

/-- An answer alone stays within an edit's frame. -/
theorem State.answer_editFrame (s : State) (code : Nat) (r : Reply) : EditFrame s (s.answer code r) :=
  ⟨rfl, rfl, rfl, rfl, rfl, rfl, rfl, rfl, rfl, rfl, fun _ _ _ => rfl, rfl, rfl⟩

/-- AUTOMATION's edit, accepted while the sequencer is not waiting, is answered OK. -/
theorem request_edited {code : Nat} {s : State} {owner : State → Option (State × Reply)} {st : Store} {n : Notice}
    {fields : List Byte} (hp : portFree s) (hw : s.air.state.isWait = false)
    (ho : owner s = accepted (s.edited st n) fun _ => fields) :
    request code .automation roleAutomation s owner = .next ((s.noticed st n).answer code (.ok fields)) :=
  request_owner hp rfl (by rw [ho, State.edited_of_not_wait hw]; rfl)

/-! ### RO_INSERT (R8, R11) -/

/-- The store after an insertion into a slot. -/
def Store.inserted (st : Store) (n : Nat) (l : ListId) (anchor : Nat) (b : Body) : Store :=
  (st.putSlot n { gen := (st.slot n).gen, entry := some { list := l, body := b } }).putOrder l
    (insertAfter anchor ((st.slot n).gen * 512 + n) (st.order l))

theorem Store.insert_lowestFree {st : Store} {n : Nat} (h : st.lowestFree = some n) (l : ListId) (anchor : Nat)
    (b : Body) : st.insert l anchor b = some (st.inserted n l anchor b, (st.slot n).gen * 512 + n) := by
  simp only [Store.insert, h, Option.map_some]
  rfl

theorem exec_roInsert_accepted {anchor : Nat} {raw : RawEntry} {l : ListId} {b : Body} {n : Nat} {s : State}
    (hp : portFree s) (hl : readList raw.list = some l) (hb : readBody raw = some b) (ha : s.store.anchors l anchor)
    (hn : s.store.lowestFree = some n) (hw : s.air.state.isWait = false) :
    exec (.roInsert .automation anchor raw) s = .next
      ((s.noticed (s.store.inserted n l anchor b) { lists := [l], departed := [] }).answer 0x10
        (.ok (handleB ((s.store.slot n).gen * 512 + n) ++ bodyB l b))) := by
  obtain ⟨hm, hs, ho⟩ := Store.anchors_checks ha
  refine request_edited hp hw ?_
  simp only [insertEntry, hl, hb, if_neg hm, if_neg hs, if_neg ho, Store.insert_lowestFree hn]

theorem exec_roInsert_refused {anchor : Nat} {raw : RawEntry} {s : State} {st : Status} (hp : portFree s)
    (ho : insertEntry anchor raw s = refused s st) :
    exec (.roInsert .automation anchor raw) s = .next (s.answer 0x10 { status := st, fields := [] }) :=
  request_automation_refused hp ho

/-- A list, a body or an anchor out of range is refused with BAD_FIELD (R8, stage 1). -/
theorem insertEntry_badField {anchor : Nat} {raw : RawEntry} (s : State)
    (h : readList raw.list = none ∨ readBody raw = none ∨ handleClass anchor = .malformed) :
    insertEntry anchor raw s = refused s .badField := by
  unfold insertEntry
  split
  · rename_i l b hl hb
    obtain h | h | h := h
    · simp [hl] at h
    · simp [hb] at h
    · exact if_pos h
  · rfl

/-- Settles O21: an accepted RO_INSERT is the store's insertion with its notice; each refusal is one stage of R8. -/
theorem insertStoresInLowestFreeSlot : Obligations.InsertStoresInLowestFreeSlot := by
  unfold Obligations.InsertStoresInLowestFreeSlot
  refine ⟨fun anchor raw l b n s hp hl hb ha hn hw => ?accepted, fun anchor raw s hp =>
    ⟨fun h => exec_roInsert_refused hp (insertEntry_badField s h),
      fun l b hl hb => ⟨fun hf hlive => ?stale, fun hlive hm => ?otherList, fun ha hn => ?full⟩⟩⟩
  case accepted =>
    exact ⟨_, exec_roInsert_accepted hp hl hb ha hn hw, State.noticed_store _ _ _, rfl,
      State.noticed_editFrame _ _ _ _ _⟩
  case stale =>
    have h0 := ne_zero_of_formed hf
    exact exec_roInsert_refused hp (by simp [insertEntry, hl, hb, hf, hlive, h0])
  case otherList =>
    have hf := Store.formed_of_live hlive
    have h0 := ne_zero_of_formed hf
    exact exec_roInsert_refused hp (by simp [insertEntry, hl, hb, hf, hlive, h0, hm])
  case full =>
    obtain ⟨hm, hs, ho⟩ := Store.anchors_checks ha
    refine exec_roInsert_refused hp ?_
    simp only [insertEntry, hl, hb, if_neg hm, if_neg hs, if_neg ho, Store.insert, hn, Option.map_none]

/-! ### RO_CHANGE (R8, R12) -/

theorem exec_roChange_accepted {h : Nat} {raw : RawEntry} {l : ListId} {old b : Body} {s : State} (hp : portFree s)
    (he : s.store.find? h = some { list := l, body := old }) (hpr : s.protects h = false)
    (hb : readBody raw = some b) (hk : b.kindCode = old.kindCode) (hw : s.air.state.isWait = false) :
    exec (.roChange .automation h raw) s = .next
      ((s.noticed (s.store.putEntry h { list := l, body := b }) { lists := [l], departed := [] }).answer 0x11
        (.ok (bodyB l b))) := by
  refine request_edited hp hw ?_
  simp [changeEntry, hb, State.handleRefusal_live (Store.live_of_find? he), he, hk, hpr]

theorem exec_roChange_refused {h : Nat} {raw : RawEntry} {s : State} {st : Status} (hp : portFree s)
    (ho : changeEntry h raw s = refused s st) :
    exec (.roChange .automation h raw) s = .next (s.answer 0x11 { status := st, fields := [] }) :=
  request_automation_refused hp ho

/-! ### RO_MOVE (R8, R13) -/

/-- The notice of a move: the list left, the list joined where it is another, and the mover with its follower. -/
def Store.moveNotice (st : Store) (h : Nat) (e : Entry) (l : ListId) : Notice :=
  { lists := if l = e.list then [l] else [e.list, l], departed := [(h, followerIn h (st.order e.list))] }

/-- An anchor other than the mover lets a live, unprotected mover go to the last stage (R8). -/
theorem moveEntry_anchored {h list anchor : Nat} {l : ListId} {e : Entry} {s : State} (hl : readList list = some l)
    (he : s.store.find? h = some e) (hpr : s.protects h = false)
    (ha : anchor = 0 ∨ (anchor ≠ h ∧ s.store.live anchor = true ∧ anchor ∈ s.store.order l)) :
    moveEntry h list anchor s = moveLive h e l anchor s := by
  have hlive := State.handleRefusal_live (Store.live_of_find? he)
  obtain rfl | ⟨hne, hal, ham⟩ := ha
  · simp [moveEntry, hl, hlive, he, hpr, handleClass]
  · simp [moveEntry, hl, hlive, he, hpr, Store.formed_of_live hal, hal, ham, hne]

theorem exec_roMove_accepted {h list anchor : Nat} {l : ListId} {e : Entry} {s : State} (hp : portFree s)
    (hl : readList list = some l) (he : s.store.find? h = some e) (hpr : s.protects h = false)
    (ha : anchor = 0 ∨ (anchor ≠ h ∧ s.store.live anchor = true ∧ anchor ∈ s.store.order l))
    (hc : (s.store.move h e l anchor).order l ≠ s.store.order l ∨ l ≠ e.list) (hw : s.air.state.isWait = false) :
    exec (.roMove .automation h list anchor) s = .next
      ((s.noticed (s.store.move h e l anchor) (s.store.moveNotice h e l)).answer 0x12
        (.ok (moveB (s.store.move h e l anchor) h l))) := by
  refine request_edited hp hw ?_
  rw [moveEntry_anchored hl he hpr ha]
  exact if_neg fun ⟨hel, hord⟩ => hc.elim (· hord) (· hel)

/-- A move to the place already held gives no notice (R13). -/
theorem exec_roMove_unmoved {h list anchor : Nat} {l : ListId} {e : Entry} {s : State} (hp : portFree s)
    (hl : readList list = some l) (he : s.store.find? h = some e) (hpr : s.protects h = false)
    (ha : anchor = 0 ∨ (anchor ≠ h ∧ s.store.live anchor = true ∧ anchor ∈ s.store.order l)) (hel : l = e.list)
    (hord : (s.store.move h e l anchor).order l = s.store.order l) :
    exec (.roMove .automation h list anchor) s = .next (s.answer 0x12 { status := .ok, fields := moveB s.store h l }) := by
  refine request_owner (u := s) hp rfl ?_
  rw [moveEntry_anchored hl he hpr ha]
  exact if_pos ⟨hel, hord⟩

theorem exec_roMove_refused {h list anchor : Nat} {s : State} {st : Status} (hp : portFree s)
    (ho : moveEntry h list anchor s = refused s st) :
    exec (.roMove .automation h list anchor) s = .next (s.answer 0x12 { status := st, fields := [] }) :=
  request_automation_refused hp ho

/-- A list or an anchor out of range is refused with BAD_FIELD, whatever the mover is (R8, stage 1). -/
theorem moveEntry_badField {list anchor : Nat} (h : Nat) (s : State)
    (hx : readList list = none ∨ handleClass anchor = .malformed) :
    moveEntry h list anchor s = refused s .badField := by
  unfold moveEntry
  split
  · rfl
  · rename_i l hl
    exact if_pos (hx.resolve_left (by simp [hl]))

/-- A live anchor that is the mover itself or stands in another list is refused with BAD_FIELD (R8). -/
theorem moveEntry_badAnchor {h list anchor : Nat} {l : ListId} {e : Entry} {s : State} (hl : readList list = some l)
    (he : s.store.find? h = some e) (hx : anchor = h ∨ (s.store.live anchor = true ∧ anchor ∉ s.store.order l)) :
    moveEntry h list anchor s = refused s .badField := by
  have hlive := Store.live_of_find? he
  have hal : s.store.live anchor = true := by
    obtain rfl | ⟨hal, -⟩ := hx
    · exact hlive
    · exact hal
  have hbad : anchor ∉ s.store.order l ∨ anchor = h := hx.symm.imp_left And.right
  have hf := Store.formed_of_live hal
  simp [moveEntry, hl, State.handleRefusal_live hlive, he, hf, hal, ne_zero_of_formed hf, hbad]

/-- Settles O22: each acceptance is an edit of the store with its notice, and each refusal one stage of R8 or R9. -/
theorem changeAndMoveEditStore : Obligations.ChangeAndMoveEditStore := by
  unfold Obligations.ChangeAndMoveEditStore
  refine ⟨fun h e s hp he hpr hw => ⟨fun raw b hb hk => ?changed, fun list l anchor hl ha hc => ?moved⟩,
    fun h e s list l hp he hl => ⟨fun anchor hpr ha hel hord => exec_roMove_unmoved hp hl he hpr ha hel hord,
      fun anchor hx => exec_roMove_refused hp (moveEntry_badAnchor hl he hx), fun hpr => ?moverOnAir⟩,
    fun h e s raw hp he => ⟨fun b hb hk => ?otherKind, fun b hb hk hpr => ?changedOnAir⟩,
    fun h s hp hf hlive => ⟨fun raw b hb => ?changeStale, fun list l hl => ?moveStale⟩,
    fun h s hp => ⟨fun raw hb => exec_roChange_refused hp (by simp [changeEntry, hb]),
      fun list anchor hx => exec_roMove_refused hp (moveEntry_badField h s hx)⟩⟩
  case changed =>
    exact ⟨_, exec_roChange_accepted hp he hpr hb hk hw, State.noticed_store _ _ _, rfl,
      State.noticed_editFrame _ _ _ _ _⟩
  case moved =>
    exact ⟨_, exec_roMove_accepted hp hl he hpr ha hc hw, State.noticed_store _ _ _, rfl,
      State.noticed_editFrame _ _ _ _ _⟩
  case moverOnAir =>
    refine exec_roMove_refused hp ?_
    simp [moveEntry, hl, State.handleRefusal_live (Store.live_of_find? he), he, hpr, handleClass]
  case otherKind =>
    refine exec_roChange_refused hp ?_
    simp [changeEntry, hb, State.handleRefusal_live (Store.live_of_find? he), he, hk]
  case changedOnAir =>
    refine exec_roChange_refused hp ?_
    simp [changeEntry, hb, State.handleRefusal_live (Store.live_of_find? he), he, hk, hpr]
  case changeStale =>
    refine exec_roChange_refused hp ?_
    simp [changeEntry, hb, State.handleRefusal_stale hf hlive]
  case moveStale =>
    refine exec_roMove_refused hp ?_
    simp [moveEntry, hl, State.handleRefusal_stale hf hlive, handleClass]

/-! ### RO_DELETE and BREAK_CLEAR (R3, R8, R14, R15) -/

/-- A removed entry's slot is free, so that its handle is live no more (R3). -/
theorem Store.live_remove {st : Store} {h : Nat} {e : Entry} (he : st.find? h = some e) :
    (st.remove h).live h = false := by
  have hslot : ((st.remove h).slot (handleSlot h)).entry = none := by
    simp [Store.remove, he, Store.slot_putSlot]
  simp [Store.live, Store.find?, hslot]

theorem exec_roDelete_accepted {h : Nat} {e : Entry} {s : State} (hp : portFree s) (he : s.store.find? h = some e)
    (hpr : s.protects h = false) (hw : s.air.state.isWait = false) :
    exec (.roDelete .automation h) s = .next
      ((s.noticed (s.store.remove h) (s.store.departure h e)).answer 0x13 (.ok [])) := by
  refine request_edited hp hw ?_
  simp [deleteEntry, State.handleRefusal_live (Store.live_of_find? he), he, hpr]

theorem exec_roDelete_refused {h : Nat} {s : State} {st : Status} (hp : portFree s)
    (ho : deleteEntry h s = refused s st) :
    exec (.roDelete .automation h) s = .next (s.answer 0x13 { status := st, fields := [] }) :=
  request_automation_refused hp ho

/-- The notice of a break list cleared: each entry with its follower (R15). -/
def Store.clearNotice (st : Store) (l : ListId) : Notice :=
  { lists := [l], departed := (st.order l).map fun h => (h, followerIn h (st.order l)) }

/-- Where a break list holds no protected entry, no entry of it stops BREAK_CLEAR. -/
theorem State.none_protected {s : State} {l : ListId} (hpr : ∀ h ∈ s.store.order l, s.protects h = false) :
    (s.store.order l).any s.protects = false := by
  simpa using hpr

theorem exec_breakClear_accepted {n : Nat} {l : ListId} {s : State} (hp : portFree s) (hl : readBreak n = some l)
    (hpr : ∀ h ∈ s.store.order l, s.protects h = false) (hne : s.store.order l ≠ [])
    (hw : s.air.state.isWait = false) :
    exec (.breakClear .automation n) s = .next
      ((s.noticed ((s.store.order l).foldl Store.remove s.store) (s.store.clearNotice l)).answer 0x14
        (.ok (be 2 (s.store.order l).length))) := by
  refine request_edited hp hw ?_
  simp [clearBreak, hl, State.none_protected hpr, hne, Store.clearNotice]

/-- BREAK_CLEAR of an empty list changes nothing and gives no notice (R15). -/
theorem exec_breakClear_empty {n : Nat} {l : ListId} {s : State} (hp : portFree s) (hl : readBreak n = some l)
    (hnil : s.store.order l = []) :
    exec (.breakClear .automation n) s = .next (s.answer 0x14 (.ok [0#8, 0#8])) := by
  refine request_owner (u := s) hp rfl ?_
  simp [clearBreak, hl, hnil, accepted, be]

theorem exec_breakClear_refused {n : Nat} {s : State} {st : Status} (hp : portFree s)
    (ho : clearBreak n s = refused s st) :
    exec (.breakClear .automation n) s = .next (s.answer 0x14 { status := st, fields := [] }) :=
  request_automation_refused hp ho

/-- Settles O23: each acceptance is the store's removals with their notice, and each refusal one stage of R8 or R9. -/
theorem deleteAndClearRemoveEntries : Obligations.DeleteAndClearRemoveEntries := by
  unfold Obligations.DeleteAndClearRemoveEntries
  refine fun s hp => ⟨fun hw => ⟨fun h e he hpr => ?deleted, fun b l hl hpr => ?cleared⟩,
    fun h hf hlive => exec_roDelete_refused hp (by simp [deleteEntry, State.handleRefusal_stale hf hlive]),
    fun h hlive hpr => ?deleteOnAir, fun b l h hl hm hpr => ?clearOnAir, fun b hb => ?badBreak⟩
  case deleted =>
    refine ⟨_, exec_roDelete_accepted hp he hpr hw, State.noticed_store _ _ _, ?_, rfl,
      State.noticed_editFrame _ _ _ _ _⟩
    rw [State.answer_store, State.noticed_store]
    exact Store.live_remove he
  case cleared =>
    by_cases hnil : s.store.order l = []
    · refine ⟨_, exec_breakClear_empty hp hl hnil, ?_, ?_, State.answer_editFrame _ _ _⟩
      · rw [hnil]; rfl
      · rw [hnil]; rfl
    · exact ⟨_, exec_breakClear_accepted hp hl hpr hnil hw, State.noticed_store _ _ _, rfl,
        State.noticed_editFrame _ _ _ _ _⟩
  case deleteOnAir =>
    obtain ⟨e, he⟩ := Store.find?_of_live hlive
    exact exec_roDelete_refused hp (by simp [deleteEntry, State.handleRefusal_live hlive, he, hpr])
  case clearOnAir =>
    have hany : (s.store.order l).any s.protects = true := List.any_eq_true.mpr ⟨h, hm, hpr⟩
    exact exec_breakClear_refused hp (by simp [clearBreak, hl, hany])
  case badBreak =>
    have hnone : readBreak b = none := dif_neg (by omega)
    exact exec_breakClear_refused hp (by simp [clearBreak, hnone])

end Sys2Proof.Machine
end

section
/-! PROOFS. The power-on reset (O10, O11) and the reading requests (O19). -/

namespace Sys2Proof.Machine

open Sys2Proof.Safety

/-! ### The power-on reset -/

/-- On the empty store a walk from the start of MAIN appends the end-of-list END marker alone (R27, R39). -/
theorem resolve_empty (drawn : Vector Bool 17) :
    resolve { slots := [], orders := Vector.replicate 17 [] } Context.atStart [] drawn =
      { ctx := { pos := .at 0 0, stack := [], call := none }, look := [Resolved.endOfMain], breakNext := false,
        drawn, faults := [], stopped := true } :=
  resolve_end _ _ _ _ rfl (by simp) rfl rfl

/-- Settles O10: the rebuild of the power-on records appends that marker and computes NO_POST. -/
theorem powerOnResetLeavesResetState : Obligations.PowerOnResetLeavesResetState := by
  intro l s
  change Host.Outcome.next (State.rebuild _) = _
  unfold State.rebuild
  simp only [State.powerOn, Bool.false_eq_true, if_false, List.filterMap_nil, List.nil_append, resolve_empty]
  rfl

theorem Store.lowestFree_zero {st : Store} (h : (st.slot 0).entry = none) : st.lowestFree = some 0 := by
  unfold Store.lowestFree Store.freeFrom
  simp [h]

/-- A first slot as power-on reset leaves it gives the next entry inserted slot 0 and handle 512 (R2, R20). -/
theorem Store.insert_fresh {st : Store} (h : st.slot 0 = Slot.fresh) (l : ListId) (anchor : Nat) (b : Body) :
    (st.insert l anchor b).map Prod.snd = some 512 := by
  have hn : st.lowestFree = some 0 := Store.lowestFree_zero (by rw [h]; rfl)
  simp [Store.insert_lowestFree hn, h, Slot.fresh]

/-- Settles O11: the store that O10 gives is the empty one, whose lowest free slot is 0 at generation 1. -/
theorem powerOnResetEmptiesStore : Obligations.PowerOnResetEmptiesStore := by
  intro l s t ht
  rw [powerOnResetLeavesResetState l s] at ht
  cases ht
  refine ⟨fun n _ => rfl, rfl, fun k => by simp [State.reset, State.powerOn, Store.order], fun k b => ?_⟩
  exact Store.insert_fresh rfl k 0 b

/-! ### The reading requests -/

theorem readIndex_succ {n : Nat} (i : Fin n) : readIndex n (i.val + 1) = some i := by
  simp [readIndex, i.isLt]

theorem answerRoList_page {list start : Nat} {l : ListId} {s : State} (hl : readList list = some l)
    (hs : s.store.anchors l start) : answerRoList list start s = .ok (pageB s.store l start) := by
  obtain ⟨hm, hlive, ho⟩ := Store.anchors_checks hs
  simp only [answerRoList, hl, if_neg hm, if_neg hlive, if_neg ho]

/-- A request that reads one record out is answered OK with that record's bytes. -/
theorem readRequest_ok {code : Nat} {s : State} (role : Role) (hp : portFree s) (f : State → List Byte) :
    readRequest code role roleAll s (fun t => .ok (f t)) = .next (s.answer code (.ok (f s))) :=
  readRequest_answer role hp rfl

/-- Settles O19: each reading request's owner only answers, and its checks pass on the operands named. -/
theorem readingRequestsChangeOnlyResponse : Obligations.ReadingRequestsChangeOnlyResponse := by
  intro role s hp
  refine ⟨fun h e he => ?roRead, fun list l start hl hs => ?roList, readRequest_ok role hp airStatusB,
    fun p => ?playerRead, fun n hn => ?lookaheadRead, readRequest_ok role hp fun t => timingB t.timer.record,
    readRequest_ok role hp busB, fun l => ?callerRead, readRequest_ok role hp queueReadB, fun c hc => ?classRead,
    fun _ _ _ _ => readRequest_ok role hp probeB, fun origin number k a ho hk ha => ?alertRead,
    readRequest_ok role hp alertListB, readRequest_ok role hp carriageReadB, readRequest_ok role hp siteB,
    readRequest_ok role hp configReadB, readRequest_ok role hp clockB, readRequest_ok role hp fun _ => identB,
    readRequest_ok role hp eventsB⟩
  case roRead =>
    exact readRequest_answer role hp
      (by simp [answerRoRead, State.handleRefusal_live (Store.live_of_find? he), he])
  case roList => exact readRequest_answer role hp (answerRoList_page hl hs)
  case playerRead => exact readRequest_answer role hp (by simp [answerPlayerRead, readPlayer, readIndex_succ])
  case lookaheadRead => exact readRequest_answer role hp (if_neg (Nat.not_lt.mpr hn))
  case callerRead => exact readRequest_answer role hp (by simp [answerCaller, readLine, readIndex_succ])
  case classRead => exact readRequest_answer role hp (if_pos (by simpa [classInRange] using hc))
  case alertRead =>
    have hr : ¬ 63 < origin := by omega
    exact readRequest_answer role hp (by simp [answerAlert, State.namedAlert, hr, hk, ha])

end Sys2Proof.Machine
end

section
/-! PROOFS. Resolution (O24): the steps of the walk, what a computation leaves of the entries that the walk gave, the
rebuild that an edit notice makes, and the first entry after a power-on reset. -/

namespace Sys2Proof.Machine

open Sys2Proof.Safety

/-! ### The steps of the walk (R25 to R29) -/

/-- A step of the walk that finds a live entry meets that entry. -/
theorem Walk.step_meet {st : Store} {w : Walk} {h : Nat} {e : Entry} (hn : st.next w.ctx.pos = some h)
    (he : st.find? h = some e) : w.step st = w.meet st h w.ctx.pos.list e.body := by
  simp only [Walk.step, hn, he]

/-- A step of the walk that finds no entry reaches the end of its list. -/
theorem Walk.step_end {st : Store} {w : Walk} (hn : st.next w.ctx.pos = none) :
    w.step st = w.endOfList w.ctx.pos.list := by
  simp only [Walk.step, hn]

/-- An item met is appended, and every frame has then passed an item (R25, R26). -/
theorem Walk.meet_item {b : Body} {i : ItemFields} (hi : b.item? = some i) (st : Store) (w : Walk) (h : Nat)
    (l : ListId) : w.meet st h l b =
      w.append (.item h l b) { w.ctx with pos := .after h l, stack := w.ctx.stack.map fun f => { f with pass := true } } := by
  cases b with
  | audio | live | phone | join => rfl
  | spanStart | spanEnd | call | holdPoint | endMark => cases hi

/-- An item appended starts at its planned length (R24). -/
theorem Walk.append_item {b : Body} {i : ItemFields} (hi : b.item? = some i) (w : Walk) (h : Nat) (l : ListId)
    (after : Context) : w.append (.item h l b) after =
      { w with look := w.look ++ [appendedBy w (.item h l b) i.planned after], breakNext := false, ctx := after,
               drawn := w.drawn.set l true } := by
  simp [Walk.append, Resolved.cleared, appendedBy, Source.list?, hi]

/-- The walk at an item, at a HOLD_POINT, at an END and at the end of a list (R25, R27, R28). -/
theorem walkStepsBySource (st : Store) (w : Walk) : WalkStepsBySource st w := by
  refine ⟨fun h e hn he => ⟨fun i hi => ?item, fun hb => ?hold, fun hb => ?endMark⟩,
    fun hn => ⟨fun c hc hl => ?back, fun hc => ?last⟩⟩
  case item =>
    dsimp only
    rw [Walk.step_meet hn he, Walk.meet_item hi, Walk.append_item hi]
  case hold => rw [Walk.step_meet hn he, hb]; rfl
  case endMark => rw [Walk.step_meet hn he, hb]; rfl
  case back => simp [Walk.step_end hn, Walk.endOfList, hc, hl]
  case last =>
    rw [Walk.step_end hn]
    unfold Walk.endOfList
    split
    · rename_i c hcall
      rw [if_neg (by simpa [hcall] using hc)]
      exact ⟨_, rfl, rfl, rfl, by simp [Resolved.cleared, hcall], rfl⟩
    · rename_i hcall
      exact ⟨_, rfl, rfl, rfl, by simp [Resolved.cleared, hcall], rfl⟩

/-- The walk at a SPAN_START and at a SPAN_END (R26). -/
theorem walkStepsBySpan (st : Store) (w : Walk) : WalkStepsBySpan st w := by
  refine fun h e hn he => ⟨fun n hb => ?start, fun hb => ⟨fun hs => ?unmatched, fun f below hs => ?frame⟩⟩
  case start => rw [Walk.step_meet hn he, hb]; rfl
  case unmatched => simp [Walk.step_meet hn he, hb, Walk.meet, Walk.spanEnd, hs, skipped, Walk.fault, Walk.goTo]
  case frame =>
    rw [Walk.step_meet hn he, hb]
    have hlive : ((!((st.order w.ctx.pos.list).contains f.handle && st.live f.handle)) = true) =
        (f.handle ∉ st.order w.ctx.pos.list ∨ st.live f.handle = false) := by
      simp
    simp only [Walk.meet, Walk.spanEnd, hs, hlive, Bool.not_eq_true']
    rfl

/-- The walk at a CALL (R27). -/
theorem walkStepsByCall (st : Store) (w : Walk) : WalkStepsByCall st w := by
  refine fun h e b hn he hb => ⟨fun hl => ?inBreak, fun hl hnil => ?empty, fun hl hne => ?call⟩
  all_goals rw [Walk.step_meet hn he, hb]
  case inBreak => exact if_pos hl
  case empty => simp [Walk.meet, Walk.call, hl, hnil, skipped, Walk.fault, Walk.goTo]
  case call => simp [Walk.meet, Walk.call, hl, hne]

/-! ### The walk and the drawn set

The lists that a resolution has drawn on say nothing about where it goes. -/

/-- The walk with another drawn set. -/
def Walk.withDrawn (w : Walk) (d : Vector Bool 17) : Walk := { w with drawn := d }

theorem Walk.endOfList_withDrawn (w : Walk) (d : Vector Bool 17) (l : ListId) :
    ∃ d', (w.withDrawn d).endOfList l = (w.endOfList l).withDrawn d' := by
  simp only [Walk.endOfList, Walk.withDrawn]
  split
  · split <;> exact ⟨_, rfl⟩
  · exact ⟨_, rfl⟩

theorem Walk.spanEnd_withDrawn (w : Walk) (d : Vector Bool 17) (st : Store) (h : Nat) (l : ListId) :
    ∃ d', (w.withDrawn d).spanEnd st h l = (w.spanEnd st h l).withDrawn d' := by
  simp only [Walk.spanEnd, Walk.withDrawn]
  (repeat' split) <;> exact ⟨_, rfl⟩

theorem Walk.meet_withDrawn (w : Walk) (d : Vector Bool 17) (st : Store) (h : Nat) (l : ListId) (b : Body) :
    ∃ d', (w.withDrawn d).meet st h l b = (w.meet st h l b).withDrawn d' := by
  cases b with
  | audio | live | phone | join | holdPoint | endMark => exact ⟨_, rfl⟩
  | spanStart n =>
    by_cases hdeep : w.ctx.stack.length ≥ 4 <;>
      exact ⟨d, by simp [Walk.meet, Walk.spanStart, Walk.withDrawn, Walk.fault, Walk.goTo, hdeep]⟩
  | spanEnd => exact Walk.spanEnd_withDrawn w d st h l
  | call brk =>
    simp only [Walk.meet, Walk.call, Walk.withDrawn]
    (repeat' split) <;> exact ⟨_, rfl⟩

theorem Walk.step_withDrawn (w : Walk) (d : Vector Bool 17) (st : Store) :
    ∃ d', (w.withDrawn d).step st = (w.step st).withDrawn d' := by
  have hctx : (w.withDrawn d).ctx = w.ctx := rfl
  simp only [Walk.step, hctx]
  split
  · exact Walk.endOfList_withDrawn w d _
  · split
    · exact Walk.meet_withDrawn w d st _ _ _
    · exact ⟨_, rfl⟩

theorem Walk.run_withDrawn (st : Store) (fuel : Nat) (w : Walk) (d : Vector Bool 17) :
    ∃ d', Walk.run st fuel (w.withDrawn d) = (Walk.run st fuel w).withDrawn d' := by
  induction fuel generalizing w d with
  | zero => exact ⟨d, rfl⟩
  | succ fuel ih =>
    have hstopped : (w.withDrawn d).stopped = w.stopped := rfl
    have hlook : (w.withDrawn d).look = w.look := rfl
    simp only [Walk.run, hstopped, hlook]
    by_cases hstop : (w.stopped || decide (64 ≤ w.look.length)) = true
    · simp only [if_pos hstop]
      exact ⟨d, rfl⟩
    · simp only [if_neg hstop]
      obtain ⟨d', hd⟩ := Walk.step_withDrawn w d st
      rw [hd]
      exact ih (w.step st) d'

/-- The lookahead that a resolution gives does not depend on the drawn set it starts from. -/
theorem resolve_look_drawn (st : Store) (ctx : Context) (look : List Resolved) (d d' : Vector Bool 17) :
    (resolve st ctx look d).look = (resolve st ctx look d').look := by
  cases hl : look.getLast?.any Resolved.isEnd with
  | true => rw [resolve_ended _ _ _ _ hl, resolve_ended _ _ _ _ hl]
  | false =>
    obtain ⟨d'', h⟩ := Walk.run_withDrawn st walkFuel
      { ctx, look, breakNext := false, drawn := d', faults := [], stopped := false } d
    rw [resolve_open _ _ _ _ hl, resolve_open _ _ _ _ hl]
    exact (congrArg Walk.look h :)

/-! ### What a computation leaves of a resolved entry (R72, R80) -/

theorem walked_cleared (r : Resolved) : walked r.cleared = walked r := rfl

theorem walked_stretched (d : Direction) (r : Resolved) (share : Nat) : walked (r.stretched d share) = walked r := by
  cases d <;> rfl

/-- Marking drops changes no more of the entries than their drop marks. -/
theorem markDrops_walked (tolerance sd : Nat) (f : Int) (l : List Resolved) :
    (markDrops tolerance sd f l).2.map walked = l.map walked := by
  induction l generalizing f with
  | nil => rfl
  | cons r rest ih =>
    unfold markDrops
    split
    · exact congrArg (walked r :: ·) (ih _)
    · exact congrArg (walked r :: ·) (ih _)

theorem handOutOnce_length (r : Nat) (shares : List (Nat × Nat)) : (handOutOnce r shares).2.length = shares.length := by
  induction shares generalizing r with
  | nil => rfl
  | cons p rest ih =>
    obtain ⟨a, c⟩ := p
    cases r with
    | zero => rfl
    | succ r =>
      unfold handOutOnce
      split
      · exact congrArg (· + 1) (ih _)
      · exact congrArg (· + 1) (ih _)

theorem handOut_length (fuel r : Nat) (shares : List (Nat × Nat)) : (handOut fuel r shares).length = shares.length := by
  induction fuel generalizing r shares with
  | zero => rfl
  | succ fuel ih =>
    unfold handOut
    split
    · rfl
    · exact (ih _ _).trans (handOutOnce_length _ _)

/-- Every capacity gets a share (R79). -/
theorem stretchShares_length (amount : Nat) (caps : List Nat) : (stretchShares amount caps).length = caps.length := by
  unfold stretchShares
  dsimp only
  split
  · simp
  · simp [handOut_length]

/-- Stretching entries by shares, one for each, changes no more of them than their effective lengths. -/
theorem zipWith_stretched_walked (d : Direction) (l : List Resolved) (shares : List Nat)
    (h : shares.length = l.length) : (l.zipWith (Resolved.stretched d) shares).map walked = l.map walked := by
  induction l generalizing shares with
  | nil => rfl
  | cons r rest ih =>
    cases shares with
    | nil => simp at h
    | cons a shares =>
      rw [List.zipWith_cons_cons, List.map_cons, List.map_cons, walked_stretched, ih shares (by simpa using h)]

/-- Drops and stretches keep what the walk gave the pending entries. -/
theorem adjust_walked (tolerance : Nat) (float : Int) (pending : List Resolved) :
    (adjust tolerance float pending).entries.map walked = pending.map walked := by
  unfold adjust
  dsimp only
  generalize hm : (if float < -(tolerance : Int) then
    markDrops tolerance (pending.map Resolved.shrinkCap).sum float pending.reverse else (float, pending.reverse)) = m
  have hmarked : m.2.reverse.map walked = pending.map walked := by
    rw [← hm, List.map_reverse]
    split
    · rw [markDrops_walked, List.map_reverse, List.reverse_reverse]
    · rw [List.map_reverse, List.reverse_reverse]
  refine (zipWith_stretched_walked _ _ _ ?_).trans hmarked
  rw [stretchShares_length]
  split <;> simp

theorem splitAtPost_append {l pending after : List Resolved} {p : Resolved}
    (h : splitAtPost l = some (pending, p, after)) : pending ++ p :: after = l := by
  induction l generalizing pending with
  | nil => cases h
  | cons r rest ih =>
    unfold splitAtPost at h
    split at h
    · cases h; rfl
    · obtain ⟨⟨before, q, tail⟩, hrest, heq⟩ := Option.map_eq_some_iff.mp h
      cases heq
      exact congrArg (r :: ·) (ih hrest)

theorem State.computeFrom_walked (s : State) (start : Nat) (entries : List Resolved) :
    (s.computeFrom start entries).2.map walked = entries.map walked := by
  unfold State.computeFrom
  dsimp only
  split
  · rfl
  · rename_i pending p after hsplit
    split
    · rfl
    · rw [List.map_append, adjust_walked, ← List.map_append, splitAtPost_append hsplit]

/-- The lookahead after a computation: the held head as it was, and the entries that the stages give. -/
theorem State.compute_interp (s : State) :
    let start := if s.interp.held then 1 else 0
    s.compute.interp = { s.interp with
      look := s.interp.look.take start ++ (s.computeFrom start ((s.interp.look.drop start).map Resolved.cleared)).2 } := by
  simp [State.compute]

/-- A computation keeps what the walk gave every entry of the lookahead. -/
theorem State.compute_look_walked (s : State) : s.compute.interp.look.map walked = s.interp.look.map walked := by
  simp only [State.compute_interp, List.map_append, State.computeFrom_walked, List.map_map]
  rw [show walked ∘ Resolved.cleared = walked from rfl, ← List.map_append, List.take_append_drop]

theorem State.compute_seqNo (s : State) : s.compute.interp.seqNo = s.interp.seqNo := by
  rw [State.compute_interp]

/-- Without a post in the lookahead a computation only clears the entries after the held head (R71, R72). -/
theorem State.compute_look_noPost (s : State) (hheld : s.interp.held = false)
    (hpost : splitAtPost (s.interp.look.map Resolved.cleared) = none) :
    s.compute.interp.look = s.interp.look.map Resolved.cleared := by
  rw [State.compute_interp]
  simp [hheld, State.computeFrom, hpost]

/-! ### Edit notices (R33, R34) -/

theorem Position.repair_nil (p : Position) : p.repair [] = p := by
  cases p <;> rfl

theorem Context.repair_nil (c : Context) : c.repair [] = c := by
  obtain ⟨pos, stack, call⟩ := c
  cases call <;> simp [Context.repair, Position.repair_nil]

/-- With no alert waiting to be placed nothing is placed (R36). -/
theorem State.tryPlace_none {s : State} (h : s.interp.placement = []) : s.tryPlace = s := by
  simp [State.tryPlace, h]

theorem State.reportFaults_look (l : List (Nat × WalkFault)) (s : State) :
    (State.reportFaults l s).interp.look = s.interp.look := by
  simp

/-- The entry that a rebuild keeps: the held head (R34). -/
def Interp.kept (i : Interp) : List Resolved := if i.held then i.look.take 1 else []

/-- The context that a rebuild resolves from: the kept entry's, or the play position (R34). -/
def Interp.keptContext (i : Interp) : Context := match i.kept with | r :: _ => r.after | [] => i.play

/-- A rebuild with no alert to place: the walk from the held head's context or the play position, and the sequence number
advanced by one (R34). -/
theorem State.rebuild_walked {s : State} (hpl : s.interp.placement = []) (d : Vector Bool 17) :
    s.rebuild.interp.look.map walked = (resolve s.store s.interp.keptContext s.interp.kept d).look.map walked ∧
      s.rebuild.interp.seqNo = (s.interp.seqNo + 1) % 65536 := by
  unfold State.rebuild
  dsimp only
  rw [State.compute_look_walked, State.compute_seqNo, State.tryPlace_none (by simp [hpl])]
  constructor
  · rw [State.advanceSeq_look, State.reportFaults_look]
    exact congrArg (List.map walked) (resolve_look_drawn _ _ _ _ _)
  · simp [State.advanceSeq]

/-- The state with its store written and its held positions repaired for the entries that left a list (R10, R33). -/
def State.repaired (s : State) (st : Store) (departed : List (Nat × Nat)) : State :=
  { s with
    store := st
    interp := { s.interp with
      play := s.interp.play.repair departed
      look := s.interp.look.map fun r => { r with after := r.after.repair departed } } }

/-- A notice of a list that the lookahead draws on makes a rebuild after the repair, any other the repair alone (R33). -/
theorem State.noticed_eq (s : State) (st : Store) (n : Notice) :
    s.noticed st n = if n.lists.any (fun l => s.interp.drawn[l]) then (s.repaired st n.departed).rebuild
      else s.repaired st n.departed := rfl

/-- The entry kept by the rebuild after a repair is the held head, its context after repaired. -/
theorem State.repaired_kept (s : State) (st : Store) (departed : List (Nat × Nat)) :
    (s.repaired st departed).interp.kept = (if s.interp.held then s.interp.look.take 1 else []).map fun r =>
      { r with after := r.after.repair departed } := by
  change (if s.interp.held then (s.interp.look.map _).take 1 else []) = _
  split
  · exact List.map_take.symm
  · rfl

/-- A notice of a list that the lookahead draws on, with no alert to place, makes a rebuild (R33, R34). -/
theorem State.noticed_rebuilt {s : State} {st : Store} {n : Notice} (hpl : s.interp.placement = [])
    (hd : n.lists.any (fun l => s.interp.drawn[l]) = true) : Rebuilt s (s.noticed st n) n.departed := by
  rw [State.noticed_eq, if_pos hd]
  obtain ⟨hlook, hseq⟩ := State.rebuild_walked (s := s.repaired st n.departed) hpl (Vector.replicate 17 false)
  have hstore : (s.repaired st n.departed).rebuild.store = st := by simp [State.repaired]
  have hplay : (s.repaired st n.departed).rebuild.interp.play = s.interp.play.repair n.departed := by
    simp [State.repaired]
  have hheld : (s.repaired st n.departed).rebuild.interp.held = s.interp.held := by simp [State.repaired]
  refine ⟨?_, hplay, hheld, hseq⟩
  rw [hlook, Interp.keptContext, State.repaired_kept, hstore]
  rfl

/-- A notice of lists that the lookahead does not draw on repairs the positions held and does no more (R33). -/
theorem State.noticed_repaired {s : State} {st : Store} {n : Notice}
    (hd : n.lists.any (fun l => s.interp.drawn[l]) = false) : Repaired s (s.noticed st n) n.departed := by
  rw [State.noticed_eq, hd]
  exact ⟨rfl, rfl⟩

/-- A repair for no departed entry changes nothing. -/
theorem Repaired.unchanged {s t : State} (h : Repaired s t []) : t.interp = s.interp ∧ t.timer = s.timer := by
  obtain ⟨hi, ht⟩ := h
  simp [hi, ht, Context.repair_nil]

/-- A move's notice concerns the list left and the list joined. -/
theorem Store.moveNotice_any (st : Store) (h : Nat) (e : Entry) (l : ListId) (p : ListId → Bool) :
    (st.moveNotice h e l).lists.any p = (p e.list || p l) := by
  unfold Store.moveNotice
  dsimp only
  split
  · rename_i hl; simp [hl]
  · simp

/-! ### The first entry after a power-on reset -/

theorem Store.order_putOrder (st : Store) (l k : ListId) (hs : List Nat) :
    (st.putOrder l hs).order k = if k = l then hs else st.order k := by
  unfold Store.putOrder Store.order
  split
  · rename_i h; simp [h]
  · rename_i h
    have hi : l.val ≠ k.val := fun e => h (Fin.ext e.symm)
    simp [Vector.getElem_set_ne, hi]

/-- A MAIN that holds one item alone resolves to that item and the end-of-list END marker (R25, R27). -/
theorem resolve_one_item {st : Store} {h : Nat} {b : Body} {i : ItemFields} (ho : st.order 0 = [h])
    (he : st.find? h = some { list := 0, body := b }) (hi : b.item? = some i) (d : Vector Bool 17) :
    (resolve st Context.atStart [] d).look.map Resolved.source = [.item h 0 b, .endMark none] := by
  let w : Walk := { ctx := Context.atStart, look := [], breakNext := false, drawn := d, faults := [], stopped := false }
  have hstart : st.next w.ctx.pos = some h := by simp [w, Context.atStart, Store.next, ho]
  obtain ⟨hmeet, -⟩ := walkStepsBySource st w
  obtain ⟨hstep, -, -⟩ := hmeet h _ hstart he
  have hitem := hstep i hi
  have hend : st.next (w.step st).ctx.pos = none := by
    rw [hitem]
    simp [w, Context.atStart, Position.list, Store.next, ho, followerIn]
  obtain ⟨-, hlast⟩ := walkStepsBySource st (w.step st)
  obtain ⟨-, hmarker⟩ := hlast hend
  obtain ⟨r, hlook, hr, hstop, -, -⟩ := hmarker (.inl (by rw [hitem]; rfl))
  have hopen : (w.step st).stopped = false := by rw [hitem]
  have hshort : (w.step st).look = [appendedBy w (.item h 0 b) i.planned (w.step st).ctx] := by rw [hitem]; rfl
  rw [resolve_open _ _ _ _ rfl, show walkFuel = 1099511627774 + 1 + 1 from rfl, Walk.run_more _ _ _ rfl (by simp),
    Walk.run_more _ _ _ hopen (by simp [hshort]), Walk.run_stopped _ _ _ hstop, hlook, hshort]
  simp [hr, appendedBy]

theorem splitAtPost_none {l : List Resolved} (h : ∀ r ∈ l, r.post? = none) : splitAtPost l = none := by
  induction l with
  | nil => rfl
  | cons r rest ih =>
    unfold splitAtPost
    rw [if_neg (by simp [h r (by simp)]), ih fun q hq => h q (by simp [hq])]
    rfl

/-- A rebuild from the play position that meets no post gives each entry of the walk at its planned length (R34, R72). -/
theorem State.rebuild_look_noPost {s : State} (hpl : s.interp.placement = []) (hheld : s.interp.held = false)
    (hpost : ∀ d, ∀ r ∈ (resolve s.store s.interp.play [] d).look, r.post? = none) :
    ∃ d, s.rebuild.interp.look = (resolve s.store s.interp.play [] d).look.map Resolved.cleared := by
  unfold State.rebuild
  simp only [hheld, Bool.false_eq_true, if_false]
  rw [State.tryPlace_none (by simp [hpl]), State.compute_look_noPost _ (by simp), State.advanceSeq_look,
    State.reportFaults_look]
  · exact ⟨_, rfl⟩
  · rw [State.advanceSeq_look, State.reportFaults_look]
    refine splitAtPost_none fun r hr => ?_
    obtain ⟨q, hq, rfl⟩ := List.mem_map.mp hr
    exact hpost _ q hq

/-- A cleared resolved entry shows its source and the planned length that the source carries (R72). -/
theorem cleared_map_of_sources {look : List Resolved} {h : Nat} {l : ListId} {b : Body} {i : ItemFields}
    (hi : b.item? = some i) (hs : look.map Resolved.source = [.item h l b, .endMark none]) :
    (look.map Resolved.cleared).map (fun r => (r.source, r.effective)) =
      [(.item h l b, i.planned), (.endMark none, 0)] := by
  obtain ⟨r, rest, rfl, hr, hrest⟩ := List.map_eq_cons_iff.mp hs
  obtain ⟨q, tail, rfl, hq, htail⟩ := List.map_eq_cons_iff.mp hrest
  obtain rfl := List.map_eq_nil_iff.mp htail
  simp [Resolved.cleared, hr, hq, hi]

/-- An edit of MAIN that leaves it one item without a post, with nothing held and the play position at its start: the
lookahead is that item at its planned length and the end-of-list END marker. -/
theorem State.noticed_one_item {s : State} {st : Store} {h : Nat} {b : Body} {i : ItemFields}
    (hpl : s.interp.placement = []) (hheld : s.interp.held = false) (hplay : s.interp.play = Context.atStart)
    (hd : s.interp.drawn[(0 : ListId)] = true) (ho : st.order 0 = [h])
    (he : st.find? h = some { list := 0, body := b }) (hi : b.item? = some i) (hpost : i.post = none) :
    (s.noticed st { lists := [0], departed := [] }).interp.look.map (fun r => (r.source, r.effective)) =
      [(.item h 0 b, i.planned), (.endMark none, 0)] := by
  let u : State := s.repaired st []
  have huplay : u.interp.play = Context.atStart := (Context.repair_nil _).trans hplay
  have hu : s.noticed st { lists := [0], departed := [] } = u.rebuild := by
    rw [State.noticed_eq, if_pos (by simpa using hd)]
  have hwalk (d) : (resolve u.store u.interp.play [] d).look.map Resolved.source = [.item h 0 b, .endMark none] := by
    rw [huplay]
    exact resolve_one_item ho he hi d
  have hnone (d) (r) (hr : r ∈ (resolve u.store u.interp.play [] d).look) : r.post? = none := by
    have hmem : r.source ∈ [Source.item h 0 b, Source.endMark none] := hwalk d ▸ List.mem_map_of_mem hr
    obtain hsrc | hsrc := by simpa using hmem
    · simp [Resolved.post?, Resolved.item?, hsrc, Source.body?, hi, hpost]
    · simp [Resolved.post?, Resolved.item?, hsrc, Source.body?]
  obtain ⟨d, hlook⟩ := State.rebuild_look_noPost (s := u) hpl hheld hnone
  rw [hu, hlook]
  exact cleared_map_of_sources hi (hwalk d)

/-- An entry inserted into an empty list's first slot, fresh, is found under handle 512 and stands alone. -/
theorem Store.inserted_zero {st : Store} {l : ListId} (hs : st.slot 0 = Slot.fresh) (ho : st.order l = []) (b : Body) :
    (st.inserted 0 l 0 b).find? 512 = some { list := l, body := b } ∧ (st.inserted 0 l 0 b).order l = [512] := by
  constructor
  · refine Store.find?_eq_some.mpr ⟨rfl, ?_⟩
    simp [Store.inserted, handleSlot, handleGen, Store.slot_putSlot, hs, Slot.fresh]
  · simp [Store.inserted, Store.order_putOrder, hs, ho, Slot.fresh, insertAfter]

/-! ### The statement -/

/-- Settles O24: each accepted edit is its store with a notice, and a notice makes a rebuild or a repair; the steps are
those of the walk, and the first entry after a power-on reset is a MAIN that holds one item alone. -/
theorem runningOrderIsResolved : Obligations.RunningOrderIsResolved := by
  refine ⟨fun s l b hp hw hpl => ⟨?insert, ?change, fun h he hpr => ⟨?delete, ?move⟩, ?clear⟩,
    fun st w => ⟨walkStepsBySource st w, walkStepsBySpan st w, walkStepsByCall st w⟩, ?first⟩
  case insert =>
    intro anchor raw n hl hb ha hn
    exact ⟨_, exec_roInsert_accepted hp hl hb ha hn hw, fun hd => State.noticed_rebuilt hpl (by simpa using hd),
      fun hd => Repaired.unchanged (State.noticed_repaired (by simpa using hd))⟩
  case change =>
    intro h raw old he hpr hb hk
    exact ⟨_, exec_roChange_accepted hp he hpr hb hk hw, fun hd => State.noticed_rebuilt hpl (by simpa using hd),
      fun hd => Repaired.unchanged (State.noticed_repaired (by simpa using hd))⟩
  case delete =>
    exact ⟨_, exec_roDelete_accepted hp he hpr hw,
      fun hd => State.noticed_rebuilt hpl (by simpa [Store.departure] using hd),
      fun hd => State.noticed_repaired (by simpa [Store.departure] using hd)⟩
  case move =>
    intro list d anchor hl ha hc
    exact ⟨_, exec_roMove_accepted hp hl he hpr ha hc hw,
      fun hd => State.noticed_rebuilt hpl (by simpa [Store.moveNotice_any] using hd),
      fun hd hd' => State.noticed_repaired (by rw [Store.moveNotice_any, hd, hd']; rfl)⟩
  case clear =>
    intro n hl hpr
    exact ⟨exec_breakClear_empty hp hl, fun hne => ⟨_, exec_breakClear_accepted hp hl hpr hne hw,
      fun hd => State.noticed_rebuilt hpl (by simpa [Store.clearNotice] using hd),
      fun hd => State.noticed_repaired (by simpa [Store.clearNotice] using hd)⟩⟩
  case first =>
    intro raw b i hraw hb hi hpost
    have hn : State.reset.store.lowestFree = some 0 := Store.lowestFree_zero rfl
    obtain ⟨he, ho⟩ := Store.inserted_zero (st := State.reset.store) (l := 0) rfl rfl b
    have hl : readList raw.list = some 0 := by rw [hraw]; rfl
    refine ⟨_, exec_roInsert_accepted rfl hl hb (.inl rfl) hn rfl, ?_, ?_, ?_⟩
    · rw [State.answer_store, State.noticed_store]; exact he
    · rw [State.answer_store, State.noticed_store]; exact ho
    · rw [State.answer_interp]
      exact State.noticed_one_item rfl rfl rfl rfl ho he hi hpost

end Sys2Proof.Machine
end

section
/-! PROOFS. Air control: what the sequencer's small operations leave of the air record and of the occurrences, the demands
and latches (O25), AIR_STOP (O26), and a LIVE, JOIN or audio head going on air (O27, O28, O29). -/

namespace Sys2Proof.Machine

open Sys2Proof.Safety

/-! ### The sequencer's small operations -/

/-- Fill operations write the players and the bus; the state, the latch and the rest of the air record are written as
`enterState` says. -/
theorem State.enterState_air (s : State) {a : AirState} (h : a ≠ .postWait) :
    (s.enterState a).air = { s.air with
      state := a, goLatch := s.air.goLatch && !(decide (a = .held) || decide (a = .stopped)) } := by
  simp [State.enterState, h]

@[simp] theorem State.enterState_state (s : State) (a : AirState) : (s.enterState a).air.state = a := rfl

/-- Without POST_WAIT as a fill reason, entering RUNNING leaves the bus as it is (R97). -/
theorem State.enterState_running_bus {s : State} (h : s.bus.fillPostWait = false) :
    (s.enterState .running).bus = s.bus := by
  simp [State.enterState, State.dropPostWait, h]

/-- The air record once the head is taken: the post watch aside (R47, step 8). -/
theorem State.takeHeld_air (s : State) (r : Resolved) (phase : Phase) :
    (s.takeHeld r phase).air = { s.air with
      state := .running, onAir := some (OnAir.taken r phase), watch := (s.takeHeld r phase).air.watch } := by
  unfold State.takeHeld
  dsimp only
  split <;> simp [State.putWatch, State.putOnAir, State.hold, State.enterState_air]

@[simp] theorem State.takeHeld_airFrame (s : State) (r : Resolved) (phase : Phase) :
    (s.takeHeld r phase).air.state = .running ∧ (s.takeHeld r phase).air.onAir = some (OnAir.taken r phase) ∧
    (s.takeHeld r phase).air.mode = s.air.mode ∧ (s.takeHeld r phase).air.outgoing = s.air.outgoing ∧
    (s.takeHeld r phase).air.holdDemand = s.air.holdDemand ∧ (s.takeHeld r phase).air.netALevel = s.air.netALevel ∧
    (s.takeHeld r phase).air.lastEnding = s.air.lastEnding ∧ (s.takeHeld r phase).air.players = s.air.players ∧
    (s.takeHeld r phase).air.fillPlayer = s.air.fillPlayer := by
  refine ⟨?_, ?_, ?_, ?_, ?_, ?_, ?_, ?_, ?_⟩ <;> rw [State.takeHeld_air]

@[simp] theorem State.takeHeld_held (s : State) (r : Resolved) (phase : Phase) :
    (s.takeHeld r phase).interp.held = true := by
  unfold State.takeHeld; dsimp only; split <;> rfl

theorem State.takeHeld_bus {s : State} (h : s.bus.fillPostWait = false) (r : Resolved) (phase : Phase) :
    (s.takeHeld r phase).bus = s.bus := by
  unfold State.takeHeld; dsimp only; split
  · exact State.enterState_running_bus h
  · exact State.enterState_running_bus h

/-- A state with the same events has the same occurrences. -/
theorem State.occurrence_congr {s t : State} (h : t.events = s.events) (o : Occurrence) :
    t.occurrence o = s.occurrence o := by
  rw [State.occurrence, h]; rfl

theorem State.occurrence_raise_self (s : State) (o : Occurrence) (d : Option Detail) :
    (s.raise o d).occurrence o = { count := countUp 255 (s.occurrence o).count, detail := d } := by
  rw [State.occurrence_raise, if_pos rfl]

theorem State.occurrence_raise_ne {o p : Occurrence} (h : p ≠ o) (s : State) (d : Option Detail) :
    (s.raise o d).occurrence p = s.occurrence p := by
  rw [State.occurrence_raise, if_neg h]

/-- An entry's going on air clears the latch (R55). -/
@[simp] theorem State.entryStarted_goLatch (s : State) : s.entryStarted.air.goLatch = false := by
  simp [State.entryStarted]

@[simp] theorem State.entryStarted_held (s : State) : s.entryStarted.interp.held = s.interp.held := by
  simp [State.entryStarted]

theorem State.entryStarted_occurrence_self (s : State) :
    s.entryStarted.occurrence .entryStarted =
      { count := countUp 255 (s.occurrence .entryStarted).count, detail := none } := by
  unfold State.entryStarted
  exact (State.compute_occurrence _ (by decide)).trans (State.occurrence_raise_self _ _ _)

theorem State.entryStarted_occurrence (s : State) {o : Occurrence} (hs : o ≠ .entryStarted) (ht : o ≠ .timingChanged) :
    s.entryStarted.occurrence o = s.occurrence o := by
  unfold State.entryStarted
  exact (State.compute_occurrence _ ht).trans (State.occurrence_raise_ne hs _ _)

/-- An ending other than COMPLETE retires no entry (R18). -/
theorem State.reportEnding_not_complete {e : Ending} (he : e ≠ .complete) (s : State) (h : Nat) :
    s.reportEnding h e = s := by
  unfold State.reportEnding
  split
  · rfl
  · exact if_neg fun hc => he hc.1

/-- An entry that is kept at its end is not retired (R18). -/
theorem State.reportEnding_kept {s : State} {h : Nat} (hk : KeptAtEnd s h) (e : Ending) : s.reportEnding h e = s := by
  unfold State.reportEnding
  split
  · rfl
  · rename_i entry he
    exact if_neg fun hc => by simp [hk entry he] at hc

/-! ### Demands, latches and modes -/

/-- Settles O25: each of these requests is accepted by its owner and writes its one field. -/
theorem airDemandsAndLatches : Obligations.AirDemandsAndLatches := by
  unfold Obligations.AirDemandsAndLatches
  refine fun s hp => ⟨request_owner (owner := setMode 1) hp rfl rfl, request_owner (owner := setMode 2) hp rfl rfl,
    request_owner (owner := setHoldAtPoint 0) hp rfl rfl, request_owner (owner := setHoldAtPoint 1) hp rfl rfl,
    fun hr => ⟨?go, ?hold, ?resume, ?edge⟩⟩
  case go => exact request_owner (owner := giveGo) hp rfl (by simp [giveGo, State.takeGo, hr])
  case hold => exact request_owner (owner := holdAir) hp rfl (by simp [holdAir, hr, accepted, State.demandHold])
  case resume => exact request_owner (owner := resumeAir) hp rfl (by simp [resumeAir, hr, accepted, State.demandHold])
  case edge =>
    intro hl
    change execGoEdge s = _
    simp [execGoEdge, hl, State.takeGo, hr, finish]

/-! ### AIR_STOP (R59) -/

/-- Cutting the on-air entry without releasing it writes the last ending of the air record alone (R59). -/
theorem State.stopEntry_air (s : State) :
    s.stopEntry.air = { s.air with lastEnding := s.stopEntry.air.lastEnding } := by
  unfold State.stopEntry
  (repeat' split) <;> simp [State.reportEnding_not_complete]

/-- A computation writes the post watch of the air record alone (R62). -/
theorem State.compute_air (s : State) : s.compute.air = { s.air with watch := s.compute.air.watch } := by
  simp [State.compute]

/-- With the outgoing record emptied, only the last ending and the post watch may have changed with it (R53). -/
theorem State.cutOutgoing_air (s : State) :
    s.cutOutgoing.air = { s.air with
      outgoing := none, lastEnding := s.cutOutgoing.air.lastEnding, watch := s.cutOutgoing.air.watch } := by
  unfold State.cutOutgoing
  split
  · rename_i h; rw [← h]
  · dsimp only
    rw [State.compute_air]
    simp [State.reportEnding_not_complete]

@[simp] theorem State.cutOutgoing_held (s : State) : s.cutOutgoing.interp.held = s.interp.held := by
  unfold State.cutOutgoing
  split
  · rfl
  · simp [State.reportEnding_not_complete]

theorem State.cutOutgoing_none {s : State} (h : s.air.outgoing = none) : s.cutOutgoing = s := by
  simp [State.cutOutgoing, h]

/-- Settles O26: AIR_STOP is accepted, and what it leaves is read off the stages of `stopAll`. -/
theorem airStopStopsAir : Obligations.AirStopStopsAir := by
  unfold Obligations.AirStopStopsAir
  intro s hp hstopped hpre halert
  refine ⟨s.stopAll.answer 0x27 (.ok []), request_owner hp rfl ?_, ?_⟩
  · simp [stopAir, hstopped, hpre, halert, accepted]
  · have hheld : s.stopAll.interp.held = false := by simp [State.stopAll, State.unhold]
    have hair : (s.stopEntry.putOnAir none).unhold.cutOutgoing.air.mode = s.air.mode ∧
        (s.stopEntry.putOnAir none).unhold.cutOutgoing.air.holdAtPoint = s.air.holdAtPoint ∧
        (s.stopEntry.putOnAir none).unhold.cutOutgoing.air.onAir = none ∧
        (s.stopEntry.putOnAir none).unhold.cutOutgoing.air.outgoing = none := by
      rw [State.cutOutgoing_air]
      simp only [State.unhold, State.putOnAir]
      rw [State.stopEntry_air]
      simp
    obtain ⟨hmode, hpoint, hon, hout⟩ := hair
    refine ⟨?_, ?_, ?_, ?_, ?_, hheld, rfl, ?_, ?_, ?_, ?_, ?_, ?_⟩ <;>
      simp [State.stopAll, State.enterState_air, hmode, hpoint, hon, hout]

/-! ### The head goes on air (R47, R48, R50) -/

/-- The blocks that an entry's start or end does not concern are as they were. -/
def SameBlocks (s t : State) : Prop :=
  t.clock = s.clock ∧ t.store = s.store ∧ t.lines = s.lines ∧ t.receiver = s.receiver ∧ t.sched = s.sched ∧
  t.site = s.site ∧ t.freeUsed = s.freeUsed ∧ t.pending = s.pending

theorem SameBlocks.trans {s t u : State} (h : SameBlocks s t) (h' : SameBlocks t u) : SameBlocks s u := by
  obtain ⟨h1, h2, h3, h4, h5, h6, h7, h8⟩ := h
  obtain ⟨k1, k2, k3, k4, k5, k6, k7, k8⟩ := h'
  exact ⟨k1.trans h1, k2.trans h2, k3.trans h3, k4.trans h4, k5.trans h5, k6.trans h6, k7.trans h7, k8.trans h8⟩

theorem State.answer_sameBlocks (s : State) (code : Nat) (r : Reply) : SameBlocks s (s.answer code r) :=
  ⟨rfl, rfl, rfl, rfl, rfl, rfl, rfl, rfl⟩

theorem State.dropPostWait_sameBlocks (s : State) : SameBlocks s s.dropPostWait := by simp [SameBlocks]

/-- The head taken and started as a LIVE or JOIN entry (R47, step 8; R50). -/
def State.startedPlain (s : State) (r : Resolved) (timed : Bool) : State :=
  (s.takeHeld r (.playing s.clock.mono s.clock.station)).startPlain timed

/-- An entry without a player plays from the present moment on (R50). -/
theorem State.startPlain_taken {s : State} {r : Resolved} {phase : Phase}
    (h : s.air.onAir = some (OnAir.taken r phase)) (timed : Bool) :
    s.startPlain timed = (s.putOnAir (some
      { OnAir.taken r (.playing s.clock.mono s.clock.station) with
        endTimer := if timed then some (s.clock.mono + r.effective) else none })).entryStarted := by
  simp only [State.startPlain, h]
  rfl

theorem State.startedPlain_eq (s : State) (r : Resolved) (timed : Bool) :
    s.startedPlain r timed = ((s.takeHeld r (.playing s.clock.mono s.clock.station)).putOnAir (some
      { OnAir.taken r (.playing s.clock.mono s.clock.station) with
        endTimer := if timed then some (s.clock.mono + r.effective) else none })).entryStarted := by
  rw [State.startedPlain, State.startPlain_taken (State.takeHeld_airFrame _ _ _).2.1]
  simp

theorem State.startedPlain_plainStarted (s : State) (r : Resolved) (timed : Bool) :
    PlainStarted s (s.startedPlain r timed) r timed := by
  have hcount : ((s.startedPlain r timed).occurrence .entryStarted).count =
      countUp 255 (s.occurrence .entryStarted).count := by
    rw [State.startedPlain_eq, State.entryStarted_occurrence_self]
    exact congrArg (fun x : OccRecord => countUp 255 x.count) (State.occurrence_congr (by simp) _)
  refine ⟨?_, ?_, ?_, ?_, hcount, ?_⟩
  · rw [State.startedPlain_eq]; simp
  · rw [State.startedPlain_eq]; simp
  · rw [State.startedPlain_eq]; simp
  · rw [State.startedPlain_eq]; simp [State.putOnAir, OnAir.taken]
  · rw [State.startedPlain_eq]; simp

/-- Starting an entry raises no other occurrence than ENTRY_STARTED and TIMING_CHANGED. -/
theorem State.startedPlain_occurrence (s : State) (r : Resolved) (timed : Bool) {o : Occurrence}
    (hs : o ≠ .entryStarted) (ht : o ≠ .timingChanged) : (s.startedPlain r timed).occurrence o = s.occurrence o := by
  rw [State.startedPlain_eq, State.entryStarted_occurrence _ hs ht]
  exact State.occurrence_congr (by simp) _

theorem State.startedPlain_holdDemand (s : State) (r : Resolved) (timed : Bool) :
    (s.startedPlain r timed).air.holdDemand = s.air.holdDemand := by
  simp [State.startedPlain]

/-- What was done before the start counts with it where it kept the blocks and raised no ENTRY_STARTED. -/
theorem PlainStarted.before {s u t : State} {r : Resolved} {timed : Bool} (h : PlainStarted u t r timed)
    (hb : SameBlocks s u) (hc : u.events = s.events) : PlainStarted s t r timed := by
  obtain ⟨hstate, hheld, hlatch, hon, hcount, hblocks⟩ := h
  have hclock : u.clock = s.clock := hb.1
  rw [hclock] at hon
  rw [State.occurrence_congr hc] at hcount
  exact ⟨hstate, hheld, hlatch, hon, hcount, hb.trans hblocks⟩

theorem PlainStarted.answer {s t : State} {r : Resolved} {timed : Bool} (h : PlainStarted s t r timed) (code : Nat)
    (a : Reply) : PlainStarted s (t.answer code a) r timed := h

/-- The body of a LIVE or JOIN entry. -/
def Body.plain? : Body → Option Bool
  | .live timed _ => some timed
  | .join timed _ _ => some timed
  | _ => none

/-- A LIVE or JOIN head starts whenever it is taken (R50). -/
theorem State.startItem_plain {b : Body} {timed : Bool} (hb : b.plain? = some timed) (s : State) (r : Resolved) :
    s.startItem r b = (s.startedPlain r timed, true) := by
  cases b with
  | live t i => cases hb; rfl
  | join t c i => cases hb; rfl
  | _ => cases hb

/-- A LIVE or JOIN head taken from step 8 starts (R47). -/
theorem State.startHead_plain {s : State} {r : Resolved} {h : Nat} {l : ListId} {b : Body} {timed : Bool}
    (hr : s.interp.look.head? = some r) (hs : r.source = .item h l b) (hb : b.plain? = some timed) :
    s.startHead = some (s.startedPlain r timed) := by
  simp [State.startHead, State.head?, hr, hs, State.startItem_plain hb]

/-- Whether a hold demand stops the taking of an item (R47, step 5): only at a boundary. -/
def TakeMode.holdsFor (m : TakeMode) (s : State) : Bool :=
  match m with
  | .boundary _ => s.air.holdDemand
  | .resume => false
  | .step => false

/-- A live item head without a drop mark, which no demand holds, which waits for no post and which has its go, is started
(R47, steps 1 to 8). -/
theorem State.takeHead_started {m : TakeMode} {s t u : State} {r : Resolved} {h : Nat} {l : ListId} {b : Body}
    (hr : s.interp.look.head? = some r) (hs : r.source = .item h l b) (hl : s.store.live h = true)
    (hd : r.dropMark = false) (hh : m.holdsFor s = false) (hp : m = .step ∨ s.beforePost r = false)
    (hg : s.goGiven m b = some t) (ht : t.startItem r b = (u, true)) : s.takeHead m = some u := by
  rw [State.takeHead_loop]
  obtain rfl | hb := hp
  · simp [takeLoop, State.head?, hr, hs, Source.handle, hl, hd, hg, ht]
  · cases m with
    | boundary =>
      have hdem : s.air.holdDemand = false := hh
      simp [takeLoop, State.head?, hr, hs, Source.handle, hl, hd, hdem, hb, hg, ht]
    | resume => simp [takeLoop, State.head?, hr, hs, Source.handle, hl, hd, hb, hg, ht]
    | step => simp [takeLoop, State.head?, hr, hs, Source.handle, hl, hd, hg, ht]

/-- No post keeps the head waiting while the watch is disarmed (R47, step 6). -/
theorem State.beforePost_disarmed {s : State} (h : s.air.watch = .disarmed) (r : Resolved) :
    s.beforePost r = false := by
  simp [State.beforePost, h, PostWatch.armed?]

theorem State.goGiven_no_need {s : State} {b : Body} (h : b.needsGo s.air.mode = false) (m : TakeMode) :
    s.goGiven m b = some s := by
  simp [State.goGiven, h]

/-- AIR_START stands in for the first go (R60). -/
theorem State.goGiven_start (s : State) (b : Body) : s.goGiven (.boundary true) b = some s := by
  unfold State.goGiven; split <;> rfl

/-- AIR_STEP takes the head from step 8, past the go (R57). -/
theorem State.goGiven_step (s : State) (b : Body) : s.goGiven .step b = some s := by
  unfold State.goGiven; split <;> rfl

theorem live_needsGo {s : State} {timed : Bool} {item : ItemFields} :
    (Body.live timed item).needsGo s.air.mode = false ↔ NeedsNoGo s item := by
  cases hm : s.air.mode <;> simp [Body.needsGo, Body.item?, NeedsNoGo, hm]

/-- An item at the head of a stopped sequencer is something to start, and AIR_START takes it (R60). -/
theorem startAir_item {s : State} {r : Resolved} {h : Nat} {l : ListId} {b : Body}
    (hstate : s.air.state = .stopped) (hr : s.interp.look.head? = some r) (hs : r.source = .item h l b) :
    startAir s = accepted (s.takeHead (.boundary true)) fun _ => [] := by
  have hsome : s.somethingToStart = true :=
    List.any_eq_true.mpr ⟨r, List.mem_of_mem_head? hr, by rw [hs]⟩
  simp [startAir, hstate, State.head?, hr, Resolved.isEnd, hs, hsome]

/-- AIR_START puts a live item head on air where nothing holds it back but a go (R60). -/
theorem exec_airStart_started {role : Role} {s u : State} {r : Resolved} {h : Nat} {l : ListId} {b : Body}
    (hrole : rolePresenterAutomationEngineer.contains role = true) (hp : portFree s)
    (hstate : s.air.state = .stopped) (hdem : s.air.holdDemand = false) (hw : s.air.watch = .disarmed)
    (hr : s.interp.look.head? = some r) (hd : r.dropMark = false) (hs : r.source = .item h l b)
    (hl : s.store.live h = true) (ht : s.startItem r b = (u, true)) :
    exec (.airStart role) s = .next (u.answer 0x28 (.ok [])) := by
  refine request_owner hp hrole ?_
  rw [startAir_item hstate hr hs,
    State.takeHead_started (m := .boundary true) hr hs hl hd hdem (.inr (State.beforePost_disarmed hw r)) (State.goGiven_start _ _) ht]
  rfl

/-- The command of a go ends where the operation of the go comes to rest (R55). -/
theorem exec_airGo_acted {s t : State} (hp : portFree s) (h : s.takeGo = some (t, true)) :
    exec (.airGo .presenter) s = .next (t.answer 0x21 (.ok [])) :=
  request_owner hp rfl (by simp [giveGo, h])

/-- A rise of GO is a go (R55). -/
theorem exec_goEdge_acted {s t : State} (hl : s.air.goLevel = false)
    (h : State.takeGo { s with air := { s.air with goLevel := true } } = some (t, true)) :
    exec .goEdge s = .next t := by
  change execGoEdge s = _
  simp [execGoEdge, hl, h, finish]

/-- A go starts a LIVE head that waits for it, in WAIT_GO and in POST_WAIT (R55). -/
theorem State.takeGo_live {s : State} {r : Resolved} {timed : Bool} {item : ItemFields}
    (hhead : LiveHead s r timed item) (hstate : s.air.state = .waitGo ∨ s.air.state = .postWait) :
    ∃ t, s.takeGo = some (t, true) ∧ PlainStarted s t r timed := by
  obtain ⟨hr, -, h, l, hs, -⟩ := hhead
  obtain hw | hw := hstate
  · have hcue : s.headIsCueStart = false := by
      simp [State.headIsCueStart, State.head?, hr, hs, Source.body?, Body.cueStartJoin]
    refine ⟨_, ?_, s.startedPlain_plainStarted r timed⟩
    simp [State.takeGo, hw, hcue, State.startHead_plain hr hs rfl]
  · have hr' : s.dropPostWait.interp.look.head? = some r := by simpa using hr
    refine ⟨_, ?_, PlainStarted.before (s.dropPostWait.startedPlain_plainStarted r timed) s.dropPostWait_sameBlocks (by simp)⟩
    simp [State.takeGo, hw, State.startHead_plain hr' hs rfl]

/-- At the post instant a LIVE head starts where it needs no go (R63). -/
theorem State.takePost_live {s : State} {r : Resolved} {timed : Bool} {item : ItemFields}
    (hhead : LiveHead s r timed item) (hgo : NeedsNoGo s item) :
    ∃ t, s.takePost = some t ∧ PlainStarted s t r timed := by
  obtain ⟨hr, -, h, l, hs, -⟩ := hhead
  have hr' : s.dropPostWait.interp.look.head? = some r := by simpa using hr
  have hg : (Body.live timed item).needsGo s.dropPostWait.air.mode = false := by
    simpa using live_needsGo.mpr hgo
  refine ⟨_, ?_, PlainStarted.before (s.dropPostWait.startedPlain_plainStarted r timed) s.dropPostWait_sameBlocks (by simp)⟩
  simp only [State.takePost, State.takeFromGo, State.head?, hr', hs, State.goGiven_no_need hg,
    State.startHead_plain hr' hs rfl]

/-- At the post instant a LIVE head that needs a go waits for it (R63). -/
theorem State.takePost_waits {s : State} {r : Resolved} {timed : Bool} {item : ItemFields}
    (hhead : LiveHead s r timed item) (hgo : ¬NeedsNoGo s item) (hlatch : s.air.goLatch = false) :
    s.takePost = some s.dropPostWait.enterWaitGo := by
  obtain ⟨hr, -, h, l, hs, -⟩ := hhead
  have hr' : s.dropPostWait.interp.look.head? = some r := by simpa using hr
  have hg : (Body.live timed item).needsGo s.air.mode = true := by
    rw [← Bool.not_eq_false]
    exact fun hf => hgo (live_needsGo.mp hf)
  have hgiven : s.dropPostWait.goGiven (.boundary false) (.live timed item) = none := by
    simp [State.goGiven, hg, hlatch]
  simp only [State.takePost, State.takeFromGo, State.head?, hr', hs, hgiven]

/-- A timed event of the post watch acts where its instant has come. -/
theorem exec_postInstant_due {s t : State} {w : Watch} (hstate : s.air.state = .postWait)
    (hw : s.air.watch = .armed w) (hdue : w.instant ≤ s.clock.station) (h : s.takePost = some t) :
    exec .postInstant s = .next t := by
  change execPostInstant s = _
  simp [execPostInstant, State.postDue, hstate, hw, PostWatch.armed?, reached, hdue, h, finish]

/-- A post cut with nothing on air and the post entry, LIVE, at the head starts that entry (R64). -/
theorem State.postCut_live {s : State} {r : Resolved} {timed : Bool} {item : ItemFields} {w : Watch}
    (hhead : LiveHead s r timed item) (hon : s.air.onAir = none) (hout : s.air.outgoing = none)
    (hid : (w.handle, w.iteration) = r.copyId) :
    ∃ t, s.postCut w = some t ∧ PlainStarted s t r timed ∧
      (t.occurrence .postCut).count = countUp 255 (s.occurrence .postCut).count := by
  obtain ⟨hr, -, h, l, hs, -⟩ := hhead
  obtain ⟨rest, hlook⟩ := List.head?_eq_some_iff.mp hr
  have hcut : (s.cutOnAir false).cutOutgoing.dropPostWait = s.dropPostWait := by
    rw [State.cutOnAir, hon, State.cutOutgoing_none hout]
  have hr' : s.dropPostWait.head? = some r := by simpa [State.head?] using hr
  have hbefore : State.releaseBefore s.dropPostWait.interp.look.length w s.dropPostWait = s.dropPostWait := by
    rw [show s.dropPostWait.interp.look.length = rest.length + 1 by simp [hlook], State.releaseBefore]
    simp [hr', hs, hid]
  let u : State := (s.dropPostWait.raise .postCut none).putWatch .disarmed
  have hu : u.interp.look.head? = some r := hr'
  have hocc (o : Occurrence) (ho : o ≠ .postCut) : u.occurrence o = s.occurrence o :=
    (State.occurrence_raise_ne ho s.dropPostWait none).trans (State.occurrence_congr (by simp) o)
  refine ⟨(u.startedPlain r timed).tryPlace, ?_, ?_, ?_⟩
  · simp only [State.postCut, hcut, hbefore]
    rw [State.startHead_plain (s := u) hu hs rfl]
    rfl
  · obtain ⟨hstate, hheld, hlatch, hair, hcount, hclock, hblocks⟩ := u.startedPlain_plainStarted r timed
    have huclock : u.clock = s.clock := by simp [u]
    rw [hocc .entryStarted (by decide)] at hcount
    rw [huclock] at hair
    refine ⟨by simp [hstate], by simp [hheld], by simp [hlatch], by simp [hair], ?_, ?_⟩
    · rw [State.tryPlace_occurrence _ (by decide), hcount]
    · simpa [u, hclock] using hblocks
  · rw [State.tryPlace_occurrence _ (by decide), State.startedPlain_occurrence _ _ _ (by decide) (by decide)]
    refine (congrArg OccRecord.count (State.occurrence_raise_self s.dropPostWait .postCut none)).trans ?_
    exact congrArg (fun x : OccRecord => countUp 255 x.count) (State.occurrence_congr (by simp) _)

/-- The head, an item that the watch names, stands in the lookahead unstarted (R64). -/
theorem State.postStands_head {s : State} {r : Resolved} {h : Nat} {l : ListId} {b : Body} {w : Watch}
    (hr : s.interp.look.head? = some r) (hs : r.source = .item h l b) (hheld : s.interp.held = false)
    (hid : (w.handle, w.iteration) = r.copyId) : s.postStands w = true := by
  refine List.any_eq_true.mpr ⟨r, ?_, ?_⟩
  · simpa [hheld] using List.mem_of_mem_head? hr
  · simp [hs, hid]

/-- Settles O27: every way comes down to the head, LIVE, being taken past the steps that could hold it back. -/
theorem liveHeadGoesOnAir : Obligations.LiveHeadGoesOnAir := by
  unfold Obligations.LiveHeadGoesOnAir
  intro s r timed item hhead
  obtain ⟨hr, hd, h, l, hs, hl⟩ := id hhead
  refine ⟨fun hp hstate hdem hw => ?start, fun hp hstate hw hgo => ?resume, fun hp hstate => ?step,
    fun hstate => ⟨fun hp => ?go, fun hlevel => ?edge⟩, fun w hstate hw hdue => ⟨fun hgo => ?post, fun hgo hlatch => ?wait⟩,
    fun w hstate hw hdue hon hout hheld hid => ?cut⟩
  case start =>
    exact ⟨_, exec_airStart_started rfl hp hstate hdem hw hr hd hs hl (State.startItem_plain rfl s r),
      PlainStarted.answer (s.startedPlain_plainStarted r timed) _ _⟩
  case resume =>
    have htaken : s.takeHead .resume = some (s.startedPlain r timed) :=
      State.takeHead_started hr hs hl hd rfl (.inr (State.beforePost_disarmed hw r))
        (State.goGiven_no_need (live_needsGo.mpr hgo) _) (State.startItem_plain rfl s r)
    refine ⟨_, request_owner hp rfl ?_, PlainStarted.answer (s.startedPlain_plainStarted r timed) 0x24 (.ok [])⟩
    simp [resumeAir, hstate, htaken, accepted]
  case step =>
    let u : State := s.demandHold true
    have htaken : u.takeHead .step = some (u.startedPlain r timed) :=
      State.takeHead_started hr hs hl hd rfl (.inl rfl) (State.goGiven_step _ _) (State.startItem_plain rfl u r)
    refine ⟨(u.startedPlain r timed).answer 0x25 (.ok []), request_owner hp rfl ?_,
      PlainStarted.answer (u.startedPlain_plainStarted r timed) _ _, u.startedPlain_holdDemand r timed⟩
    simp only [stepAir, hstate]
    exact congrArg (accepted · fun _ => []) htaken
  case go =>
    obtain ⟨t, ht, hstarted⟩ := State.takeGo_live hhead hstate
    exact ⟨_, exec_airGo_acted hp ht, PlainStarted.answer hstarted _ _⟩
  case edge =>
    obtain ⟨t, ht, hstarted⟩ := State.takeGo_live (s := { s with air := { s.air with goLevel := true } }) hhead hstate
    exact ⟨t, exec_goEdge_acted hlevel ht, hstarted⟩
  case post =>
    obtain ⟨t, ht, hstarted⟩ := State.takePost_live hhead hgo
    exact ⟨t, exec_postInstant_due hstate hw hdue ht, hstarted⟩
  case wait =>
    refine ⟨_, exec_postInstant_due hstate hw hdue (State.takePost_waits hhead hgo hlatch), rfl, ?_, ?_, ?_⟩ <;>
      simp [State.enterWaitGo, State.enterState_air]
  case cut =>
    obtain ⟨t, ht, hstarted, hcount⟩ := State.postCut_live hhead hon hout hid
    refine ⟨t, ?_, hstarted, hcount⟩
    have hstands := State.postStands_head hr hs hheld hid
    have htake : s.takeCut w = some t := by
      obtain hx | hx := hstate <;> simp [State.takeCut, hx, hstands, ht]
    change execCutInstant s = _
    simp [execCutInstant, State.cutDue, hw, PostWatch.armed?, reached, hdue, State.takeCutInstant, htake, finish]

/-- Settles O28: a NET_A edge takes a cue-start JOIN from step 8 of R47; a fall writes its level. -/
theorem networkCueStartsJoin : Obligations.NetworkCueStartsJoin := by
  unfold Obligations.NetworkCueStartsJoin
  refine fun s => ⟨fun r h l timed item hlevel hstate hr hs => ?_, rfl, rfl, rfl⟩
  let u : State := { s with air := { s.air with netALevel := true } }
  have hcue : u.headIsCueStart = true := by
    simp [u, State.headIsCueStart, State.head?, hr, hs, Source.body?, Body.cueStartJoin]
  have htaken : u.netA = some (u.startedPlain r timed) := by
    rw [State.netA, if_pos ⟨hstate, hcue⟩]
    exact State.startHead_plain hr hs rfl
  have hrose : (u.startedPlain r timed).air.netALevel = true := by
    rw [State.startedPlain_eq]; simp [u]
  refine ⟨_, ?_, u.startedPlain_plainStarted r timed, hrose⟩
  change execNetAEdge s = _
  simp only [execNetAEdge, hlevel]
  exact finish_next.mpr htaken

/-! ### An audio head (R46, R48) -/

/-- An audio entry on the on-air record plays on a player that is CUED for it (R48). -/
theorem State.bindPlayer_cued {s : State} {p : Fin 4} {cue : Cue} (hp : s.player p = .cued cue) (o : OnAir) :
    s.bindPlayer o p = ((s.putPlayer p (.onAir cue false)).putOnAir (some
      { o with phase := .playing s.clock.mono s.clock.station, player := some p,
               endTimer := some (s.clock.mono + o.frozen),
               seguePoint := some (s.clock.mono + (o.frozen - o.segue)) })).entryStarted := by
  simp [State.bindPlayer, hp]

theorem State.takeHeld_player (s : State) (r : Resolved) (phase : Phase) (p : Fin 4) :
    (s.takeHeld r phase).player p = s.player p := by
  simp [State.player]

theorem State.takeHeld_playerFor (s : State) (r : Resolved) (phase : Phase) (cart : Nat) :
    (s.takeHeld r phase).playerFor cart = s.playerFor cart := by
  simp only [State.playerFor, State.takeHeld_player, State.takeHeld_airFrame]

@[simp] theorem State.entryStarted_player (s : State) (p : Fin 4) : s.entryStarted.player p = s.player p := by
  simp [State.player]

@[simp] theorem State.putOnAir_player (s : State) (o : Option OnAir) (p : Fin 4) :
    (s.putOnAir o).player p = s.player p := rfl

/-- Settles O29: the head is held in CUEING and the player found for it bound at once. -/
theorem audioHeadStartsOnCuedPlayer : Obligations.AudioHeadStartsOnCuedPlayer := by
  unfold Obligations.AudioHeadStartsOnCuedPlayer
  intro s r h l k cart segue item p cue hp hstate hdem hw hpost hr hd hs hl hfor hcued
  let t : State := s.takeHeld r (.cueing (s.clock.mono + s.air.cueGrace))
  let o : OnAir := OnAir.taken r (.cueing (s.clock.mono + s.air.cueGrace))
  have htfor : t.playerFor cart = some p := (State.takeHeld_playerFor _ _ _ _).trans hfor
  have htcued : t.player p = .cued cue := (State.takeHeld_player _ _ _ _).trans hcued
  have hstart : s.startItem r (.audio k cart segue item) = (t.bindPlayer o p, true) := by
    simp [State.startItem, htfor, t, o]
  have hsegue : r.segue = segue := by simp [Resolved.segue, hs, Source.body?, Body.segue]
  have htstate : t.air.state = .running := by simp [t]
  have htbus : t.bus = s.bus := State.takeHeld_bus hpost _ _
  refine ⟨_, exec_airStart_started rfl hp hstate hdem hw hr hd hs hl hstart, ?_⟩
  have hplayer (q : Fin 4) : (t.bindPlayer o p).player q = if q = p then .onAir cue false else s.player q := by
    rw [State.bindPlayer_cued htcued]
    simp [t, State.takeHeld_player]
  refine ⟨?_, (hplayer p).trans (if_pos rfl), ?_, ?_, fun q hq => (hplayer q).trans (if_neg hq), ?_⟩
  · simp [htstate]
  · exact congrArg Player.isOnAir ((hplayer p).trans (if_pos rfl))
  · rw [State.bindPlayer_cued htcued]
    simp [State.putOnAir, o, t, OnAir.taken, hsegue]
  · simp [htbus, t]

end Sys2Proof.Machine
end

section
/-! PROOFS. Entries ending, handing over and going out: the release of the head before an END marker, the last entry's
ends (O30), the segue (O31), the outgoing entry's end and AIR_CUE_TO (O32), and the player records (O33). -/

namespace Sys2Proof.Machine

open Sys2Proof.Safety

/-! ### The head released before an END marker (R31, R51) -/

/-- A lookahead that an END marker ends gains nothing from a refill (R31). -/
theorem State.refill_ended {s : State} (h : s.interp.look.getLast?.any Resolved.isEnd = true) : s.refill = s := by
  simp [State.refill, resolve_ended _ _ _ _ h, State.reportFaults]

/-- The head has left the lookahead and its drop mark the kept drop set; nothing is resolved or computed yet (R31). -/
def State.passHead (s : State) (head : Resolved) (rest : List Resolved) : State :=
  State.advanceSeq { s with
    interp := { s.interp with look := rest, play := head.after, held := false }
    timer := { s.timer with dropSet := s.timer.dropSet.filter (· ≠ head.copyId) } } 1

@[simp] theorem State.passHead_look (s : State) (head : Resolved) (rest : List Resolved) :
    (s.passHead head rest).interp.look = rest := rfl

@[simp] theorem State.passHead_air (s : State) (head : Resolved) (rest : List Resolved) :
    (s.passHead head rest).air = s.air := rfl

@[simp] theorem State.passHead_store (s : State) (head : Resolved) (rest : List Resolved) :
    (s.passHead head rest).store = s.store := rfl

theorem State.passHead_occurrence (s : State) (head : Resolved) (rest : List Resolved) (o : Occurrence) :
    (s.passHead head rest).occurrence o = s.occurrence o := rfl

theorem State.putOnAir_occurrence (s : State) (o : Option OnAir) (y : Occurrence) :
    (s.putOnAir o).occurrence y = s.occurrence y := rfl

/-- With an END marker at the tail and no alert to place, a release computes and does no more (R31). -/
theorem State.releaseHead_ended {s : State} {head : Resolved} {rest : List Resolved}
    (hlook : s.interp.look = head :: rest) (hend : rest.getLast?.any Resolved.isEnd = true)
    (hpl : s.interp.placement = []) (mayPlace : Bool) : s.releaseHead mayPlace = (s.passHead head rest).compute := by
  have hrefill : (s.passHead head rest).refill = s.passHead head rest := State.refill_ended hend
  have hplace : (s.passHead head rest).tryPlace = s.passHead head rest := State.tryPlace_none hpl
  simp only [State.releaseHead, hlook]
  change (if mayPlace = true then (s.passHead head rest).refill.tryPlace else (s.passHead head rest).refill).compute = _
  rw [hrefill, hplace, ite_self]

/-- The release of an item with an outcome that does not retire it (R18, R51). -/
theorem State.releaseWith_item {s : State} {r : Resolved} {rest : List Resolved} {h : Nat} {l : ListId} {b : Body}
    {x : Ending} (hlook : s.interp.look = r :: rest) (hs : r.source = .item h l b)
    (hkeep : x = .complete → KeptAtEnd s h) (mayPlace : Bool) :
    s.releaseWith (some x) mayPlace =
      ((State.releaseHead { s with air := { s.air with lastEnding := some (h, x) } } mayPlace).raise .entryEnded
        (some (.entryEnded h x))).compute := by
  have hreport : (State.releaseHead { s with air := { s.air with lastEnding := some (h, x) } } mayPlace).reportEnding h x =
      State.releaseHead { s with air := { s.air with lastEnding := some (h, x) } } mayPlace := by
    by_cases hx : x = .complete
    · exact State.reportEnding_kept (by simpa [KeptAtEnd] using hkeep hx) _
    · exact State.reportEnding_not_complete hx _ _
  simp [State.releaseWith, State.head?, hlook, hs, Source.handle, hreport]

/-- The entry on air has been released with an outcome, and the end-of-list END marker is all that is left (R51). -/
def Released (s t : State) (h : Nat) (x : Ending) : Prop :=
  t.air.onAir = none ∧ t.air.lastEnding = some (h, x) ∧ t.interp.held = false ∧
  t.interp.look.map Resolved.source = [.endMark none] ∧
  (t.occurrence .entryEnded).count = countUp 255 (s.occurrence .entryEnded).count ∧
  (t.occurrence .entryEnded).detail = some (.entryEnded h x) ∧ SameBlocks s t

theorem State.compute_sources (s : State) :
    s.compute.interp.look.map Resolved.source = s.interp.look.map Resolved.source := by
  have h := congrArg (List.map Prod.fst) s.compute_look_walked
  rwa [List.map_map, List.map_map] at h

/-- The stages of the last entry's release: the head leaves the lookahead, ENTRY_ENDED is raised, and the back-timer
computes after each (R51). -/
theorem State.endRecord_last {s : State} {o : OnAir} {r e : Resolved} {h : Nat} {l : ListId} {b : Body} {x : Ending}
    (hlast : LastBeforeEnd s o r e) (hs : o.source = .item h l b) (hkeep : x = .complete → KeptAtEnd s h) :
    s.endRecord x = ((((State.passHead { s with air := { s.air with lastEnding := some (h, x) } } r [e]).compute.raise
      .entryEnded (some (.entryEnded h x))).compute).putOnAir none) := by
  obtain ⟨-, hlook, -, hr, he, hpl⟩ := hlast
  have hend : [e].getLast?.any Resolved.isEnd = true := by simp [Resolved.isEnd, he]
  let u : State := { s with air := { s.air with lastEnding := some (h, x) } }
  rw [State.endRecord, State.releaseWith_item hlook (hr.trans hs) hkeep]
  exact congrArg (fun v : State => ((v.raise _ _).compute).putOnAir none)
    (State.releaseHead_ended (s := u) hlook hend hpl true)

/-- The last entry's end raises ENTRY_ENDED with its outcome, and no other occurrence than TIMING_CHANGED with it. -/
theorem State.endRecord_last_occurrence {s : State} {o : OnAir} {r e : Resolved} {h : Nat} {l : ListId} {b : Body}
    {x : Ending} (hlast : LastBeforeEnd s o r e) (hs : o.source = .item h l b) (hkeep : x = .complete → KeptAtEnd s h)
    {y : Occurrence} (hy : y ≠ .timingChanged) :
    (s.endRecord x).occurrence y = if y = .entryEnded
      then { count := countUp 255 (s.occurrence .entryEnded).count, detail := some (.entryEnded h x) }
      else s.occurrence y := by
  rw [State.endRecord_last hlast hs hkeep]
  rw [State.putOnAir_occurrence, State.compute_occurrence _ hy, State.occurrence_raise, State.compute_occurrence _ hy,
    State.compute_occurrence _ (by decide), State.passHead_occurrence, State.passHead_occurrence]
  rfl

/-- The last entry's record ended (R51). -/
theorem State.endRecord_released {s : State} {o : OnAir} {r e : Resolved} {h : Nat} {l : ListId} {b : Body} {x : Ending}
    (hlast : LastBeforeEnd s o r e) (hs : o.source = .item h l b) (hkeep : x = .complete → KeptAtEnd s h) :
    Released s (s.endRecord x) h x := by
  have hocc := (State.endRecord_last_occurrence (y := .entryEnded) hlast hs hkeep (by decide)).trans (if_pos rfl)
  have hrec := State.endRecord_last hlast hs hkeep
  obtain ⟨-, -, -, -, he, -⟩ := hlast
  refine ⟨rfl, ?_, ?_, ?_, by rw [hocc], by rw [hocc], ?_⟩
  · simp [hrec, State.putOnAir, State.passHead, State.advanceSeq]
  · simp [hrec, State.passHead]
  · rw [hrec, State.putOnAir_interp, State.compute_sources, State.raise_interp, State.compute_sources]
    simp [he]
  · have hstore : (s.endRecord x).store = s.store := by simp [hrec, State.passHead, State.advanceSeq]
    simp [SameBlocks, hstore]

/-- A raising of another occurrence keeps what the release says. -/
theorem Released.raise {s t : State} {h : Nat} {x : Ending} (hrel : Released s t h x) {o : Occurrence}
    (ho : .entryEnded ≠ o) (d : Option Detail) : Released s (t.raise o d) h x := by
  obtain ⟨hon, hending, hheld, hlook, hcount, hdetail, hblocks⟩ := hrel
  exact ⟨hon, hending, hheld, hlook, by rw [State.occurrence_raise_ne ho, hcount],
    by rw [State.occurrence_raise_ne ho, hdetail], hblocks⟩

/-- What was done before the release counts with it where it kept the blocks and the events. -/
theorem Released.before {s u t : State} {h : Nat} {x : Ending} (hrel : Released u t h x) (hb : SameBlocks s u)
    (hc : u.events = s.events) : Released s t h x := by
  obtain ⟨hon, hending, hheld, hlook, hcount, hdetail, hblocks⟩ := hrel
  rw [State.occurrence_congr hc] at hcount
  exact ⟨hon, hending, hheld, hlook, hcount, hdetail, hb.trans hblocks⟩

/-- The head taken at an end-of-list END marker stops the sequencer (R47, step 2). -/
theorem State.takeHead_marker {s : State} (h : s.interp.look.map Resolved.source = [.endMark none]) (m : TakeMode) :
    s.takeHead m = some (s.enterState .stopped) := by
  obtain ⟨r, rest, hlook, hr, -⟩ := List.map_eq_cons_iff.mp h
  rw [State.takeHead_loop]
  exact takeLoop_end _ _ _ r (by simp [State.head?, hlook]) hr

theorem State.enterState_occurrence (s : State) (a : AirState) (o : Occurrence) :
    (s.enterState a).occurrence o = s.occurrence o :=
  State.occurrence_congr (by simp) o

/-- With the last entry released the sequencer stops (R47, R51). -/
theorem Released.stopped {s t : State} {h : Nat} {x : Ending} (hrel : Released s t h x) :
    t.takeHead (.boundary false) = some (t.enterState .stopped) ∧ StoppedAtEnd s (t.enterState .stopped) h x := by
  obtain ⟨hon, hending, hheld, hlook, hcount, hdetail, hblocks⟩ := hrel
  have hlen : t.interp.look.length = 1 := by simpa using congrArg List.length hlook
  refine ⟨State.takeHead_marker hlook _, by simp, by simp [hon], by simp [hending], by simp [hheld], by simp [hlen],
    by rw [State.enterState_occurrence, hcount],
    by rw [State.enterState_occurrence, hdetail], ?_⟩
  simpa [SameBlocks] using hblocks

/-! ### The last entry's ends (R51, R54, R56, R49) -/

/-- What a stopped unit leaves as it was, where it was no phone segment. -/
theorem State.stopParts_lines {o : OnAir} (h : o.player.isSome = true ∨ ∀ n l t p i, o.source ≠ .item n l (.phone t p i))
    (s : State) : (s.stopParts o).lines = s.lines := by
  unfold State.stopParts
  split
  · simp
  · rename_i hp hphone
    obtain hp' | hs := h
    · simp [hp] at hp'
    · exact absurd hphone (hs _ _ _ _ _)
  · rfl

theorem LastBeforeEnd.stopParts {s : State} {o : OnAir} {r e : Resolved} (h : LastBeforeEnd s o r e) (q : OnAir) :
    LastBeforeEnd (s.stopParts q) o r e := by
  simpa [LastBeforeEnd] using h

theorem KeptAtEnd.stopParts {s : State} {h : Nat} (hk : KeptAtEnd s h) (q : OnAir) : KeptAtEnd (s.stopParts q) h := by
  simpa [KeptAtEnd] using hk

/-- The last entry on air ended COMPLETE: its unit is stopped, its record ended, and the sequencer stops (R51). -/
theorem State.endOnAir_last {s : State} {o : OnAir} {r e : Resolved} {h : Nat} {l : ListId} {b : Body}
    (hlast : LastBeforeEnd s o r e) (hs : o.source = .item h l b) (hk : KeptAtEnd s h) :
    s.endOnAir .complete = some (((s.stopParts o).endRecord .complete).enterState .stopped) ∧
      Released (s.stopParts o) ((s.stopParts o).endRecord .complete) h .complete := by
  have hrel := State.endRecord_released (x := .complete) (LastBeforeEnd.stopParts hlast o) hs fun _ => KeptAtEnd.stopParts hk o
  obtain ⟨htake, -⟩ := Released.stopped hrel
  exact ⟨by simp only [State.endOnAir, hlast.1, htake], hrel⟩

/-- The last entry, which used no phone segment, ended COMPLETE (R51). -/
theorem State.endOnAir_stopped {s : State} {o : OnAir} {r e : Resolved} {h : Nat} {l : ListId} {b : Body}
    (hlast : LastBeforeEnd s o r e) (hs : o.source = .item h l b) (hk : KeptAtEnd s h)
    (hphone : o.player.isSome = true ∨ ∀ t p i, b ≠ .phone t p i) :
    ∃ t, s.endOnAir .complete = some t ∧ StoppedAtEnd s t h .complete ∧ t.air.players = (s.stopParts o).air.players := by
  obtain ⟨hend, hrel⟩ := State.endOnAir_last hlast hs hk
  have hlines : (s.stopParts o).lines = s.lines := State.stopParts_lines (hphone.imp_right fun hb n l' t p i hc => by
    rw [hs] at hc
    cases hc
    exact hb t p i rfl) s
  have hblocks : SameBlocks s (s.stopParts o) := by simp [SameBlocks, hlines]
  obtain ⟨-, hstopped⟩ := Released.stopped (Released.before hrel hblocks (by simp))
  refine ⟨_, hend, hstopped, ?_⟩
  simp [State.enterState_air, State.endRecord, State.putOnAir]

/-- A player's entry has ended with no designation pending: its record is ENDED and its gain mute (R46, R92). -/
theorem State.endPlayer_onAir {s : State} {p : Fin 4} {cue : Cue} {fill : Bool} (hp : s.player p = .onAir cue fill)
    (hpend : s.air.fillPending ≠ some p) : s.endPlayer p = (s.putPlayer p (.ended cue)).mutePlayer p := by
  simp [State.endPlayer, hp, State.applyPending, hpend]

/-- Settles O30: each kind's end comes down to the record of the last entry being ended before the marker. -/
theorem lastEntryEnds : Obligations.LastEntryEnds := by
  unfold Obligations.LastEntryEnds
  intro s o r e h l hlast hk hstate
  have hon : s.air.onAir = some o := hlast.1
  refine ⟨fun timed item hs hp => ⟨fun x hx hdue => ?timer, fun hport => ?segment⟩,
    fun timed cueStart item hs hp hlevel => ?join, fun k cart segue item p cue hs hp hplayer hpend => ?audio,
    fun k cart segue item d hs hphase hdue => ?grace⟩
  case timer =>
    obtain ⟨t, ht, hstop, -⟩ := State.endOnAir_stopped hlast hs hk (.inr nofun)
    refine ⟨t, ?_, hstop⟩
    change execEndTimer s = _
    simp [execEndTimer, State.endDue, hon, hx, reached, hdue, ht, finish]
  case segment =>
    obtain ⟨t, ht, hstop, -⟩ := State.endOnAir_stopped hlast hs hk (.inr nofun)
    refine ⟨t.answer 0x22 (.ok []), request_owner (owner := endAirSegment) hport rfl ?_, hstop⟩
    simp [endAirSegment, State.segmentOnAir, hon, hs, ht, accepted]
  case join =>
    let u : State := { s with air := { s.air with netBLevel := true } }
    obtain ⟨t, ht, hstop, -⟩ := State.endOnAir_stopped (s := u) hlast hs hk (.inr nofun)
    have hjoin : u.joinEntry = true := by simp [u, State.joinEntry, hon, hs]
    refine ⟨t, ?_, hstop⟩
    change execNetBEdge s = _
    simp only [execNetBEdge, hlevel]
    exact finish_next.mpr ((if_pos hjoin).trans ht)
  case audio =>
    obtain ⟨t, ht, hstop, hplayers⟩ := State.endOnAir_stopped hlast hs hk (.inl (by simp [hp]))
    have hbound : s.boundOnAir p = true := by simp [State.boundOnAir, hon, hp]
    refine ⟨t, ?_, hstop, ?_⟩
    · change execEndInput p s = _
      simp [execEndInput, State.takeEnd, hbound, ht, finish]
    · have hstopped : s.stopParts o = (s.putPlayer p (.ended cue)).mutePlayer p := by
        simp only [State.stopParts, hp]
        exact State.endPlayer_onAir hplayer (by simp [hpend])
      rw [State.player, hplayers, hstopped]
      exact (State.player_putPlayer s p p (.ended cue)).trans (if_pos rfl)
  case grace =>
    have hrel := State.endRecord_released (x := .missed) hlast hs nofun
    obtain ⟨htake, hstop⟩ := Released.stopped (Released.raise hrel (o := .entryMissed) (by decide) none)
    refine ⟨_, ?_, hstop, ?_⟩
    · change execGraceDeadline s = _
      simp only [execGraceDeadline, State.graceDue, hon, Option.bind_some, OnAir.grace?, hphase, reached, hdue,
        decide_true, if_true]
      exact finish_next.mpr htake
    · rw [State.enterState_occurrence, State.occurrence_raise_self,
        State.endRecord_last_occurrence (x := .missed) hlast hs nofun (by decide), if_neg (by decide)]

/-! ### A computation that meets no post (R71, R62) -/

theorem Resolved.post?_cleared (r : Resolved) : r.cleared.post? = r.post? := rfl

theorem Resolved.cleared_cleared (r : Resolved) : r.cleared.cleared = r.cleared := rfl

/-- Without a post there is no record COMPUTED, no drop and no stretch, and the entries stay cleared (R71, R72). -/
theorem State.computeFrom_noPost (s : State) (start : Nat) {entries : List Resolved}
    (h : ∀ r ∈ entries, r.post? = none) :
    s.computeFrom start entries =
      ({ state := if s.interp.look = [] ∨ s.interp.look.getLast?.any Resolved.isEnd = true then .noPost else .postBeyond,
         seqNo := s.interp.seqNo, t0 := s.clock.station, tolerance := s.timer.tolerance, dropCount := 0,
         stretchCount := 0 }, entries) := by
  simp only [State.computeFrom, splitAtPost_none h]
  cases hlast : s.interp.look.getLast? with
  | none => simp [List.getLast?_eq_none_iff.mp hlast]
  | some r =>
    have hne : s.interp.look ≠ [] := by rintro hnil; simp [hnil] at hlast
    simp [hne]

/-- The watch takes the record of the computation (R62). -/
theorem State.compute_watch (s : State) :
    let start := if s.interp.held then 1 else 0
    s.compute.air.watch =
      s.air.watch.update (s.computeFrom start ((s.interp.look.drop start).map Resolved.cleared)).1 s.timer.tolerance := by
  simp [State.compute]

theorem PostWatch.update_noPost (w : PostWatch) {rec : TimingRecord} (tolerance : Nat)
    (h : rec.state = .noPost ∨ rec.state = .postBeyond) : w.update rec tolerance = .disarmed := by
  obtain h | h := h <;> simp [PostWatch.update, h]

/-- With nothing held and no post in the lookahead a computation clears its entries and disarms the watch. -/
theorem State.compute_noPost {s : State} (hheld : s.interp.held = false) (hpost : ∀ r ∈ s.interp.look, r.post? = none) :
    s.compute.interp.look = s.interp.look.map Resolved.cleared ∧ s.compute.air.watch = .disarmed := by
  have hcleared : ∀ r ∈ s.interp.look.map Resolved.cleared, r.post? = none := by
    simpa [Resolved.post?_cleared] using hpost
  refine ⟨State.compute_look_noPost _ hheld (splitAtPost_none hcleared), ?_⟩
  have hw := s.compute_watch
  simp only [hheld, Bool.false_eq_true, if_false, List.drop_zero, State.computeFrom_noPost _ _ hcleared] at hw
  rw [hw]
  exact PostWatch.update_noPost _ _ (by split <;> simp)

/-- So does a second one after it. -/
theorem State.compute_compute_noPost {s : State} (hheld : s.interp.held = false)
    (hpost : ∀ r ∈ s.interp.look, r.post? = none) :
    s.compute.compute.interp.look = s.interp.look.map Resolved.cleared ∧ s.compute.compute.air.watch = .disarmed := by
  obtain ⟨hlook, -⟩ := State.compute_noPost hheld hpost
  have hpost' : ∀ r ∈ s.compute.interp.look, r.post? = none := by
    rw [hlook]; simpa [Resolved.post?_cleared] using hpost
  obtain ⟨hlook', hwatch⟩ := State.compute_noPost (s := s.compute) (by simpa using hheld) hpost'
  refine ⟨?_, hwatch⟩
  rw [hlook', hlook, List.map_map]
  rfl

/-! ### The segue (R52, R53, R93) -/

/-- The on-air entry has moved to the outgoing record, its player under a fade to its end (R52, R93). -/
def State.handedOver (s : State) (o : OnAir) (p : Fin 4) (k : AudioKind) (endsAt : Nat) : State :=
  let t := s.fadePlayer p (endsAt - s.clock.mono)
  { t with air := { t.air with
    onAir := none
    outgoing := some { handle := o.source.handle, kind := k, player := p, frozen := o.frozen, endsAt } } }

/-- With nothing outgoing a segue hands over, releases the head without an outcome and takes the next (R52). -/
theorem State.segue_eq {s : State} {o : OnAir} {y : Nat} (hout : s.air.outgoing = none) (hend : o.endTimer = some y)
    (p : Fin 4) (k : AudioKind) :
    s.segue o p k = ((s.handedOver o p k y).releaseWith none true).takeHead (.boundary false) := by
  simp only [State.segue, State.cutOutgoing_none hout, hend, Option.getD_some]
  rfl

/-- What a segue hands over concerns the air record and the player's gain alone. -/
theorem State.handedOver_sameBlocks (s : State) (o : OnAir) (p : Fin 4) (k : AudioKind) (endsAt : Nat) :
    SameBlocks s (s.handedOver o p k endsAt) :=
  ⟨rfl, rfl, rfl, rfl, rfl, rfl, rfl, rfl⟩

/-- At the segue point of an audio entry the segue takes place where it is allowed (R52). -/
theorem State.takeSegue_allowed {s : State} {o : OnAir} {p : Fin 4} {k : AudioKind} (hon : s.air.onAir = some o)
    (hp : o.player = some p) (hk : o.audioKind? = some k) (ha : s.segueAllowed o = true) :
    s.takeSegue = (s.putOnAir (some { o with seguePoint := none })).segue { o with seguePoint := none } p k := by
  simp [State.takeSegue, hon, hp, hk, ha]

/-- A release without an outcome reports and raises nothing (R51). -/
theorem State.releaseWith_none {s : State} {head : Resolved} {rest : List Resolved} (h : s.interp.look = head :: rest)
    (mayPlace : Bool) : s.releaseWith none mayPlace = (s.releaseHead mayPlace).compute := by
  simp [State.releaseWith, State.head?, h]

/-- A segue is allowed to a LIVE entry that needs no go, with no hold demand and no watch armed (R52). -/
theorem State.segueAllowed_live {s : State} {o : OnAir} {r1 r2 : Resolved} {rest : List Resolved} {h : Nat} {l : ListId}
    {timed : Bool} {item : ItemFields} (hlook : s.interp.look = r1 :: r2 :: rest)
    (hs : r2.source = .item h l (.live timed item)) (hd : r2.dropMark = false) (hgo : NeedsNoGo s item)
    (hdem : s.air.holdDemand = false) (hw : s.air.watch = .disarmed) (hseg : 0 < o.segue) :
    s.segueAllowed o = true := by
  simp [State.segueAllowed, hlook, hs, hd, live_needsGo.mpr hgo, hdem, State.beforePost_disarmed hw, hseg]

@[simp] theorem State.startedPlain_lastEnding (s : State) (r : Resolved) (timed : Bool) :
    (s.startedPlain r timed).air.lastEnding = s.air.lastEnding ∧
      (s.startedPlain r timed).air.outgoing = s.air.outgoing := by
  rw [State.startedPlain_eq]; simp

theorem State.startedPlain_bus {s : State} (h : s.bus.fillPostWait = false) (r : Resolved) (timed : Bool) :
    (s.startedPlain r timed).bus = s.bus := by
  rw [State.startedPlain_eq]; simp [State.takeHeld_bus h]

/-- The release, without an outcome, of the head before entries without posts that an END marker ends: they stand cleared,
and the watch is disarmed (R51, R62, R72). -/
theorem State.releaseWith_none_noPost {s : State} {head : Resolved} {rest : List Resolved}
    (hlook : s.interp.look = head :: rest) (hend : rest.getLast?.any Resolved.isEnd = true)
    (hpl : s.interp.placement = []) (hpost : ∀ r ∈ rest, r.post? = none) (mayPlace : Bool) :
    (s.releaseWith none mayPlace).interp.look = rest.map Resolved.cleared ∧
      (s.releaseWith none mayPlace).air = { s.air with watch := .disarmed } ∧
      (s.releaseWith none mayPlace).store = s.store := by
  obtain ⟨hclear, hwatch⟩ := State.compute_compute_noPost (s := s.passHead head rest) rfl hpost
  rw [State.releaseWith_none hlook, State.releaseHead_ended hlook hend hpl]
  refine ⟨hclear, ?_, by simp⟩
  rw [State.compute_air, hwatch, State.compute_air, State.passHead_air]

/-- Settles O31: the entry on air is handed over, the head is released without an outcome, and the LIVE entry, then at
the head at its planned length, is started. -/
theorem segueStartsNextEntry : Obligations.SegueStartsNextEntry := by
  unfold Obligations.SegueStartsNextEntry
  intro s o r1 r2 e h h2 l l2 k cart segue item item2 p x y timed hon hlook hheld hpl hs hr1 hp hseg hpoint hdue hend hout
    hstate hfill hs2 hd2 hpost hwait hmode hdem hw hlive he
  let o' : OnAir := { o with seguePoint := none }
  let u : State := (s.putOnAir (some o')).handedOver o' p k y
  have hnone : ∀ r ∈ [r2, e], r.post? = none := by
    simp [Resolved.post?, Resolved.item?, hs2, he, Source.body?, Body.item?, hpost]
  obtain ⟨hwlook, hwair, hwstore⟩ := State.releaseWith_none_noPost (s := u) (rest := [r2, e]) hlook
    (by simp [Resolved.isEnd, he]) hpl hnone true
  have hwbus : (u.releaseWith none true).bus = u.bus := by simp
  have hkept : SameBlocks u (u.releaseWith none true) := by simp [SameBlocks, hwstore]
  have hwblocks : SameBlocks s (u.releaseWith none true) :=
    ((s.putOnAir (some o')).handedOver_sameBlocks o' p k y).trans hkept
  have hkind : o.audioKind? = some k := by simp [OnAir.audioKind?, hs]
  have hsegue : s.takeSegue = (u.releaseWith none true).takeHead (.boundary false) := by
    rw [State.takeSegue_allowed hon hp hkind (State.segueAllowed_live hlook hs2 hd2 ⟨hmode, hwait⟩ hdem hw hseg)]
    exact State.segue_eq (s := s.putOnAir (some o')) (o := o') hout hend p k
  generalize u.releaseWith none true = w at *
  have hgo : NeedsNoGo w item2 := by rw [NeedsNoGo, hwair]; exact ⟨hmode, hwait⟩
  have hwdem : w.air.holdDemand = false := by rw [hwair]; exact hdem
  have htaken : w.takeHead (.boundary false) = some (w.startedPlain r2.cleared timed) :=
    State.takeHead_started (m := .boundary false) (r := r2.cleared) (by rw [hwlook]; rfl) hs2 (by rw [hwstore]; exact hlive)
      rfl hwdem (.inr (State.beforePost_disarmed (by rw [hwair]) _)) (State.goGiven_no_need (live_needsGo.mpr hgo) _)
      (State.startItem_plain rfl _ _)
  obtain ⟨hrun, -, -, hair, -, hblocks⟩ := w.startedPlain_plainStarted r2.cleared timed
  obtain ⟨htclock, htstore, htlines, htreceiver, -, htsite, -⟩ := hwblocks.trans hblocks
  have hwclock : w.clock = s.clock := hwblocks.1
  have hplanned : r2.cleared.effective = item2.planned := by simp [Resolved.cleared, hs2, Body.item?]
  have hsegue0 : r2.cleared.segue = 0 := by simp [Resolved.segue, Resolved.cleared, hs2, Source.body?, Body.segue]
  refine ⟨_, ?_, hrun, ?_, ?_, ?_, ?_, htclock, htstore, htlines, htreceiver, htsite⟩
  · change execSeguePoint s = _
    simp only [execSeguePoint, State.segueDue, hon, Option.bind_some, hpoint, reached, hdue, decide_true, if_true]
    exact finish_next.mpr (hsegue.trans htaken)
  · simp [hwair, u, State.handedOver, o', hs, Source.handle]
  · simp [hwair, u, State.handedOver]
  · rw [hair, hplanned, hsegue0, hwclock]; rfl
  · have hbus : (w.startedPlain r2.cleared timed).bus = u.bus :=
      (State.startedPlain_bus (by rw [hwbus]; exact hfill) _ _).trans hwbus
    simp only [State.source, hbus]
    simp [u, State.handedOver, State.fadePlayer, State.putSource, State.source]

/-! ### The outgoing entry's end, and AIR_CUE_TO (R53, R61) -/

/-- A sequencer that is not waiting answers nothing to a changed head (R61). -/
theorem settleHead_of_not_wait {before s : State} (h : s.air.state.isWait = false) : settleHead before s = some s := by
  simp [settleHead, h]

/-- The player found for a cart is CUED (R48). -/
theorem State.cued_of_playerFor {s : State} {cart : Nat} {p : Fin 4} (h : s.playerFor cart = some p) :
    ∃ cue, s.player p = .cued cue := by
  have hp := List.find?_some h
  simp only [Bool.and_eq_true] at hp
  obtain ⟨-, hcued⟩ := hp
  split at hcued
  · exact ⟨_, ‹_›⟩
  · cases hcued

/-- Offering the players to an entry in CUEING may bind one that is CUED; every other record stays (R49). -/
theorem State.offerCues_player {s : State} {p : Fin 4} (h : ∀ cue, s.player p ≠ .cued cue) :
    s.offerCues.player p = s.player p := by
  unfold State.offerCues
  split
  · rfl
  · rename_i o ho
    split
    · split
      · rename_i q hq
        obtain ⟨cue, hcue⟩ := State.cued_of_playerFor hq
        have hne : p ≠ q := by rintro rfl; exact h cue hcue
        rw [State.bindPlayer_cued hcue]
        simp [hne]
      · rfl
    · rfl

/-- Offering the players raises no other occurrence than ENTRY_STARTED and TIMING_CHANGED (R49). -/
theorem State.offerCues_occurrence (s : State) {o : Occurrence} (hs : o ≠ .entryStarted) (ht : o ≠ .timingChanged) :
    s.offerCues.occurrence o = s.occurrence o := by
  unfold State.offerCues
  split
  · rfl
  · split
    · split
      · rename_i q hq
        obtain ⟨cue, hcue⟩ := State.cued_of_playerFor hq
        rw [State.bindPlayer_cued hcue, State.entryStarted_occurrence _ hs ht]
        rfl
      · rfl
    · rfl

theorem State.offerCues_not_cueing {s : State} (h : ∀ o d, s.air.onAir = some o → o.phase ≠ .cueing d) :
    s.offerCues = s := by
  unfold State.offerCues
  split
  · rfl
  · rename_i o ho
    split
    · exact absurd ‹o.phase = _› (h o _ ho)
    · rfl

/-- The outgoing record emptied with its ending reported and raised, before the players are offered (R53). -/
def State.outgoingEnded (s : State) (o : Outgoing) : State :=
  let t := s.endPlayer o.player
  let t := { t with air := { t.air with outgoing := none, lastEnding := some (o.handle, .complete) } }
  ((t.reportEnding o.handle .complete).raise .entryEnded (some (.entryEnded o.handle .complete))).compute

theorem State.endOutgoing_eq {s : State} {o : Outgoing} (h : s.air.outgoing = some o) :
    s.endOutgoing = settleHead s (s.outgoingEnded o).offerCues := by
  simp only [State.endOutgoing, h]
  rfl

/-- Two air records that agree in every field but the post watch. -/
theorem Air.eq_but_watch {a b : Air}
    (h : a.state = b.state ∧ a.mode = b.mode ∧ a.onAir = b.onAir ∧ a.outgoing = b.outgoing ∧
      a.preemption = b.preemption ∧ a.holdDemand = b.holdDemand ∧ a.holdAtPoint = b.holdAtPoint ∧
      a.goLatch = b.goLatch ∧ a.goLevel = b.goLevel ∧ a.netALevel = b.netALevel ∧ a.netBLevel = b.netBLevel ∧
      a.lastEnding = b.lastEnding ∧ a.players = b.players ∧ a.fillPlayer = b.fillPlayer ∧
      a.fillPending = b.fillPending ∧ a.cueGrace = b.cueGrace) : a = { b with watch := a.watch } := by
  cases a; cases b; simpa using h

/-- Two timers that agree in the tolerance and the periodic expiry. -/
theorem Timer.eq_but_record {a b : Timer} (h : a.tolerance = b.tolerance ∧ a.periodicAt = b.periodicAt) :
    a = { b with record := a.record, dropSet := a.dropSet } := by
  cases a; cases b; simpa using h

/-- An accepted AIR_CUE_TO stays within an edit's frame: its rebuild writes the interpreter and the computation. -/
theorem State.cueTo_editFrame (s : State) (h : Nat) (l : ListId) (code : Nat) (r : Reply) :
    EditFrame s ((s.cueTo h l).answer code r) := by
  have hair : (s.cueTo h l).air = { s.air with watch := (s.cueTo h l).air.watch } := Air.eq_but_watch (by simp)
  have htimer : (s.cueTo h l).timer =
      { s.timer with record := (s.cueTo h l).timer.record, dropSet := (s.cueTo h l).timer.dropSet } :=
    Timer.eq_but_record (by simp)
  have hocc (o : Occurrence) (hf : o ≠ .lookaheadFault) (ht : o ≠ .timingChanged) :
      (s.cueTo h l).occurrence o = s.occurrence o := State.rebuild_occurrence _ hf ht
  have hrest : (s.cueTo h l).clock = s.clock ∧ (s.cueTo h l).bus = s.bus ∧ (s.cueTo h l).lines = s.lines ∧
      (s.cueTo h l).receiver = s.receiver ∧ (s.cueTo h l).sched = s.sched ∧ (s.cueTo h l).site = s.site ∧
      (s.cueTo h l).events.mask = s.events.mask ∧ (s.cueTo h l).freeUsed = s.freeUsed ∧
      (s.cueTo h l).pending = s.pending := by simp
  generalize s.cueTo h l = t at hair htimer hocc hrest ⊢
  obtain ⟨hclock, hbus, hlines, hreceiver, hsched, hsite, hmask, hfree, hpending⟩ := hrest
  exact ⟨hclock, hair, htimer, hbus, hlines, hreceiver, hsched, hsite, rfl, hmask, hocc, hfree, hpending⟩

/-- Settles O32: the outgoing entry's player and record are ended before the players are offered; AIR_CUE_TO writes the
play position and rebuilds. -/
theorem outgoingEndsAndCueTo : Obligations.OutgoingEndsAndCueTo := by
  unfold Obligations.OutgoingEndsAndCueTo
  refine ⟨fun s o cue hout hdue hstate hplayer hpend => ?outgoing, fun s h e hp hstate he => ?cueTo⟩
  case outgoing =>
    have hended : (s.outgoingEnded o).player o.player = .ended cue := by
      simp [State.outgoingEnded, State.player, State.endPlayer_onAir hplayer (by simp [hpend]), State.putPlayer]
    have hkept : (s.outgoingEnded o).offerCues.player o.player = .ended cue :=
      (State.offerCues_player (by simp [hended])).trans hended
    have hair : (s.outgoingEnded o).offerCues.air.state = s.air.state := by simp [State.outgoingEnded]
    refine ⟨(s.outgoingEnded o).offerCues, ?_, ?_, ?_, hkept, ?_, ?_, hair, ?_⟩
    · change execOutgoingEnd s = _
      simp only [execOutgoingEnd, State.outgoingDue, hout, Option.map_some, reached, hdue, decide_true, if_true]
      exact finish_next.mpr ((State.endOutgoing_eq hout).trans (settleHead_of_not_wait (by rw [hair, hstate])))
    · simp [State.outgoingEnded]
    · simp [State.outgoingEnded]
    · simp [State.startLine, hkept, Player.isOnAir]
    · rw [State.offerCues_occurrence _ (by decide) (by decide), State.outgoingEnded,
        State.compute_occurrence _ (by decide), State.occurrence_raise_self]
    · simp [State.outgoingEnded]
  case cueTo =>
    have hrefuse := State.handleRefusal_live (Store.live_of_find? he)
    have hwait : (s.cueTo h e.list).air.state.isWait = false := by
      obtain hx | hx := hstate <;> simp [hx, AirState.isWait]
    refine ⟨(s.cueTo h e.list).answer 0x29 (.ok []), request_owner (owner := cueAirTo h) hp rfl ?_, ?_, ?_, rfl,
      s.cueTo_editFrame _ _ _ _⟩
    · obtain hx | hx := hstate <;> simp [cueAirTo, hx, hrefuse, he, settleHead_of_not_wait hwait, accepted]
    · simp [State.cueTo]
    · simp

/-! ### The player records (R44, R94, R97) -/

theorem State.putPlayer_putPlayer (s : State) (p : Fin 4) (a b : Player) :
    (s.putPlayer p a).putPlayer p b = s.putPlayer p b := by
  simp [State.putPlayer]

theorem State.player_putPlayer_self (s : State) (p : Fin 4) (a : Player) : (s.putPlayer p a).player p = a := by
  simp

/-- A player's request names it by its number (R44). -/
theorem readPlayer_succ (p : Fin 4) : readPlayer (p.val + 1) = some p := readIndex_succ p

/-- The record of a player that is not the fill player, or is while there is no dead air, is written and no more. -/
theorem State.cuePlayer_noFill {s : State} {p : Fin 4} (hc : ∀ o d, s.air.onAir = some o → o.phase ≠ .cueing d)
    (hf : s.air.fillPlayer ≠ some p ∨ s.holds .deadAir = false) (cue : Cue) :
    s.cuePlayer p cue = s.putPlayer p (.cued cue) := by
  have hfill : ¬(s.air.fillPlayer = some p ∧ (s.player p).isCued = false) ∨
      (s.air.fillPlayer = some p ∧ (s.putPlayer p (.cued cue)).fillCued = s.putPlayer p (.cued cue)) := by
    by_cases hp : s.air.fillPlayer = some p
    · have hdead : (s.putPlayer p (.cued cue)).deadAir = false := hf.resolve_left (by simp [hp])
      exact .inr ⟨hp, by simp [State.fillCued, hp, hdead]⟩
    · exact .inl fun h => hp h.1
  have hoffer : (s.putPlayer p (.cued cue)).offerCues = s.putPlayer p (.cued cue) := State.offerCues_not_cueing hc
  unfold State.cuePlayer
  obtain hno | ⟨-, hnone⟩ := hfill
  · dsimp only
    rw [if_neg (by simpa using hno), hoffer]
  · dsimp only
    rw [hnone, ite_self, hoffer]

/-- A CUED fill player starts: its record is ON_AIR for fill and the escalation count 0 (R97, R99). -/
theorem State.startFill_cued {s : State} {p : Fin 4} {cue : Cue} (hf : s.air.fillPlayer = some p)
    (hp : s.player p = .cued cue) :
    s.startFill = { s.putPlayer p (.onAir cue true) with
      bus := { s.bus with monitor := { s.bus.monitor with escalation := 0 } } } := by
  simp only [State.startFill, hf, hp]
  rfl

/-- A fill player CUED while dead air stands goes on air for it at once (R97, R99). -/
theorem State.cuePlayer_fill {s : State} {p : Fin 4} (hc : ∀ o d, s.air.onAir = some o → o.phase ≠ .cueing d)
    (hp : s.air.fillPlayer = some p) (hd : s.holds .deadAir = true) (hw : (s.player p).isCued = false) (cue : Cue) :
    s.cuePlayer p cue = { s.putPlayer p (.onAir cue true) with bus := { s.bus with
      fillDeadAir := true, monitor := { s.bus.monitor with escalation := 0 } } } := by
  have hdead : (s.putPlayer p (.cued cue)).deadAir = true := hd
  let t : State := { s.putPlayer p (.onAir cue true) with bus := { s.bus with
      fillDeadAir := true, monitor := { s.bus.monitor with escalation := 0 } } }
  have hfill : (s.putPlayer p (.cued cue)).fillCued = t := by
    have hadd : (s.putPlayer p (.cued cue)).fillCued = (s.putPlayer p (.cued cue)).addDeadAir := by
      simp [State.fillCued, hp, hdead, Player.isCued]
    let u : State := { s.putPlayer p (.cued cue) with bus := { s.bus with fillDeadAir := true } }
    have hstart : u.startFill = _ := State.startFill_cued (s := u) hp (State.player_putPlayer_self s p (.cued cue))
    rw [hadd, State.addDeadAir]
    exact hstart.trans (by simp [u, t, State.putPlayer])
  have hoffer : t.offerCues = t := State.offerCues_not_cueing hc
  unfold State.cuePlayer
  dsimp only
  rw [if_pos (by simp [hp, hw]), hfill, hoffer]

/-- PLAYER_CUE with fields in range, of a player that is not ON_AIR, is accepted (R44). -/
theorem exec_playerCue_accepted {s : State} {p : Fin 4} {cart length : Nat} (hp : portFree s)
    (hair : (s.player p).isOnAir = false) (hcart : 0 < cart) (hlen : length ≤ 10800000) :
    exec (.playerCue .automation (p.val + 1) cart length) s = .next ((s.cuePlayer p { cart, length }).answer 0x2B
      (.ok (playerB ((s.cuePlayer p { cart, length }).player p)))) := by
  have hrange : ¬(cart = 0 ∨ Config.maxLength < length) := by
    rintro (h | h)
    · omega
    · exact absurd hlen (Nat.not_le.mpr h)
  refine request_owner (owner := cuePlayer (p.val + 1) cart length) hp rfl ?_
  simp only [cuePlayer, readPlayer_succ, if_neg hrange, hair, accepted, Option.map_some]
  rfl

/-- A cut ramp that has run its 20 ms (R94). -/
theorem State.rampDone_cut {s : State} {p : Fin 4} {g : Int} {start : Nat} {fill : Bool}
    (hlaw : (s.source (playerSource p)).law = .cut g start fill) (hdue : start + 20 ≤ s.clock.mono) :
    s.rampDone p fill = true := by
  simp [State.rampDone, hlaw, hdue]

/-- A withdrawal's end with no reason for this player to start again leaves it CUED and mute (R97). -/
theorem State.endWithdrawal_idle {s : State} {p : Fin 4} {cue : Cue} {fill : Bool} (hp : s.player p = .onAir cue fill)
    (hc : ∀ o d, s.air.onAir = some o → o.phase ≠ .cueing d)
    (hidle : s.air.fillPlayer ≠ some p ∨ (s.bus.fillDeadAir = false ∧ s.bus.fillPostWait = false)) :
    s.endWithdrawal p = (s.putPlayer p (.cued cue)).mutePlayer p := by
  let t : State := (s.putPlayer p (.cued cue)).mutePlayer p
  have hno : ¬(t.air.fillPlayer = some p ∧ t.fillWanted = true) := by
    rintro ⟨hf, hw⟩
    obtain hne | ⟨hd, hpw⟩ := hidle
    · exact hne hf
    · have : t.fillWanted = (s.bus.fillDeadAir || s.bus.fillPostWait) := rfl
      simp [this, hd, hpw] at hw
  have hoffer : t.offerCues = t := State.offerCues_not_cueing hc
  simp only [State.endWithdrawal, hp]
  exact (congrArg State.offerCues (if_neg hno)).trans hoffer

/-- A withdrawal's end of the fill player while a reason stands starts it again (R97, R99). -/
theorem State.endWithdrawal_again {s : State} {p : Fin 4} {cue : Cue} {fill : Bool} (hp : s.player p = .onAir cue fill)
    (hc : ∀ o d, s.air.onAir = some o → o.phase ≠ .cueing d) (hf : s.air.fillPlayer = some p)
    (hw : s.bus.fillDeadAir = true ∨ s.bus.fillPostWait = true) :
    s.endWithdrawal p = ((s.putPlayer p (.cued cue)).mutePlayer p).startFill := by
  let t : State := (s.putPlayer p (.cued cue)).mutePlayer p
  have hwanted : t.fillWanted = true := by
    have : t.fillWanted = (s.bus.fillDeadAir || s.bus.fillPostWait) := rfl
    simpa [this] using hw
  have hoffer : t.startFill.offerCues = t.startFill := State.offerCues_not_cueing (by simpa [t] using hc)
  simp only [State.endWithdrawal, hp]
  exact (congrArg State.offerCues (if_pos ⟨hf, hwanted⟩)).trans hoffer

/-- Settles O33: with no entry in CUEING nothing is offered, so that each request and ramp writes its own records. -/
theorem playerRecordsWritten : Obligations.PlayerRecordsWritten := by
  unfold Obligations.PlayerRecordsWritten
  refine fun s p hc => ⟨fun cart length hport hair hcart hlen => ⟨fun hf => ?cue, fun hf hd hw => ?fill⟩,
    fun hport hair => ?clear, fun cue g start fill hplayer hlaw hdue =>
      ⟨fun hfill hpend => ?ramp, fun hfill hidle => ?withdrawn, fun hfill hf hw => ?again⟩⟩
  case cue =>
    rw [exec_playerCue_accepted hport hair hcart hlen, State.cuePlayer_noFill hc hf, State.player_putPlayer_self]
  case fill =>
    rw [exec_playerCue_accepted hport hair hcart hlen, State.cuePlayer_fill hc hf hd hw]
    simp [State.player, State.putPlayer]
  case clear =>
    refine request_owner (owner := clearPlayer (p.val + 1)) hport rfl ?_
    simp [clearPlayer, readPlayer_succ, hair, accepted]
  case ramp =>
    subst hfill
    change execCutCompletion p s = _
    rw [execCutCompletion, if_pos (State.rampDone_cut hlaw hdue), State.endPlayer_onAir hplayer hpend,
      State.offerCues_not_cueing (s := (s.putPlayer p (.ended cue)).mutePlayer p) hc]
    rfl
  case withdrawn =>
    subst hfill
    change execFillWithdrawalEnd p s = _
    rw [execFillWithdrawalEnd, if_pos (State.rampDone_cut hlaw hdue), State.endWithdrawal_idle hplayer hc hidle]
    rfl
  case again =>
    subst hfill
    let t : State := (s.putPlayer p (.cued cue)).mutePlayer p
    have hstart : t.startFill = { t.putPlayer p (.onAir cue true) with
        bus := { t.bus with monitor := { t.bus.monitor with escalation := 0 } } } :=
      State.startFill_cued hf (State.player_putPlayer_self s p _)
    refine ⟨t.startFill, ?_, ?_⟩
    · change execFillWithdrawalEnd p s = _
      rw [execFillWithdrawalEnd, if_pos (State.rampDone_cut hlaw hdue), State.endWithdrawal_again hplayer hc hf hw]
    · rw [hstart]
      refine ⟨State.player_putPlayer_self t p _, rfl, ?_, ?_, fun q hq => ?_, rfl⟩
      · simp [t, State.source, State.mutePlayer, State.putSource, State.putPlayer]
      · simp [t, State.source, State.mutePlayer, State.putSource, State.putPlayer]
      · exact ((State.player_putPlayer t p q _).trans (if_neg hq)).trans
          ((State.player_putPlayer s p q _).trans (if_neg hq))

end Sys2Proof.Machine
end

section
/-! PROOFS. Callers on air and on hold (O44): a line's entering and leaving ON_AIR, the callers that a PHONE entry takes at
its start, and the end of its segment. -/

namespace Sys2Proof.Machine

open Sys2Proof.Safety

/-! ### The lines on air -/

theorem State.caller_congr {s t : State} (hl : t.lines = s.lines) (m : Fin 6) : t.caller m = s.caller m := by
  rw [State.caller, hl]; rfl

theorem State.linesOnAir_congr {s t : State} (hl : t.lines = s.lines) : t.linesOnAir = s.linesOnAir := by
  simp only [State.linesOnAir, State.caller_congr hl]

theorem State.mem_linesOnAir {s : State} {l : Fin 6} : l ∈ s.linesOnAir ↔ (s.caller l).state = .onAir := by
  have hall : l ∈ allLines := by revert l; decide
  simp [State.linesOnAir, hall]

theorem State.linesOnAir_nodup (s : State) : s.linesOnAir.Nodup :=
  List.Nodup.filter _ (by decide : allLines.Nodup)

theorem State.linesOnAir_eq_nil {s : State} : s.linesOnAir = [] ↔ ∀ l, (s.caller l).state ≠ .onAir := by
  simp only [List.eq_nil_iff_forall_not_mem, State.mem_linesOnAir, ne_eq]

/-- Only one line is on air where no other one is. -/
theorem State.linesOnAir_singleton {s : State} {l : Fin 6} (hl : (s.caller l).state = .onAir)
    (h : ∀ m, m ≠ l → (s.caller m).state ≠ .onAir) : s.linesOnAir = [l] := by
  refine List.perm_singleton.mp ((List.perm_ext_iff_of_nodup s.linesOnAir_nodup (List.nodup_singleton l)).mpr fun m => ?_)
  rw [State.mem_linesOnAir, List.mem_singleton]
  constructor
  · exact fun hm => by_contra fun hne => h m hne hm
  · rintro rfl; exact hl

/-! ### A line enters and leaves ON_AIR (R117, R118, R122) -/

theorem State.caller_enterOnAir (s : State) (l m : Fin 6) :
    (s.enterOnAir l).caller m = if m = l then WentOnAir s l else s.caller m :=
  State.caller_putCaller (s.leaveQueue l) l m _

theorem State.enterOnAir_queue (s : State) (l : Fin 6) :
    (s.enterOnAir l).lines.queue = s.lines.queue.filter (· ≠ l) := rfl

theorem State.enterOnAir_segment (s : State) (l : Fin 6) :
    (s.enterOnAir l).lines.segment = s.lines.segment.map fun g => { g with seen := true } := rfl

theorem State.caller_enterHold (s : State) (l m : Fin 6) (v : Bool) :
    (s.enterHold l v).caller m = if m = l then
      { s.caller l with state := .hold, airTime := (s.caller l).airTimeAt s.clock.mono, airSince := none,
                        holdTimer := some (s.clock.mono + s.lines.holdLimit * 60000), restore := v }
      else s.caller m :=
  State.caller_putCaller s l m _

/-- The end action leaves each line that it was not applied to (R122). -/
theorem State.caller_endActionOn (a : EndAction) (s : State) (l m : Fin 6) :
    (State.endActionOn a s l).caller m = if m = l then AfterSegment s l a else s.caller m := by
  cases a with
  | hold => exact State.caller_enterHold s l m false
  | release => exact State.caller_putCaller (s.leaveQueue l) l m _

theorem State.endActionOn_holdLimit (a : EndAction) (s : State) (l : Fin 6) :
    (State.endActionOn a s l).lines.holdLimit = s.lines.holdLimit := by
  cases a <;> rfl

/-- The end action applied to lines in turn reaches each of them once (R122). -/
theorem State.caller_endActions (a : EndAction) (ls : List (Fin 6)) (hnd : ls.Nodup) (s : State) (m : Fin 6) :
    (ls.foldl (State.endActionOn a) s).caller m = if m ∈ ls then AfterSegment s m a else s.caller m := by
  induction ls generalizing s with
  | nil => rfl
  | cons l rest ih =>
    obtain ⟨hl, hrest⟩ := List.nodup_cons.mp hnd
    rw [List.foldl_cons, ih hrest]
    by_cases hm : m = l
    · subst hm
      simp [hl, State.caller_endActionOn]
    · have hafter : AfterSegment (State.endActionOn a s l) m a = AfterSegment s m a := by
        have hclock : (State.endActionOn a s l).clock = s.clock := by simp
        simp only [AfterSegment, State.caller_endActionOn, hm, if_false, hclock, State.endActionOn_holdLimit]
      simp [hm, hafter, State.caller_endActionOn]

/-- A segment's end applies its end action to the lines ON_AIR and leaves no segment active (R122). -/
theorem State.endSegment_callers {s : State} {g : Segment} (hg : s.lines.segment = some g) :
    s.endSegment.lines.segment = none ∧
      ∀ m, s.endSegment.caller m =
        if (s.caller m).state = .onAir then AfterSegment s m g.part.endAction else s.caller m := by
  simp only [State.endSegment, hg, true_and]
  intro m
  refine (State.caller_endActions g.part.endAction s.linesOnAir s.linesOnAir_nodup s m).trans ?_
  simp only [State.mem_linesOnAir]

/-! ### The callers that a PHONE entry takes (R120) -/

/-- Whether selection passes over a line. -/
def Caller.passedOver (c : Caller) : Bool := c.pinned || c.overdue

/-- From `s` to `u` the lines of a list have gone on air one after the other. -/
def CallersTaken (s u : State) (ls : List (Fin 6)) : Prop :=
  (∀ m, u.caller m = if m ∈ ls then WentOnAir s m else s.caller m) ∧
  u.lines.queue = s.lines.queue.filter (fun m => m ∉ ls) ∧
  u.lines.segment = if ls = [] then s.lines.segment else s.lines.segment.map fun g => { g with seen := true }

theorem CallersTaken.nil (s : State) : CallersTaken s s [] := by
  simp [CallersTaken]

/-- A line that went on air first belongs to the lines taken. -/
theorem CallersTaken.cons {s u : State} {l : Fin 6} {ls : List (Fin 6)} (h : CallersTaken (s.enterOnAir l) u ls) :
    CallersTaken s u (l :: ls) := by
  obtain ⟨hcaller, hqueue, hseg⟩ := h
  have hwent (m : Fin 6) : WentOnAir (s.enterOnAir l) m = WentOnAir s m := by
    simp only [WentOnAir, State.caller_enterOnAir, State.enterOnAir_clock]
    split
    · rename_i h; rw [h]
    · rfl
  refine ⟨fun m => ?_, ?_, ?_⟩
  · rw [hcaller, hwent, State.caller_enterOnAir]
    by_cases hm : m = l
    · simp [hm]
    · simp [hm]
  · rw [hqueue, State.enterOnAir_queue, List.filter_filter]
    refine List.filter_congr fun m _ => ?_
    simp [Bool.and_comm]
  · rw [hseg, State.enterOnAir_segment, if_neg (List.cons_ne_nil _ _), Option.map_map]
    exact ite_self _

/-- Selection takes, in the order of the queue, the first lines that it does not pass over (R120). -/
theorem State.selectCallers_taken (n : Nat) (queue : List (Fin 6)) (s : State) :
    CallersTaken s (State.selectCallers n queue s)
      ((queue.filter fun l => !(s.caller l).passedOver).take n) := by
  induction queue generalizing n s with
  | nil => cases n <;> exact CallersTaken.nil s
  | cons l rest ih =>
    cases n with
    | zero => exact CallersTaken.nil s
    | succ n =>
      unfold State.selectCallers
      by_cases hl : (s.caller l).passedOver = true
      · have hl' : ((s.caller l).pinned || (s.caller l).overdue) = true := hl
        simp only [hl', if_true, hl, List.filter_cons, Bool.not_true, Bool.false_eq_true, if_false]
        exact ih _ _
      · have hl' : ¬((s.caller l).pinned || (s.caller l).overdue) = true := hl
        have hpass (m : Fin 6) : ((s.enterOnAir l).caller m).passedOver = (s.caller m).passedOver := by
          rw [State.caller_enterOnAir]
          split
          · rename_i hm
            simp only [hm, Bool.not_eq_true] at hl ⊢
            rw [hl]; rfl
          · rfl
        have hrest := ih n (s.enterOnAir l)
        simp only [hpass] at hrest
        simp only [hl', hl, List.filter_cons, Bool.not_false, if_true, List.take_succ_cons]
        exact CallersTaken.cons hrest

/-- After a selection no line is on air exactly where none was and none was taken. -/
theorem CallersTaken.linesOnAir_eq_nil {s u : State} {ls : List (Fin 6)} (h : CallersTaken s u ls) :
    u.linesOnAir = [] ↔ s.linesOnAir = [] ∧ ls = [] := by
  obtain ⟨hcaller, -, -⟩ := h
  simp only [State.linesOnAir_eq_nil, hcaller]
  constructor
  · intro hnone
    have hls : ls = [] := List.eq_nil_iff_forall_not_mem.mpr fun m hm => hnone m (by simp [hm, WentOnAir])
    exact ⟨by simpa [hls] using hnone, hls⟩
  · rintro ⟨hnone, rfl⟩
    simpa using hnone

/-- A PHONE entry's start opens its segment with the seen flag set where a line is on air, takes callers from the queue,
and raises PHONE_EMPTY where callers were wanted and none is on air (R120). -/
theorem State.startSegment_callers (s : State) (h : Nat) (part : PhonePart) :
    (∀ m, (s.startSegment h part).caller m = if m ∈ TakenCallers s part then WentOnAir s m else s.caller m) ∧
    (s.startSegment h part).lines.queue = s.lines.queue.filter (fun m => m ∉ TakenCallers s part) ∧
    (s.startSegment h part).lines.segment =
      some { handle := h, part, seen := !(s.startSegment h part).linesOnAir.isEmpty, suspended := false } ∧
    (s.startSegment h part).occurrence .phoneEmpty =
      if 0 < part.callers ∧ (s.startSegment h part).linesOnAir = []
      then { count := countUp 255 (s.occurrence .phoneEmpty).count, detail := some (.phoneEmpty h) }
      else s.occurrence .phoneEmpty := by
  let t : State := { s with lines := { s.lines with
    segment := some { handle := h, part, seen := !s.linesOnAir.isEmpty, suspended := false } } }
  obtain ⟨u, hu⟩ : ∃ u, u = State.selectCallers (min part.callers (2 - t.linesOnAir.length)) t.lines.queue t := ⟨_, rfl⟩
  have htaken : CallersTaken t u (TakenCallers s part) := hu ▸ State.selectCallers_taken _ _ t
  have hstart : s.startSegment h part =
      if 0 < part.callers ∧ u.linesOnAir.isEmpty = true then u.raise .phoneEmpty (some (.phoneEmpty h)) else u := by
    rw [hu]; rfl
  have hlines : (s.startSegment h part).lines = u.lines := by rw [hstart]; split <;> rfl
  have hon := State.linesOnAir_congr hlines
  have hevents : u.events = s.events := by simp [hu, t]
  obtain ⟨hcallers, hqueue, hseg⟩ := id htaken
  refine ⟨fun m => (State.caller_congr hlines m).trans (hcallers m), by rw [hlines]; exact hqueue, ?_, ?_⟩
  · have hseen : u.linesOnAir.isEmpty = (s.linesOnAir.isEmpty && (TakenCallers s part).isEmpty) := by
      have hiff := CallersTaken.linesOnAir_eq_nil htaken
      have hsame : t.linesOnAir = s.linesOnAir := rfl
      rw [Bool.eq_iff_iff]
      simpa [hsame] using hiff
    rw [hlines, hon, hseg, hseen]
    split
    · rename_i hnil; simp [t, hnil]
    · rename_i hne; simp [t, hne]
  · rw [hon, hstart]
    simp only [List.isEmpty_iff]
    split
    · rw [State.occurrence_raise_self, State.occurrence_congr hevents]
    · exact State.occurrence_congr hevents _

/-- The callers and the places that selection looks at are those of the lines (R120). -/
theorem takenCallers_congr {s t : State} (hl : t.lines = s.lines) (hc : t.clock = s.clock) (part : PhonePart) :
    TakenCallers t part = TakenCallers s part ∧ ∀ m, WentOnAir t m = WentOnAir s m := by
  refine ⟨?_, fun m => ?_⟩
  · simp only [TakenCallers, State.linesOnAir_congr hl, State.caller_congr hl, hl]
  · simp only [WentOnAir, State.caller_congr hl, hc]

/-! ### The last caller (R118, R121) -/

/-- LINE_DROP of a line on air is accepted where its last-caller test comes to rest (R118, R121). -/
theorem exec_lineDrop_accepted {s t : State} {l : Fin 6} (hp : portFree s) (hl : (s.caller l).state = .onAir)
    (ht : (s.enterHold l (s.caller l).restore).testLastCaller = some t) :
    exec (.lineDrop .presenter (l.val + 1)) s = .next (t.answer 0x45 (.ok [])) := by
  refine request_owner (owner := dropCaller (l.val + 1)) hp rfl ?_
  have hline : readLine (l.val + 1) = some l := readIndex_succ l
  simp [dropCaller, onLine, hline, hl, ht, accepted]

/-- A line that leaves ON_AIR is no last caller while the segment does not ask for it or another line stays (R121). -/
theorem State.lastCallerGone_enterHold {s : State} {l : Fin 6} (hl : (s.caller l).state = .onAir)
    (hg : ∀ g, s.lines.segment = some g →
      g.part.endOnLast = false ∨ g.suspended = true ∨ g.seen = false ∨ s.linesOnAir ≠ [l]) (v : Bool) :
    (s.enterHold l v).lastCallerGone = none := by
  have hseg : (s.enterHold l v).lines.segment = s.lines.segment := rfl
  unfold State.lastCallerGone
  rw [hseg]
  split
  · rename_i g hsome
    refine if_neg fun hgone => ?_
    simp only [Bool.and_eq_true, Bool.not_eq_true', List.isEmpty_iff, State.linesOnAir_eq_nil] at hgone
    obtain ⟨⟨⟨hsusp, hend⟩, hseen⟩, hnone⟩ := hgone
    have honly : s.linesOnAir = [l] := State.linesOnAir_singleton hl fun m hm => by
      simpa [State.caller_enterHold, hm] using hnone m
    obtain h | h | h | h := hg g hsome
    · simp [hend] at h
    · simp [hsusp] at h
    · simp [hseen] at h
    · exact h honly
  · rfl

/-- The only line on air, once on hold, leaves none on air. -/
theorem State.linesOnAir_enterHold {s : State} {l : Fin 6} (h : s.linesOnAir = [l]) (v : Bool) :
    (s.enterHold l v).linesOnAir = [] := by
  refine State.linesOnAir_eq_nil.mpr fun m hm => ?_
  rw [State.caller_enterHold] at hm
  split at hm
  · cases hm
  · rename_i hne
    have hmem : m ∈ s.linesOnAir := State.mem_linesOnAir.mpr hm
    rw [h, List.mem_singleton] at hmem
    exact hne hmem

/-- The last PHONE entry on air ended COMPLETE: its segment is ended with it, and the sequencer stops (R51, R54, R122). -/
theorem State.endOnAir_phone {s : State} {o : OnAir} {r e : Resolved} {h : Nat} {ls : ListId} {timed : Bool}
    {part : PhonePart} {item : ItemFields} (hlast : LastBeforeEnd s o r e) (hk : KeptAtEnd s h)
    (hs : o.source = .item h ls (.phone timed part item)) (hp : o.player = none) :
    ∃ t, s.endOnAir .complete = some t ∧ t.air.state = .stopped ∧ t.air.onAir = none ∧
      t.air.lastEnding = some (h, .complete) ∧ t.lines = s.endSegment.lines := by
  obtain ⟨hend, hrel⟩ := State.endOnAir_last hlast hs hk
  have hparts : s.stopParts o = s.endSegment := by simp [State.stopParts, hp, hs]
  rw [hparts] at hend hrel
  obtain ⟨-, hstate, hon, hending, -⟩ := Released.stopped hrel
  exact ⟨_, hend, hstate, hon, hending, by simp⟩

/-! ### A PHONE head goes on air (R50, R120) -/

/-- The head taken and started as a PHONE entry (R50). -/
def State.startedPhone (s : State) (r : Resolved) (timed : Bool) (part : PhonePart) : State :=
  ((s.takeHeld r (.playing s.clock.mono s.clock.station)).startSegment r.source.handle part).startPlain timed

/-- The on-air record and the lines of a PHONE entry that has started (R50, R120). -/
theorem State.startedPhone_started (s : State) {r : Resolved} {h : Nat} {l : ListId} {b : Body} (timed : Bool)
    (part : PhonePart) (hs : r.source = .item h l b) :
    (s.startedPhone r timed part).air.state = .running ∧
    (s.startedPhone r timed part).air.onAir = some
      { source := r.source, iteration := r.iteration, phase := .playing s.clock.mono s.clock.station, player := none,
        frozen := r.effective, segue := r.segue,
        endTimer := if timed then some (s.clock.mono + r.effective) else none, seguePoint := none } ∧
    (∀ m, (s.startedPhone r timed part).caller m = if m ∈ TakenCallers s part then WentOnAir s m else s.caller m) ∧
    (s.startedPhone r timed part).lines.queue = s.lines.queue.filter (fun m => m ∉ TakenCallers s part) ∧
    (s.startedPhone r timed part).lines.segment =
      some { handle := h, part, seen := !(s.startedPhone r timed part).linesOnAir.isEmpty, suspended := false } ∧
    (s.startedPhone r timed part).occurrence .phoneEmpty =
      if 0 < part.callers ∧ (s.startedPhone r timed part).linesOnAir = []
      then { count := countUp 255 (s.occurrence .phoneEmpty).count, detail := some (.phoneEmpty h) }
      else s.occurrence .phoneEmpty := by
  obtain ⟨v, hv⟩ : ∃ v, v = s.takeHeld r (.playing s.clock.mono s.clock.station) := ⟨_, rfl⟩
  have hvlines : v.lines = s.lines := by simp [hv]
  have hvclock : v.clock = s.clock := by simp [hv]
  have hvocc : v.occurrence .phoneEmpty = s.occurrence .phoneEmpty := State.occurrence_congr (by simp [hv]) _
  have hvair : v.air.state = .running ∧
      v.air.onAir = some (OnAir.taken r (.playing s.clock.mono s.clock.station)) := by simp [hv]
  obtain ⟨hvstate, hvon⟩ := hvair
  have hhandle : r.source.handle = h := by rw [hs]; rfl
  obtain ⟨htaken, hwent⟩ := takenCallers_congr hvlines hvclock part
  obtain ⟨hcallers, hqueue, hseg, hocc⟩ := v.startSegment_callers h part
  have hstart : s.startedPhone r timed part = ((v.startSegment h part).putOnAir (some
      { OnAir.taken r (.playing s.clock.mono s.clock.station) with
        endTimer := if timed then some (s.clock.mono + r.effective) else none })).entryStarted := by
    rw [State.startedPhone, ← hv, hhandle,
      State.startPlain_taken (phase := .playing s.clock.mono s.clock.station) (by simpa using hvon)]
    simp [hvclock]
  have hlines : (s.startedPhone r timed part).lines = (v.startSegment h part).lines := by rw [hstart]; simp
  refine ⟨?_, ?_, fun m => ?_, ?_, ?_, ?_⟩
  · rw [hstart]; simp [hvstate]
  · rw [hstart]; simp [State.putOnAir, OnAir.taken]
  · rw [State.caller_congr hlines, hcallers, htaken, hwent, State.caller_congr hvlines]
  · rw [hlines, hqueue, htaken, hvlines]
  · rw [State.linesOnAir_congr hlines, hlines, hseg]
  · rw [State.linesOnAir_congr hlines, ← hvocc, ← hocc, hstart, State.entryStarted_occurrence _ (by decide) (by decide),
      State.putOnAir_occurrence]

/-! ### The statement -/

/-- Settles O44: a line's own commands write its record; a PHONE entry's start selects callers, its end applies the end
action, and the last caller's leaving ends it. -/
theorem callersGoOnAirAndHold : Obligations.CallersGoOnAirAndHold := by
  unfold Obligations.CallersGoOnAirAndHold
  refine ⟨fun s l => ⟨fun hp hl hno hplace => ?take, fun hp hl hg => ?drop, fun x hl hx hdue => ?overdue⟩,
    fun s r h ls timed part item hp hstate hdem hw hr hd hs hlive => ?start,
    fun s o r e h ls timed part item g hp hlast hk hstate hs hplayer hg =>
      ⟨?ended, fun l hon hhandle hsusp hend hseen => ?last⟩⟩
  case take =>
    have hline : readLine (l.val + 1) = some l := readIndex_succ l
    refine ⟨(s.enterOnAir l).answer 0x44 (.ok []), request_owner (owner := takeCaller (l.val + 1)) hp rfl ?_, rfl,
      (State.caller_enterOnAir s l l).trans (if_pos rfl), rfl,
      fun m hm => (State.caller_enterOnAir s l m).trans (if_neg hm), rfl⟩
    obtain hx | hx := hl <;> simp [takeCaller, onLine, hline, hx, hno, hplace, accepted]
  case drop =>
    refine exec_lineDrop_accepted hp hl ?_
    rw [State.testLastCaller, State.lastCallerGone_enterHold hl hg]
    rfl
  case overdue =>
    have hheld : (decide ((s.caller l).state = .ready) || decide ((s.caller l).state = .hold)) = true := by simpa using hl
    change execHoldTimer l s = _
    rw [execHoldTimer, if_pos (by simp [State.holdDue, hheld, hx, reached, hdue])]
  case start =>
    obtain ⟨hrun, hair, hcallers, hqueue, hseg, hocc⟩ := s.startedPhone_started timed part hs
    refine ⟨_, exec_airStart_started rfl hp hstate hdem hw hr hd hs hlive (u := s.startedPhone r timed part) rfl, hrun,
      hair, hcallers, hqueue, hseg, fun hwant hnone => ?_, fun hno => ?_⟩
    · have hempty := hocc.trans (if_pos ⟨hwant, hnone⟩)
      exact ⟨congrArg OccRecord.detail hempty, congrArg OccRecord.count hempty⟩
    · refine hocc.trans (if_neg fun hboth => ?_)
      obtain ⟨hwant, hnone⟩ := hboth
      obtain h0 | hne := hno
      · omega
      · exact hne hnone
  case ended =>
    obtain ⟨t, ht, hstopped, hon, hending, hlines⟩ := State.endOnAir_phone hlast hk hs hplayer
    obtain ⟨hnone, hcallers⟩ := State.endSegment_callers hg
    refine ⟨t.answer 0x22 (.ok []), request_owner (owner := endAirSegment) hp rfl ?_, hstopped, hon, hending,
      (congrArg Lines.segment hlines).trans hnone, fun m => (State.caller_congr hlines m).trans (hcallers m)⟩
    simp [endAirSegment, State.segmentOnAir, hlast.1, hs, ht, accepted]
  case last =>
    have hl : (s.caller l).state = .onAir := State.mem_linesOnAir.mp (by simp [hon])
    obtain ⟨u, hu⟩ : ∃ u, u = s.enterHold l (s.caller l).restore := ⟨_, rfl⟩
    have hcaller (m : Fin 6) := s.caller_enterHold l m (s.caller l).restore
    rw [← hu] at hcaller
    have hnone : u.linesOnAir = [] := hu ▸ State.linesOnAir_enterHold hon _
    have hug : u.lines.segment = some g := hu ▸ hg
    have hulast : LastBeforeEnd u o r e := by simpa [hu, LastBeforeEnd] using hlast
    have huk : KeptAtEnd u h := by simpa [hu, KeptAtEnd] using hk
    obtain ⟨t, ht, hstopped, hout, hending, hlines⟩ := State.endOnAir_phone hulast huk hs hplayer
    have htest : u.testLastCaller = some t := by
      simp [State.testLastCaller, State.lastCallerGone, hug, hsusp, hend, hseen, hnone, State.reportLastCaller, hulast.1,
        hs, hhandle, ht]
    obtain ⟨hgone, hcallers⟩ := State.endSegment_callers hug
    have hkept (m : Fin 6) : t.caller m = u.caller m := by
      rw [State.caller_congr hlines, hcallers]
      exact if_neg (State.linesOnAir_eq_nil.mp hnone m)
    refine ⟨t.answer 0x45 (.ok []), exec_lineDrop_accepted hp hl (hu ▸ htest), hstopped, hout, hending,
      (congrArg Lines.segment hlines).trans hgone, ?_, ?_, fun m hm => (hkept m).trans ((hcaller m).trans (if_neg hm))⟩
    · exact congrArg Caller.state ((hkept l).trans ((hcaller l).trans (if_pos rfl)))
    · exact State.linesOnAir_eq_nil.mpr fun m => (hkept m) ▸ State.linesOnAir_eq_nil.mp hnone m

end Sys2Proof.Machine
end

section
/-! PROOFS. The back-timer's computation by its stages (R69 to R81), and the periodic timer that makes it. -/

namespace Sys2Proof.Machine

open Sys2Proof.Safety

/-! ### A walk from the end of a list, read by its places -/

/-- What a walk over the reversed list gives a place from what stands before it, a walk from the end gives from what
stands after it. -/
theorem getElem?_reverse_of_walk {α β : Type} {l : List α} {m : List β} {g : List α → α → β}
    (h : ∀ i, m[i]? = l.reverse[i]?.map (g (l.reverse.take i))) (i : Nat) :
    m.reverse[i]? = l[i]?.map (g (l.drop (i + 1)).reverse) := by
  have hnone (i : Nat) : m.length ≤ i ↔ l.length ≤ i := by
    simpa using congrArg (· = none) (h i)
  have hlen : m.length = l.length := le_antisymm ((hnone _).mpr le_rfl) ((hnone _).mp le_rfl)
  by_cases hi : i < l.length
  · rw [List.getElem?_reverse (by omega), h, List.getElem?_reverse (by omega), List.take_reverse, hlen,
      show l.length - 1 - (l.length - 1 - i) = i by omega, show l.length - (l.length - 1 - i) = i + 1 by omega]
  · rw [List.getElem?_eq_none (by simpa [hlen] using hi), List.getElem?_eq_none (by simpa using hi)]
    rfl

/-! ### The stretch shares (R79) -/

/-- Whether a share is below its capacity. -/
def hasRoom (p : Nat × Nat) : Bool := decide (p.1 < p.2)

/-- A share after one walk of a remainder: one ms more where it has room and those before it left an ms. -/
def walkedShare (r : Nat) (before : List (Nat × Nat)) (p : Nat × Nat) : Nat × Nat :=
  (p.1 + (if hasRoom p = true ∧ before.countP hasRoom < r then 1 else 0), p.2)

theorem walkedShare_cons (r : Nat) (q : Nat × Nat) (before : List (Nat × Nat)) :
    walkedShare (r + 1) (q :: before) = walkedShare (if hasRoom q = true then r else r + 1) before := by
  funext p
  by_cases h : hasRoom q = true <;> simp [walkedShare, h]

theorem handOutOnce_getElem? (r : Nat) (l : List (Nat × Nat)) (i : Nat) :
    (handOutOnce r l).2[i]? = l[i]?.map (walkedShare r (l.take i)) := by
  induction l generalizing r i with
  | nil => cases r <;> rfl
  | cons p rest ih =>
    obtain ⟨a, c⟩ := p
    cases r with
    | zero => cases h : ((a, c) :: rest)[i]? <;> simp [handOutOnce, walkedShare, h]
    | succ r =>
      by_cases hroom : a < c
      · cases i with
        | zero => simp [handOutOnce, walkedShare, hasRoom, hroom]
        | succ i => simp [handOutOnce, walkedShare_cons, hasRoom, hroom, ih]
      · cases i with
        | zero => simp [handOutOnce, walkedShare, hasRoom, hroom]
        | succ i => simp [handOutOnce, walkedShare_cons, hasRoom, hroom, ih]

theorem handOutOnce_left (r : Nat) (l : List (Nat × Nat)) : (handOutOnce r l).1 = r - l.countP hasRoom := by
  induction l generalizing r with
  | nil => cases r <;> rfl
  | cons p rest ih =>
    obtain ⟨a, c⟩ := p
    cases r with
    | zero => simp [handOutOnce]
    | succ r => by_cases hroom : a < c <;> simp [handOutOnce, hasRoom, hroom, ih]

theorem handOut_zero (fuel : Nat) (l : List (Nat × Nat)) : handOut fuel 0 l = l := by
  cases fuel <;> rfl

/-- Where as many shares have room as the remainder has ms, one walk hands it out. -/
theorem handOut_of_le {r : Nat} {l : List (Nat × Nat)} (h : r ≤ l.countP hasRoom) :
    handOut r r l = (handOutOnce r l).2 := by
  cases r with
  | zero => cases l <;> rfl
  | succ r =>
    have hleft : (handOutOnce (r + 1) l).1 = 0 := by rw [handOutOnce_left]; omega
    simp [handOut, hleft, handOut_zero]

/-- The base shares of an amount among capacities, each with its capacity. -/
def baseShares (amount : Nat) (caps : List Nat) : List (Nat × Nat) := caps.map fun c => (amount * c / caps.sum, c)

/-- What the base shares leave of the amount, in units of the total, is their fractions; a share without room has none. -/
theorem baseShares_left {amount total : Nat} (hle : amount ≤ total) (htotal : 0 < total) (caps : List Nat) :
    amount * caps.sum ≤
      (caps.map fun c => amount * c / total).sum * total + caps.countP (fun c => decide (amount * c / total < c)) * total := by
  induction caps with
  | nil => simp
  | cons c rest ih =>
    have hdiv : total * (amount * c / total) + amount * c % total = amount * c := Nat.div_add_mod _ _
    have hmod : amount * c % total < total := Nat.mod_lt _ htotal
    simp only [List.sum_cons, List.map_cons, List.countP_cons]
    by_cases hroom : amount * c / total < c
    · simp only [hroom, decide_true, if_true]
      nlinarith
    · have hge : total * c ≤ total * (amount * c / total) := Nat.mul_le_mul_left _ (not_lt.mp hroom)
      have hac : amount * c ≤ total * c := Nat.mul_le_mul_right _ hle
      simp only [hroom, decide_false, Bool.false_eq_true, if_false]
      nlinarith

/-- An amount that the capacities can hold leaves the base shares no more ms than shares with room. -/
theorem baseShares_left_le {amount : Nat} {caps : List Nat} (hle : amount ≤ caps.sum) (htotal : 0 < caps.sum) :
    amount - (caps.map fun c => amount * c / caps.sum).sum ≤ (baseShares amount caps).countP hasRoom := by
  have hsum := baseShares_left hle htotal caps
  have hcount : (baseShares amount caps).countP hasRoom =
      caps.countP fun c => decide (amount * c / caps.sum < c) := by
    rw [baseShares, List.countP_map]; rfl
  rw [hcount]
  rw [← Nat.add_mul] at hsum
  exact Nat.sub_le_iff_le_add'.mpr (Nat.le_of_mul_le_mul_right hsum htotal)

/-- Each share is its base share, and one ms more where the walk from the post back finds room for it (R79). -/
theorem stretchShares_getElem? {amount : Nat} {caps : List Nat} (hle : amount ≤ caps.sum) {i : Nat}
    (hi : i < caps.length) : (stretchShares amount caps)[i]? = some (shareAt amount caps i) := by
  by_cases htotal : caps.sum = 0
  · have hzero : ∀ c ∈ caps, c = 0 := List.sum_eq_zero_iff.mp htotal
    have hc : caps[i] = 0 := hzero _ (List.getElem_mem hi)
    simp [stretchShares, shareAt, htotal, hi, hc]
  · have hleft := baseShares_left_le hle (Nat.pos_of_ne_zero htotal)
    have hbase : (baseShares amount caps).map Prod.fst = caps.map fun c => amount * c / caps.sum := by
      simp [baseShares]
    have hshares : stretchShares amount caps =
        ((handOutOnce (amount - (caps.map fun c => amount * c / caps.sum).sum)
          (baseShares amount caps).reverse).2.reverse).map Prod.fst := by
      rw [← handOut_of_le (by simpa using hleft), ← hbase, stretchShares, if_neg htotal]
      rfl
    rw [hshares, List.getElem?_map, getElem?_reverse_of_walk (l := baseShares amount caps) (handOutOnce_getElem? _ _)]
    simp [walkedShare, baseShares, shareAt, hi, hasRoom, ← List.map_drop, List.countP_map, Function.comp_def]

/-- No share exceeds its capacity (R79). -/
theorem shareAt_le {amount : Nat} {caps : List Nat} (hle : amount ≤ caps.sum) {i c : Nat} (hc : caps[i]? = some c) :
    shareAt amount caps i ≤ c := by
  have hbase : amount * c / caps.sum ≤ c := by
    refine Nat.div_le_of_le_mul ?_
    exact Nat.mul_le_mul_right _ hle
  simp only [shareAt, List.getD_eq_getElem?_getD, hc, Option.getD_some, decide_eq_true_eq]
  split
  · rename_i h; exact h.1
  · exact hbase

/-! ### The lengths, shares of the projection and rooms of an entry (R72, R76 to R78) -/

theorem Resolved.cleared_eq (r : Resolved) : r.cleared = { r with effective := plannedLength r, dropMark := false } := by
  obtain ⟨source, _⟩ := r
  cases source <;> rfl

theorem Resolved.contribution_eq : Resolved.contribution = projected := by
  funext r
  obtain ⟨source, _⟩ := r
  cases source with
  | item h l b => cases b <;> rfl
  | hold _ _ => rfl
  | endMark _ => rfl
  | alert _ => rfl

theorem Resolved.isDrop_eq : Resolved.isDrop = fun r => decide (timingOf r = some .drop) := by
  funext r
  obtain ⟨source, _⟩ := r
  cases source with
  | item h l b => cases b <;> simp [Resolved.isDrop, Resolved.item?, Source.body?, timingOf, Body.item?]
  | hold _ _ => rfl
  | endMark _ => rfl
  | alert _ => rfl

/-- The item fields of an entry give its planned length and its timing class. -/
theorem Resolved.item?_cases (r : Resolved) :
    (r.item? = none ∧ timingOf r = none) ∨
      ∃ i, r.item? = some i ∧ timingOf r = some i.timing ∧ plannedLength r = i.planned := by
  obtain ⟨source, _⟩ := r
  cases source with
  | item h l b =>
    cases hb : b.item? with
    | none => exact .inl (by simp [Resolved.item?, Source.body?, timingOf, hb])
    | some i => exact .inr ⟨i, by simp [Resolved.item?, Source.body?, timingOf, plannedLength, hb]⟩
  | hold _ _ => exact .inl ⟨rfl, rfl⟩
  | endMark _ => exact .inl ⟨rfl, rfl⟩
  | alert _ => exact .inl ⟨rfl, rfl⟩

theorem Resolved.shrinkCap_eq : Resolved.shrinkCap = roomOf .shrink := by
  funext r
  obtain ⟨hi, ht⟩ | ⟨i, hi, ht, hp⟩ := r.item?_cases
  · simp [Resolved.shrinkCap, roomOf, hi, ht]
  · cases htiming : i.timing <;> simp [Resolved.shrinkCap, roomOf, hi, ht, hp, htiming]

theorem Resolved.extendCap_eq : Resolved.extendCap = roomOf .extend := by
  funext r
  obtain ⟨hi, ht⟩ | ⟨i, hi, ht, hp⟩ := r.item?_cases
  · simp [Resolved.extendCap, roomOf, hi, ht]
  · cases htiming : i.timing <;> simp [Resolved.extendCap, roomOf, hi, ht, hp, htiming]

theorem roomOf_shrink_le (r : Resolved) : roomOf .shrink r ≤ plannedLength r := by
  simp only [roomOf]
  split <;> simp_all

/-! ### The drops (R77) -/

/-- Whether an entry is of class DROP and the float, with the shrink capacity and the DROP entries nearer the post, stays
below minus the tolerance. -/
def dropsAt (tolerance sd : Nat) (float : Int) (nearer : List Resolved) (r : Resolved) : Bool :=
  decide (timingOf r = some .drop ∧
    float + sd + ((nearer.filter fun q => decide (timingOf q = some .drop)).map projected).sum < -(tolerance : Int))

/-- An entry with the mark that the walk of the drops gives it. -/
def markedDrop (tolerance sd : Nat) (float : Int) (nearer : List Resolved) (r : Resolved) : Resolved :=
  if dropsAt tolerance sd float nearer r = true then { r with dropMark := true } else r

/-- Once an entry of class DROP stays, so does every one farther from the post. -/
theorem markedDrop_cons (tolerance sd : Nat) (float : Int) (q : Resolved) (nearer : List Resolved) :
    markedDrop tolerance sd float (q :: nearer) = markedDrop tolerance sd
      (if q.isDrop = true ∧ float + sd < -(tolerance : Int) then float + q.contribution else float) nearer := by
  funext r
  unfold markedDrop
  refine if_congr ?_ rfl rfl
  simp only [dropsAt, decide_eq_true_eq]
  refine and_congr_right fun _ => ?_
  have hsum : (((q :: nearer).filter fun r => decide (timingOf r = some .drop)).map projected).sum =
      (if timingOf q = some .drop then projected q else 0) +
        ((nearer.filter fun r => decide (timingOf r = some .drop)).map projected).sum := by
    by_cases hq : timingOf q = some .drop <;> simp [hq]
  rw [hsum, Resolved.isDrop_eq, Resolved.contribution_eq]
  generalize ((nearer.filter fun r => decide (timingOf r = some .drop)).map projected).sum = n
  by_cases hq : timingOf q = some .drop
  · by_cases hf : float + sd < -(tolerance : Int)
    · simp only [hq, hf, decide_true, and_self, if_true]
      omega
    · simp only [hq, hf, decide_true, and_false, if_true, if_false]
      omega
  · simp [hq]

/-- The walk from the post back marks each entry by the DROP entries before it on the walk. -/
theorem markDrops_getElem? (tolerance sd : Nat) (f : Int) (l : List Resolved) (i : Nat) :
    (markDrops tolerance sd f l).2[i]? = l[i]?.map (markedDrop tolerance sd f (l.take i)) := by
  induction l generalizing f i with
  | nil => rfl
  | cons r rest ih =>
    by_cases h : r.isDrop = true ∧ f + sd < -(tolerance : Int)
    · cases i with
      | zero =>
        obtain ⟨hd, hf⟩ := h
        have hd' : timingOf r = some .drop := by simpa [Resolved.isDrop_eq] using hd
        simp [markDrops, hd, hf, markedDrop, dropsAt, hd']
      | succ i =>
        obtain ⟨hd, hf⟩ := h
        simp [markDrops, ih, markedDrop_cons, hd, hf]
    · cases i with
      | zero =>
        have hd : ¬ dropsAt tolerance sd f [] r = true := by
          simpa [dropsAt, Resolved.isDrop_eq] using h
        simp [markDrops, h, markedDrop, hd]
      | succ i => simp [markDrops, ih, markedDrop_cons, h]

/-- The float after the walk is the float and what the marked entries added to the projection. -/
theorem markDrops_float (tolerance sd : Nat) (f : Int) {l : List Resolved} (hl : ∀ r ∈ l, r.dropMark = false) :
    (markDrops tolerance sd f l).1 =
      f + (((markDrops tolerance sd f l).2.filter Resolved.dropMark).map projected).sum := by
  induction l generalizing f with
  | nil => simp [markDrops]
  | cons r rest ih =>
    have hrest := fun f => ih f fun q hq => hl q (List.mem_cons_of_mem _ hq)
    by_cases h : r.isDrop = true ∧ f + sd < -(tolerance : Int)
    · have hproj : projected { r with dropMark := true } = projected r := rfl
      simp only [markDrops, h, and_self, if_true, hrest, Resolved.contribution_eq, List.filter_cons, List.map_cons,
        List.sum_cons, hproj]
      push_cast
      omega
    · simp [markDrops, h, hrest, hl r (by simp)]

/-- With the float and the shrink capacity at minus the tolerance or above, no entry is marked. -/
theorem markDrops_of_le {tolerance sd : Nat} {f : Int} (h : -(tolerance : Int) ≤ f + sd) (l : List Resolved) :
    markDrops tolerance sd f l = (f, l) := by
  induction l with
  | nil => rfl
  | cons r rest ih => simp [markDrops, ih, not_lt.mpr h]

/-! ### Drops, then stretches (R77 to R80) -/

/-- Stages 5 and 6 in the rooms of R77 and R78: the walk of the drops always runs, and each direction has its rooms. -/
theorem adjust_eq (tolerance : Nat) (float : Int) (pending : List Resolved) :
    let m := markDrops tolerance (pending.map (roomOf .shrink)).sum float pending.reverse
    let d := stretchDirection tolerance m.1
    let caps := m.2.reverse.map (roomOf d)
    let amount := if d = .none then 0 else min m.1.natAbs caps.sum
    adjust tolerance float pending =
      { entries := m.2.reverse.zipWith (Resolved.stretched d) (stretchShares amount caps), direction := d, amount,
        drops := m.2.reverse.countP Resolved.dropMark,
        stretches := (stretchShares amount caps).countP fun a => decide (0 < a), residual := residualOf d m.1 amount } := by
  dsimp only
  have hwalk : (if float < -(tolerance : Int) then
      markDrops tolerance (pending.map (roomOf .shrink)).sum float pending.reverse else (float, pending.reverse)) =
      markDrops tolerance (pending.map (roomOf .shrink)).sum float pending.reverse := by
    split
    · rfl
    · exact (markDrops_of_le (by omega) _).symm
  unfold adjust
  simp only [Resolved.shrinkCap_eq, Resolved.extendCap_eq, hwalk]
  generalize markDrops tolerance (pending.map (roomOf .shrink)).sum float pending.reverse = m
  generalize stretchDirection tolerance m.1 = d
  cases d <;> rfl

theorem Resolved.stretched_keeps (d : Direction) (r : Resolved) (share : Nat) :
    (r.stretched d share).dropMark = r.dropMark ∧ projected (r.stretched d share) = projected r := by
  cases d <;> exact ⟨rfl, rfl⟩

/-- Stretching entries by shares keeps what the marked ones add to the projection. -/
theorem zipWith_stretched_marked (d : Direction) {l : List Resolved} {shares : List Nat}
    (h : shares.length = l.length) :
    ((l.zipWith (Resolved.stretched d) shares).filter Resolved.dropMark).map projected =
      (l.filter Resolved.dropMark).map projected := by
  induction l generalizing shares with
  | nil => rfl
  | cons r rest ih =>
    cases shares with
    | nil => simp at h
    | cons a shares =>
      obtain ⟨hmark, hproj⟩ := r.stretched_keeps d a
      have hrest := ih (shares := shares) (by simpa using h)
      by_cases hr : r.dropMark = true <;> simp [hmark, hproj, hr, hrest]

theorem countP_dropMark_eq_length (l : List Resolved) :
    l.countP Resolved.dropMark = ((l.filter Resolved.dropMark).map projected).length := by
  simp [List.countP_eq_length_filter]

/-- What two lists give place by place the same, they count the same. -/
theorem countP_eq_of_getElem? {α β : Type} {l : List α} {m : List β} {p : α → Bool} {q : β → Bool}
    (h : ∀ i : Nat, l[i]?.map p = m[i]?.map q) : l.countP p = m.countP q := by
  have hmap : l.map p = m.map q := List.ext_getElem? fun i => by simpa using h i
  calc l.countP p = (l.map p).countP id := by simp [List.countP_map]
    _ = (m.map q).countP id := by rw [hmap]
    _ = m.countP q := by simp [List.countP_map]

/-- A pending entry as the walk of the drops leaves it (R72, R77). -/
def droppedAt (tolerance : Nat) (float : Int) (pending : List Resolved) (i : Nat) (r : Resolved) : Resolved :=
  { r with
    effective := plannedLength r
    dropMark := dropsAt tolerance (pending.map (roomOf .shrink)).sum float (pending.drop (i + 1)) r }

/-- The DROP entries nearer the post count the same in the walk's order and cleared. -/
theorem dropsAt_cleared (tolerance sd : Nat) (float : Int) (nearer : List Resolved) (r : Resolved) :
    dropsAt tolerance sd float (nearer.map Resolved.cleared).reverse r.cleared =
      dropsAt tolerance sd float nearer r := by
  have hfilter : ((nearer.map Resolved.cleared).filter fun q => decide (timingOf q = some .drop)).map projected =
      (nearer.filter fun q => decide (timingOf q = some .drop)).map projected := by
    rw [List.filter_map, List.map_map]; rfl
  unfold dropsAt
  rw [List.filter_reverse, List.map_reverse, List.sum_reverse, hfilter]
  rfl

/-- The walk of the drops over the cleared pending entries. -/
theorem markDrops_cleared_getElem? (tolerance : Nat) (float : Int) (pending : List Resolved) (i : Nat) :
    (markDrops tolerance (pending.map (roomOf .shrink)).sum float (pending.map Resolved.cleared).reverse).2.reverse[i]? =
      pending[i]?.map (droppedAt tolerance float pending i) := by
  rw [getElem?_reverse_of_walk (markDrops_getElem? _ _ _ _), List.getElem?_map, Option.map_map]
  congr 1
  funext r
  have hdrops := dropsAt_cleared tolerance (pending.map (roomOf .shrink)).sum float (pending.drop (i + 1)) r
  rw [Function.comp, markedDrop, ← List.map_drop, hdrops, droppedAt, Resolved.cleared_eq]
  cases dropsAt tolerance (pending.map (roomOf .shrink)).sum float (pending.drop (i + 1)) r <;> rfl

theorem markDrops_length (tolerance sd : Nat) (f : Int) (l : List Resolved) :
    (markDrops tolerance sd f l).2.length = l.length := by
  simpa using congrArg List.length (markDrops_walked tolerance sd f l)

/-- The amount that a direction hands out is one that its rooms can hold. -/
theorem amount_le (d : Direction) (n : Nat) (caps : List Nat) : (if d = .none then 0 else min n caps.sum) ≤ caps.sum := by
  split
  · exact Nat.zero_le _
  · exact Nat.min_le_right _ _

/-- A share within its room shows in the effective length exactly where it is not 0. -/
theorem stretched_effective_ne (tolerance : Nat) (float : Int) (pending : List Resolved) (i : Nat) (d : Direction)
    (r : Resolved) {share : Nat} (h : share ≤ roomOf d r) :
    decide (0 < share) = decide (((droppedAt tolerance float pending i r).stretched d share).effective ≠
      plannedLength ((droppedAt tolerance float pending i r).stretched d share)) := by
  have hplan : plannedLength ((droppedAt tolerance float pending i r).stretched d share) = plannedLength r := by
    cases d <;> rfl
  rw [hplan, decide_eq_decide]
  cases d with
  | none =>
    have hzero : share = 0 := Nat.le_zero.mp h
    simp [Resolved.stretched, droppedAt, hzero]
  | shrink =>
    have hroom := h.trans (roomOf_shrink_le r)
    simp only [Resolved.stretched, droppedAt]
    omega
  | extend =>
    simp only [Resolved.stretched, droppedAt]
    omega

/-- Stages 5 and 6 on the cleared pending entries, read by their places (R77 to R80). -/
theorem adjust_cleared (tolerance : Nat) (float : Int) (pending : List Resolved) :
    let adj := adjust tolerance float (pending.map Resolved.cleared)
    let f := float + ((adj.entries.filter Resolved.dropMark).map projected).sum
    let caps := pending.map (roomOf adj.direction)
    adj.direction = stretchDirection tolerance f ∧
    adj.amount = (if adj.direction = .none then 0 else min f.natAbs caps.sum) ∧
    adj.residual = residualOf adj.direction f adj.amount ∧
    (∀ i : Nat, adj.entries[i]? = pending[i]?.map fun r =>
      (droppedAt tolerance float pending i r).stretched adj.direction (shareAt adj.amount caps i)) ∧
    adj.drops = adj.entries.countP Resolved.dropMark ∧
    adj.stretches = adj.entries.countP fun q => decide (q.effective ≠ plannedLength q) := by
  have hsd : (pending.map Resolved.cleared).map (roomOf .shrink) = pending.map (roomOf .shrink) := List.map_map
  have hlen := markDrops_length tolerance (pending.map (roomOf .shrink)).sum float (pending.map Resolved.cleared).reverse
  have hplace := markDrops_cleared_getElem? tolerance float pending
  have hfloat := markDrops_float tolerance (pending.map (roomOf .shrink)).sum float
    (l := (pending.map Resolved.cleared).reverse) (by simp [Resolved.cleared_eq])
  rw [adjust_eq, hsd]
  generalize markDrops tolerance (pending.map (roomOf .shrink)).sum float (pending.map Resolved.cleared).reverse = m
    at hlen hplace hfloat ⊢
  generalize hd : stretchDirection tolerance m.1 = d
  have hcaps : m.2.reverse.map (roomOf d) = pending.map (roomOf d) := by
    refine List.ext_getElem? fun i => ?_
    rw [List.getElem?_map, hplace, List.getElem?_map, Option.map_map]
    rfl
  rw [hcaps]
  have hle := amount_le d m.1.natAbs (pending.map (roomOf d))
  generalize hamount : (if d = .none then 0 else min m.1.natAbs (pending.map (roomOf d)).sum) = amount at hle ⊢
  have hshares : (stretchShares amount (pending.map (roomOf d))).length = m.2.reverse.length := by
    simp [stretchShares_length, hlen]
  have hmarked := zipWith_stretched_marked d hshares
  have hf : m.1 = float +
      (((m.2.reverse.zipWith (Resolved.stretched d) (stretchShares amount (pending.map (roomOf d)))).filter
        Resolved.dropMark).map projected).sum := by
    rw [hmarked, List.filter_reverse, List.map_reverse, List.sum_reverse, ← hfloat]
  have hentries (i : Nat) :
      (m.2.reverse.zipWith (Resolved.stretched d) (stretchShares amount (pending.map (roomOf d))))[i]? =
      pending[i]?.map fun r =>
        (droppedAt tolerance float pending i r).stretched d (shareAt amount (pending.map (roomOf d)) i) := by
    rw [List.getElem?_zipWith, hplace]
    cases hi : pending[i]? with
    | none => rfl
    | some r =>
      obtain ⟨hlt, -⟩ := List.getElem?_eq_some_iff.mp hi
      rw [stretchShares_getElem? hle (by simpa using hlt)]
      rfl
  dsimp only
  rw [← hf]
  refine ⟨hd.symm, hamount.symm, rfl, hentries, ?_, ?_⟩
  · rw [countP_dropMark_eq_length, countP_dropMark_eq_length, hmarked]
  · refine countP_eq_of_getElem? fun i => ?_
    rw [hentries]
    cases hi : pending[i]? with
    | none =>
      rw [List.getElem?_eq_none (by simpa [stretchShares_length] using List.getElem?_eq_none_iff.mp hi)]
      rfl
    | some r =>
      obtain ⟨hlt, -⟩ := List.getElem?_eq_some_iff.mp hi
      have hroom : (pending.map (roomOf d))[i]? = some (roomOf d r) := by simp [hi]
      rw [stretchShares_getElem? hle (by simpa using hlt), Option.map_some, Option.map_some, Option.map_some,
        stretched_effective_ne _ _ _ _ _ _ (shareAt_le hle hroom)]

/-- A record that takes the results of stages 5 and 6 satisfies the rules of drops and stretches (R77 to R80). -/
theorem adjust_dropsAndStretches {tolerance : Nat} {pending : List Resolved} {rec : TimingRecord} {c : Computed}
    {adj : Adjusted} (hadj : adjust tolerance c.float (pending.map Resolved.cleared) = adj)
    (hc : c.direction = adj.direction ∧ c.amount = adj.amount ∧ c.residual = adj.residual)
    (hrec : rec.dropCount = adj.drops ∧ rec.stretchCount = adj.stretches) :
    DropsAndStretches tolerance pending adj.entries rec c := by
  have hspec := adjust_cleared tolerance c.float pending
  rw [hadj] at hspec
  dsimp only at hspec
  obtain ⟨hcd, hca, hcr⟩ := hc
  rw [← hcd, ← hca, ← hcr] at hspec
  obtain ⟨hdirection, hamount, hresidual, hentries, hdrops, hstretches⟩ := hspec
  refine ⟨hdirection, hamount, ?_, ?_, ?_, hrec.1.trans hdrops, hrec.2.trans hstretches⟩
  · rw [hresidual]
    cases c.direction <;> rfl
  · have h (i : Nat) : adj.entries.length ≤ i ↔ pending.length ≤ i := by
      simpa using congrArg (· = none) (hentries i)
    exact le_antisymm ((h _).mpr le_rfl) ((h _).mp le_rfl)
  · intro i r q hr hq
    rw [hentries, hr] at hq
    obtain rfl := Option.some_inj.mp hq
    have hmarks : dropsAt tolerance (pending.map (roomOf .shrink)).sum c.float (pending.drop (i + 1)) r = true ↔ _ :=
      decide_eq_true_iff
    cases c.direction <;> exact ⟨rfl, hmarks, rfl⟩

/-! ### The stages before the drops (R71 to R76) -/

/-- The first entry with a post splits the lookahead (R71). -/
theorem splitAtPost_of_append {pending rest : List Resolved} {p : Resolved} (h : ∀ r ∈ pending, r.post? = none)
    (hp : p.post?.isSome = true) : splitAtPost (pending ++ p :: rest) = some (pending, p, rest) := by
  induction pending with
  | nil => simp [splitAtPost, hp]
  | cons r tail ih => simp [splitAtPost, h r (by simp), ih fun q hq => h q (by simp [hq])]

/-- The post instant is the first one at or after `t0` at the post's time of day (R73). -/
theorem postInstantFrom_spec (t0 : Nat) {h : Nat} (hh : h < 86400000) :
    t0 ≤ postInstantFrom t0 h ∧ postInstantFrom t0 h < t0 + 86400000 ∧ postInstantFrom t0 h % 86400000 = h := by
  simp only [postInstantFrom, Config.dayMs]
  omega

/-- The remainder of an entry on air counts from its end or segue to the time it has run; it has run none while CUEING. -/
theorem OnAir.remainder_spec (o : OnAir) (now : Nat) :
    (∀ mono station, o.phase = .playing mono station → o.remainder now = o.frozen - o.segue - (now - mono)) ∧
      (∀ d, o.phase = .cueing d → o.remainder now = o.frozen - o.segue) :=
  ⟨fun _ _ h => by simp [OnAir.remainder, OnAir.elapsed, h], fun _ h => by simp [OnAir.remainder, OnAir.elapsed, h]⟩

theorem State.airRemainder_byTable (s : State) : RemainderByTable s s.airRemainder := by
  refine ⟨fun hstate o ho => ?_, fun hstate => ?_, fun hstate c a p hc ha _ hp => ⟨fun o hpol ho => ?_, fun hpol => ?_⟩⟩
  · have hrem : s.airRemainder = o.remainder s.clock.mono := by simp [State.airRemainder, hstate, ho]
    rw [hrem]
    exact o.remainder_spec s.clock.mono
  · obtain h | h | h | h := hstate <;> simp [State.airRemainder, h]
  · simp [State.airRemainder, hstate, hc, ha, hp, hpol, ho]
  · simp [State.airRemainder, hstate, hc, ha, hp, hpol]

/-- The record of a computation that has found a post entry, before its drops and stretches. -/
def State.computedFor (s : State) (start : Nat) (pending : List Resolved) (p : Resolved) (post : Post) : Computed :=
  let instant := postInstantFrom s.clock.station post.timeOfDay
  let projection := s.clock.station + s.airRemainder + (pending.map projected).sum
  let float : Int := (instant : Int) - projection
  let adj := adjust s.timer.tolerance float (pending.map Resolved.cleared)
  { handle := p.source.handle, iteration := p.iteration, index := start + pending.length, postKind := post.kind,
    timeOfDay := post.timeOfDay, instant, remainder := s.airRemainder, projection, float, direction := adj.direction,
    amount := adj.amount, residual := adj.residual }

/-- With a post entry in the lookahead the record is COMPUTED, and the entries before it take its lengths and marks. -/
theorem State.computeFrom_post (s : State) (start : Nat) {pending rest : List Resolved} {p : Resolved} {post : Post}
    (h : ∀ r ∈ pending, r.post? = none) (hp : p.post? = some post) :
    let c := s.computedFor start pending p post
    let adj := adjust s.timer.tolerance c.float (pending.map Resolved.cleared)
    s.computeFrom start ((pending ++ p :: rest).map Resolved.cleared) =
      ({ state := .computed c, seqNo := s.interp.seqNo, t0 := s.clock.station, tolerance := s.timer.tolerance,
         dropCount := adj.drops, stretchCount := adj.stretches }, adj.entries ++ (p :: rest).map Resolved.cleared) := by
  have hp' : p.cleared.post? = some post := hp
  have hsplit : splitAtPost ((pending ++ p :: rest).map Resolved.cleared) =
      some (pending.map Resolved.cleared, p.cleared, rest.map Resolved.cleared) := by
    rw [List.map_append, List.map_cons]
    refine splitAtPost_of_append (fun r hr => ?_) (by simp [hp'])
    obtain ⟨q, hq, rfl⟩ := List.mem_map.mp hr
    exact h q hq
  have hproj : (pending.map Resolved.cleared).map Resolved.contribution = pending.map projected := by
    rw [Resolved.contribution_eq, List.map_map]; rfl
  simp only [State.computeFrom, hsplit, hp', hproj, List.length_map, State.computedFor]
  rfl

/-! ### What a computation writes (R69, R80, R81) -/

theorem sameMembers_iff (a b : List (Nat × List Nat)) : sameMembers a b = true ↔ ∀ x, x ∈ a ↔ x ∈ b := by
  simp only [sameMembers, Bool.and_eq_true, List.all_eq_true, List.contains_iff_mem]
  exact ⟨fun ⟨hab, hba⟩ x => ⟨hab x, hba x⟩, fun h => ⟨fun x => (h x).mp, fun x => (h x).mpr⟩⟩

theorem State.keepDrops_dropSet (s : State) (entries : List Resolved) :
    (s.keepDrops entries).timer.dropSet = (entries.filter Resolved.dropMark).map Resolved.copyId := by
  unfold State.keepDrops
  dsimp only
  split
  · rfl
  · rw [State.raise]

/-- TIMING_CHANGED follows the drop set (R81). -/
theorem State.keepDrops_events (s : State) (entries : List Resolved) :
    ((∀ x, x ∈ (s.keepDrops entries).timer.dropSet ↔ x ∈ s.timer.dropSet) → (s.keepDrops entries).events = s.events) ∧
    ((¬ ∀ x, x ∈ (s.keepDrops entries).timer.dropSet ↔ x ∈ s.timer.dropSet) →
      (s.keepDrops entries).occurrence .timingChanged =
        { count := countUp 255 (s.occurrence .timingChanged).count,
          detail := some (.timingChanged s.timer.record.dropCount s.timer.record.residual?) }) := by
  rw [State.keepDrops_dropSet, ← sameMembers_iff]
  unfold State.keepDrops
  dsimp only
  refine ⟨fun h => by rw [if_pos h], fun h => ?_⟩
  rw [if_neg h]
  exact (State.occurrence_raise _ _ _ _).trans (if_pos rfl)

/-- The state of a computation whose record and entries are written, before its drops are compared. -/
def State.written (s : State) (record : TimingRecord) (look : List Resolved) : State :=
  { s with interp := { s.interp with look }, timer := { s.timer with record } }

theorem State.compute_timer (s : State) {record : TimingRecord} {entries : List Resolved}
    (h : s.computeFrom (if s.interp.held then 1 else 0)
      ((s.interp.look.drop (if s.interp.held then 1 else 0)).map Resolved.cleared) = (record, entries)) :
    let kept := (s.written record (s.interp.look.take (if s.interp.held then 1 else 0) ++ entries)).keepDrops entries
    s.compute.timer = kept.timer ∧ s.compute.events = kept.events := by
  simp only [State.compute, h]
  exact ⟨rfl, rfl⟩

theorem State.compute_record (s : State) {record : TimingRecord} {entries : List Resolved}
    (h : s.computeFrom (if s.interp.held then 1 else 0)
      ((s.interp.look.drop (if s.interp.held then 1 else 0)).map Resolved.cleared) = (record, entries)) :
    s.compute.timer.record = record ∧
      s.compute.timer.dropSet = (entries.filter Resolved.dropMark).map Resolved.copyId := by
  rw [(s.compute_timer h).1, State.keepDrops_dropSet]
  exact ⟨by simp [State.written], rfl⟩

/-- TIMING_CHANGED is raised with the new record's counts where a member of the drop set differs (R81). -/
theorem State.compute_events (s : State) {record : TimingRecord} {entries : List Resolved}
    (h : s.computeFrom (if s.interp.held then 1 else 0)
      ((s.interp.look.drop (if s.interp.held then 1 else 0)).map Resolved.cleared) = (record, entries)) :
    ((∀ x, x ∈ s.compute.timer.dropSet ↔ x ∈ s.timer.dropSet) → s.compute.events = s.events) ∧
    ((¬ ∀ x, x ∈ s.compute.timer.dropSet ↔ x ∈ s.timer.dropSet) →
      s.compute.occurrence .timingChanged =
        { count := countUp 255 (s.occurrence .timingChanged).count,
          detail := some (.timingChanged record.dropCount record.residual?) }) := by
  obtain ⟨htimer, hevents⟩ := s.compute_timer h
  rw [htimer, hevents]
  unfold State.occurrence
  rw [hevents]
  exact State.keepDrops_events _ _

/-- The watch that a COMPUTED record is handed to (R62). -/
theorem PostWatch.update_computed (w : PostWatch) {rec : TimingRecord} {c : Computed} (tolerance : Nat)
    (h : rec.state = .computed c) :
    (c.postKind = .nearest → w.update rec tolerance = .disarmed) ∧
    (c.postKind = .exact → w = .disarmed → w.update rec tolerance = .armed
      { handle := c.handle, iteration := c.iteration, instant := c.instant, cut := c.instant + tolerance }) ∧
    (∀ v, c.postKind = .exact → w = .armed v ∨ w = .deferred v →
      w.update rec tolerance = if v.handle = c.handle ∧ v.iteration = c.iteration then w else .armed
        { handle := c.handle, iteration := c.iteration, instant := c.instant, cut := c.instant + tolerance }) := by
  refine ⟨fun hk => ?_, fun hk hw => ?_, fun v hk hw => ?_⟩
  · simp [PostWatch.update, h, hk]
  · simp [PostWatch.update, h, hk, hw]
  · obtain rfl | rfl := hw <;> simp [PostWatch.update, h, hk]

/-! ### The computation and its timer (R69, R70) -/

/-- A computation that finds a post entry after the held head does what R71 to R81 and R62 say. -/
theorem State.compute_timedByPost {s : State} {pending rest : List Resolved} {p : Resolved} {post : Post}
    (hlook : s.interp.look.drop (if s.interp.held then 1 else 0) = pending ++ p :: rest)
    (hpending : ∀ r ∈ pending, r.post? = none) (hp : p.post? = some post) (hday : post.timeOfDay < 86400000) :
    TimedByPost s s.compute (if s.interp.held then 1 else 0) pending p post rest := by
  have hfrom := s.computeFrom_post (if s.interp.held then 1 else 0) (rest := rest) hpending hp
  rw [← hlook] at hfrom
  obtain ⟨hrecord, hdropSet⟩ := s.compute_record hfrom
  obtain ⟨hsame, hchanged⟩ := s.compute_events hfrom
  have hinterp := s.compute_interp
  have hwatch := s.compute_watch
  dsimp only at hfrom hinterp hwatch
  rw [hfrom] at hinterp hwatch
  generalize (if s.interp.held then 1 else 0) = start at hlook hfrom hrecord hdropSet hinterp hwatch hchanged ⊢
  generalize hadj : adjust s.timer.tolerance (s.computedFor start pending p post).float (pending.map Resolved.cleared) =
    adj at hrecord hdropSet hinterp hwatch hchanged
  obtain ⟨hinstant, hbefore, htime⟩ := postInstantFrom_spec s.clock.station hday
  have hstart : (s.interp.look.take start).length = start := by
    have hlen := congrArg List.length hlook
    simp only [List.length_drop, List.length_append, List.length_cons] at hlen
    rw [List.length_take]
    omega
  have hspec : DropsAndStretches s.timer.tolerance pending adj.entries s.compute.timer.record
      (s.computedFor start pending p post) :=
    adjust_dropsAndStretches hadj (by rw [← hadj]; exact ⟨rfl, rfl, rfl⟩) (by rw [hrecord]; exact ⟨rfl, rfl⟩)
  have ⟨_, _, _, hlen, _⟩ := hspec
  have hafter : s.compute.interp.look.drop start = adj.entries ++ (p :: rest).map Resolved.cleared := by
    rw [hinterp]; exact List.drop_left' hstart
  obtain ⟨hnearest, harmed, hkept⟩ := s.air.watch.update_computed (tolerance := s.timer.tolerance)
    (congrArg TimingRecord.state hrecord)
  rw [hrecord] at hnearest harmed hkept
  rw [← hwatch] at hnearest harmed hkept
  refine ⟨s.computedFor start pending p post, by rw [hrecord], rfl, rfl, rfl, rfl, rfl, hinstant, hbefore, htime,
    s.airRemainder_byTable, rfl, rfl, ?_, ?_, ?_, ?_, hsame, fun h => ?_, hnearest, harmed, hkept⟩
  · rw [hafter, List.take_left' hlen]
    exact hspec
  · rw [hinterp]
    exact List.take_left' hstart
  · rw [← List.drop_drop, hafter, List.drop_left' hlen]
    exact List.map_congr_left fun r _ => r.cleared_eq
  · rw [hafter, hdropSet]
    rfl
  · rw [hchanged h, hrecord]
    exact ⟨rfl, rfl⟩

/-- A computation that finds none clears the entries after the held head and disarms the watch (R62, R71, R72). -/
theorem State.compute_untimed {s : State}
    (h : ∀ r ∈ s.interp.look.drop (if s.interp.held then 1 else 0), r.post? = none) :
    s.compute.timer.record.state =
      (if s.interp.look = [] ∨ s.interp.look.getLast?.any Resolved.isEnd = true then .noPost else .postBeyond) ∧
    s.compute.timer.record.dropCount = 0 ∧ s.compute.timer.record.stretchCount = 0 ∧
    s.compute.air.watch = .disarmed ∧
    s.compute.interp.look = s.interp.look.take (if s.interp.held then 1 else 0) ++
      (s.interp.look.drop (if s.interp.held then 1 else 0)).map
        (fun r => { r with effective := plannedLength r, dropMark := false }) := by
  have hcleared : ∀ r ∈ (s.interp.look.drop (if s.interp.held then 1 else 0)).map Resolved.cleared, r.post? = none :=
    fun r hr => by obtain ⟨q, hq, rfl⟩ := List.mem_map.mp hr; exact h q hq
  have hfrom := s.computeFrom_noPost (if s.interp.held then 1 else 0) hcleared
  have hinterp := s.compute_interp
  have hwatch := s.compute_watch
  dsimp only at hinterp hwatch
  rw [hfrom] at hinterp hwatch
  rw [(s.compute_record hfrom).1]
  refine ⟨rfl, rfl, rfl, hwatch.trans (PostWatch.update_noPost _ _ (by dsimp only; split <;> simp)), ?_⟩
  rw [hinterp]
  exact congrArg (_ ++ ·) (List.map_congr_left fun r _ => r.cleared_eq)

/-- Every record carries the present station time, the lookahead's sequence number and the tolerance (R81). -/
theorem State.computeFrom_record (s : State) (start : Nat) (entries : List Resolved) :
    (s.computeFrom start entries).1.t0 = s.clock.station ∧ (s.computeFrom start entries).1.seqNo = s.interp.seqNo ∧
      (s.computeFrom start entries).1.tolerance = s.timer.tolerance := by
  unfold State.computeFrom
  dsimp only
  split
  · exact ⟨rfl, rfl, rfl⟩
  · split <;> exact ⟨rfl, rfl, rfl⟩

theorem State.compute_stamp (s : State) :
    s.compute.timer.record.t0 = s.clock.station ∧ s.compute.timer.record.seqNo = s.interp.seqNo ∧
      s.compute.timer.record.tolerance = s.timer.tolerance := by
  rw [(s.compute_record rfl).1]
  exact s.computeFrom_record _ _

/-- The state with the periodic timer restarted (R70). -/
def State.periodicRestarted (s : State) : State :=
  { s with timer := { s.timer with periodicAt := s.clock.mono + 1000 } }

theorem exec_periodicTimer {s : State} (h : s.timer.periodicAt ≤ s.clock.mono) :
    exec .periodicTimer s = .next s.periodicRestarted.compute :=
  if_pos h

/-- Settles O34: the expiry computes from the state with the timer restarted, by the stages' lemmas with a post entry and
without one. -/
theorem periodicTimerComputes : Obligations.PeriodicTimerComputes := by
  intro s hdue
  have hexec := exec_periodicTimer hdue
  have hair := s.periodicRestarted.compute_air
  have huntimed := s.periodicRestarted.compute_untimed
  have htimed := @State.compute_timedByPost s.periodicRestarted
  obtain ⟨ht0, hseq, htol⟩ := s.periodicRestarted.compute_stamp
  obtain ⟨hclock, hstore, hbus, hlines, hreceiver, hsched, hsite, hport, htolerance, hperiodic⟩ :
      s.periodicRestarted.compute.clock = s.clock ∧ s.periodicRestarted.compute.store = s.store ∧
      s.periodicRestarted.compute.bus = s.bus ∧ s.periodicRestarted.compute.lines = s.lines ∧
      s.periodicRestarted.compute.receiver = s.receiver ∧ s.periodicRestarted.compute.sched = s.sched ∧
      s.periodicRestarted.compute.site = s.site ∧ s.periodicRestarted.compute.port = s.port ∧
      s.periodicRestarted.compute.timer.tolerance = s.timer.tolerance ∧
      s.periodicRestarted.compute.timer.periodicAt = s.clock.mono + 1000 := by
    simp [State.periodicRestarted]
  generalize s.periodicRestarted.compute = t at *
  exact ⟨t, hexec, hperiodic, ht0, hseq, htol, htolerance, huntimed,
    fun _ _ _ _ hlook hpending hp hday => htimed hlook hpending hp hday, hclock, hstore, hair, hbus, hlines, hreceiver,
    hsched, hsite, hport⟩

end Sys2Proof.Machine
end

section
/-! PROOFS. The stretch shares come to the amount (O35), by the rules of their walk that stand with the computation. -/

namespace Sys2Proof.Machine

open Sys2Proof.Safety

/-! ### The sum of the shares (R79) -/

/-- A walk moves ms from the remainder to the shares and loses none. -/
theorem handOutOnce_sum (r : Nat) (l : List (Nat × Nat)) :
    (handOutOnce r l).1 + ((handOutOnce r l).2.map Prod.fst).sum = r + (l.map Prod.fst).sum := by
  induction l generalizing r with
  | nil => cases r <;> rfl
  | cons p rest ih =>
    obtain ⟨a, c⟩ := p
    cases r with
    | zero => rfl
    | succ r =>
      by_cases hroom : a < c
      · have hrest := ih r
        simp only [handOutOnce, hroom, if_true, List.map_cons, List.sum_cons]
        omega
      · have hrest := ih (r + 1)
        simp only [handOutOnce, hroom, if_false, List.map_cons, List.sum_cons]
        omega

/-- Where as many shares have room as the remainder has ms, the shares take the whole remainder. -/
theorem handOut_sum_of_le {r : Nat} {l : List (Nat × Nat)} (h : r ≤ l.countP hasRoom) :
    ((handOut r r l).map Prod.fst).sum = r + (l.map Prod.fst).sum := by
  have hleft : (handOutOnce r l).1 = 0 := by rw [handOutOnce_left]; omega
  rw [handOut_of_le h, ← handOutOnce_sum, hleft, Nat.zero_add]

/-- Rounding down loses only: the base shares come to no more than the amount's share of all the capacities. -/
theorem baseShares_sum_le_div (amount total : Nat) (caps : List Nat) :
    (caps.map fun c => amount * c / total).sum ≤ amount * caps.sum / total := by
  induction caps with
  | nil => simp
  | cons c rest ih =>
    rw [List.map_cons, List.sum_cons, List.sum_cons, Nat.mul_add]
    exact (Nat.add_le_add_left ih _).trans Nat.div_add_div_le_add_div

theorem baseShares_map_fst (amount : Nat) (caps : List Nat) :
    (baseShares amount caps).map Prod.fst = caps.map fun c => amount * c / caps.sum := by
  simp [baseShares]

/-- The base shares never exceed the amount, so the remainder is what they leave of it. -/
theorem baseShares_sum_le {caps : List Nat} (amount : Nat) (htotal : 0 < caps.sum) :
    ((baseShares amount caps).map Prod.fst).sum ≤ amount := by
  rw [baseShares_map_fst]
  exact (baseShares_sum_le_div amount caps.sum caps).trans_eq (Nat.mul_div_cancel _ htotal)

/-- Among capacities that hold an ms, the shares are the base shares with what they leave handed out from the post back. -/
theorem stretchShares_of_pos {caps : List Nat} (amount : Nat) (htotal : 0 < caps.sum) :
    stretchShares amount caps =
      ((handOut (amount - ((baseShares amount caps).map Prod.fst).sum)
        (amount - ((baseShares amount caps).map Prod.fst).sum) (baseShares amount caps).reverse).reverse).map Prod.fst :=
  if_neg htotal.ne'

/-- The shares of an amount that the capacities can hold come to that amount. -/
theorem stretchShares_sum {amount : Nat} {caps : List Nat} (hle : amount ≤ caps.sum) :
    (stretchShares amount caps).sum = amount := by
  by_cases htotal : caps.sum = 0
  · have hamount : amount = 0 := Nat.le_zero.mp (htotal ▸ hle)
    simp [stretchShares, htotal, hamount]
  · have hpos := Nat.pos_of_ne_zero htotal
    have hwalk : amount - ((baseShares amount caps).map Prod.fst).sum ≤
        (baseShares amount caps).reverse.countP hasRoom := by
      rw [List.countP_reverse, baseShares_map_fst]
      exact baseShares_left_le hle hpos
    rw [stretchShares_of_pos amount hpos, List.map_reverse, List.sum_reverse, handOut_sum_of_le hwalk, List.map_reverse,
      List.sum_reverse]
    exact Nat.sub_add_cancel (baseShares_sum_le amount hpos)

/-- Each share stands beside a capacity that holds it. -/
theorem le_of_mem_zip_stretchShares {amount : Nat} {caps : List Nat} (hle : amount ≤ caps.sum) {p : Nat × Nat}
    (hp : p ∈ (stretchShares amount caps).zip caps) : p.1 ≤ p.2 := by
  obtain ⟨i, hi⟩ := List.mem_iff_getElem?.mp hp
  obtain ⟨hshare, hcap⟩ := List.getElem?_zip_eq_some.mp hi
  obtain ⟨hlt, -⟩ := List.getElem?_eq_some_iff.mp hcap
  have heq : shareAt amount caps i = p.1 := Option.some.inj ((stretchShares_getElem? hle hlt).symm.trans hshare)
  exact heq ▸ shareAt_le hle hcap

/-! ### The statement -/

/-- Settles O35: the base shares leave no more ms than shares with room, so one walk hands out the whole remainder. -/
theorem stretchSharesMeetAmount : Obligations.StretchSharesMeetAmount := fun amount caps hle =>
  ⟨stretchShares_sum hle, stretchShares_length amount caps, fun _ hp => le_of_mem_zip_stretchShares hle hp,
    fun _ hi => stretchShares_getElem? hle hi⟩

end Sys2Proof.Machine
end

section
/-! PROOFS. The bus requests (O36), the gain update (O37), and SITE_SET (O53), with the rules on new desired values that
the dead-air window shares. -/

namespace Sys2Proof.Machine

open Sys2Proof.Safety

/-! ### Clamping -/

/-- Clamping into a range that is not empty is a minimum and then a maximum. -/
theorem clampInt_eq {lo hi : Int} (h : lo ≤ hi) (v : Int) : clampInt lo hi v = max lo (min hi v) := by
  unfold clampInt
  split
  · omega
  · split <;> omega

/-! ### The bus requests (R88) -/

/-- A source's request names it by its number (R87). -/
theorem readSource_succ (i : Fin 14) : readSource (i.val + 1) = some i := readIndex_succ i

/-- BUS_FADER accepts the sources 5..12 (R88). -/
theorem readFaderSource_succ {i : Fin 14} (hlo : 4 ≤ i.val) (hhi : i.val ≤ 11) :
    readFaderSource (i.val + 1) = some i := by
  rw [readFaderSource, if_pos (by omega), readSource_succ]

/-- MIC_SWITCH accepts the sources 5 and 6 (R88). -/
theorem readMic_succ {i : Fin 14} (h : i.val = 4 ∨ i.val = 5) : readMic (i.val + 1) = some i := by
  rw [readMic, if_pos (by omega), readSource_succ]

/-- A yes/no field is read from its code (R198). -/
theorem readFlag_code (b : Bool) : readFlag (if b then 1 else 0) = some b := by cases b <;> rfl

/-- A permitted request that writes one source record changes that record alone and answers with it as stored. -/
theorem request_putSource {code : Nat} {role : Role} {permitted : List Role} {s : State}
    {owner : State → Option (State × Reply)} {i : Fin 14} {r : SourceRec} (hp : portFree s)
    (hrole : permitted.contains role = true)
    (ho : owner s = accepted (some (s.putSource i r)) fun t => sourceB t i) :
    ∃ t, request code role permitted s owner = .next t ∧ t = { s.putSource i r with port := t.port } ∧
      t.port.response = some { code := BitVec.ofNat 8 code, status := .ok, fields := sourceB t i } :=
  ⟨(s.putSource i r).answer code (.ok (sourceB (s.putSource i r) i)), request_owner hp hrole ho, rfl, rfl⟩

/-- Settles O36: each request's checks pass on its sources, and its owner writes the one clamped field. -/
theorem busRequestsWriteClampedFields : Obligations.BusRequestsWriteClampedFields := by
  unfold Obligations.BusRequestsWriteClampedFields
  refine fun s i v hp => ⟨fun hlo hhi => ?fader, ?trim, fun on hmic => ?mic⟩
  case fader =>
    rw [← clampInt_eq (by decide)]
    exact request_putSource (owner := setFader (i.val + 1) v) hp rfl
      (by simp only [setFader, readFaderSource_succ hlo hhi])
  case trim =>
    rw [← clampInt_eq (by decide)]
    exact request_putSource (owner := setTrim (i.val + 1) v) hp rfl (by simp only [setTrim, readSource_succ])
  case mic =>
    exact request_putSource (owner := switchMic (i.val + 1) (if on then 1 else 0)) hp rfl
      (by simp only [switchMic, readMic_succ hmic, readFlag_code])

/-! ### The gain update (R92, R94) -/

/-- A gain law moves the gain alone. -/
theorem SourceRec.moved_eq (r : SourceRec) (target : Int) (now : Nat) :
    r.moved target now = { r with current := (r.moved target now).current } := by
  unfold SourceRec.moved
  split <;> rfl

/-- FOLLOW moves the gain by one step at most, towards the target (R92). -/
theorem SourceRec.moved_follow {r : SourceRec} (h : r.law = .follow) (target : Int) (now : Nat) :
    (r.moved target now).current = if r.current < target then r.current + 1
      else if target < r.current then r.current - 1 else r.current := by
  simp only [SourceRec.moved, h]

/-- A ramp that has run its length is at mute (R93, R94). -/
theorem rampGain_done {τ d : Nat} (g : Int) (h : d ≤ τ) : rampGain g τ d = -160 := if_pos h

/-- A CUT is at mute from 20 ms after the cut on (R94). -/
theorem SourceRec.moved_cut {r : SourceRec} {g : Int} {start now : Nat} {fill : Bool} (h : r.law = .cut g start fill)
    (hdone : start + 20 ≤ now) (target : Int) : (r.moved target now).current = -160 := by
  simp only [SourceRec.moved, h]
  exact rampGain_done g (by omega)

theorem State.source_moveGains (s : State) (i : Fin 14) :
    s.moveGains.source i = (s.source i).moved (s.gainTarget i) s.clock.mono := by
  simp [State.moveGains, State.source]

/-- Settles O37: every source record is moved by its law, which leaves the rest of the record. -/
theorem gainUpdateStepsTowardsTarget : Obligations.GainUpdateStepsTowardsTarget := by
  unfold Obligations.GainUpdateStepsTowardsTarget
  refine fun s hdue => ⟨s.moveGains, if_pos hdue, rfl, fun i => ?_⟩
  have hrest := (s.source i).moved_eq (s.gainTarget i) s.clock.mono
  rw [State.source_moveGains]
  exact ⟨by rw [hrest], by rw [hrest], by rw [hrest], by rw [hrest],
    fun hlaw => SourceRec.moved_follow hlaw _ _, fun _ _ _ hlaw hdone => SourceRec.moved_cut hlaw hdone _⟩

/-! ### New desired values (R171, R173) -/

/-- Two states agree in every parameter's desired and confirmed values and in the fold-back. -/
def SameValues (s t : State) : Prop :=
  (∀ q, (t.param q).desired = (s.param q).desired ∧ (t.param q).confirmed = (s.param q).confirmed) ∧
  t.site.foldActive = s.site.foldActive ∧ t.site.strikes = s.site.strikes

theorem SameValues.trans {s t u : State} (h : SameValues s t) (k : SameValues t u) : SameValues s u := by
  obtain ⟨hrec, hfold, hstrikes⟩ := h
  obtain ⟨krec, kfold, kstrikes⟩ := k
  exact ⟨fun q => ⟨(krec q).1.trans (hrec q).1, (krec q).2.trans (hrec q).2⟩, kfold.trans hfold,
    kstrikes.trans hstrikes⟩

/-- Sending a SET writes its record's state alone. -/
theorem State.sendSet_sameValues (s : State) (p : Param) (v : Nat) : SameValues s (s.sendSet p v) := by
  refine ⟨fun q => ?_, rfl, rfl⟩
  simp only [State.sendSet, State.param_putParam]
  split
  · rename_i h; subst h; exact ⟨rfl, rfl⟩
  · exact ⟨rfl, rfl⟩

/-- Filling the in-flight table writes records' states alone. -/
theorem State.fillTableFrom_sameValues (fuel : Nat) (s : State) : SameValues s (State.fillTableFrom fuel s) := by
  induction fuel generalizing s with
  | zero => exact ⟨fun _ => ⟨rfl, rfl⟩, rfl, rfl⟩
  | succ fuel ih =>
    have hself : SameValues s s := ⟨fun _ => ⟨rfl, rfl⟩, rfl, rfl⟩
    have hpoll (c : Fin 8) : SameValues s (s.sendPoll c) := ⟨fun _ => ⟨rfl, rfl⟩, rfl, rfl⟩
    unfold State.fillTableFrom
    split
    · split
      · split
        · exact (s.sendSet_sameValues _ _).trans (ih _)
        · exact hself
      · split
        · exact (hpoll _).trans (ih _)
        · exact hself
    · exact hself

theorem State.fillTable_sameValues (s : State) : SameValues s s.fillTable := State.fillTableFrom_sameValues 4 s

/-- A new desired value is stored in its own record, and no confirmed value changes. -/
theorem State.param_newDesired (s : State) (p q : Param) (v : Nat) :
    ((s.newDesired p v).param q).desired = (if q = p then some v else (s.param q).desired) ∧
    ((s.newDesired p v).param q).confirmed = (s.param q).confirmed := by
  by_cases h : q = p
  · subst h
    unfold State.newDesired
    dsimp only
    split <;> simp
  · unfold State.newDesired
    dsimp only
    split <;> simp [h]

theorem State.param_clearedBy (s : State) (p q : Param) : (s.clearedBy p).param q = s.param q := by cases p <;> rfl

/-- What an accepted SITE_SET clears on the bus (R100, R171). -/
theorem State.clearedBy_bus (s : State) (p : Param) :
    (s.clearedBy p).bus = if p = .siteAudio then { s.bus with escalationFlag := false } else s.bus := by
  cases p <;> rfl

/-- What an accepted SITE_SET clears in the site-link unit (R171, R183). -/
theorem State.clearedBy_fold (s : State) {p : Param} (h : p = .power ∨ p = .carrier) :
    (s.clearedBy p).site.foldActive = false ∧ (s.clearedBy p).site.strikes = 0 := by
  obtain rfl | rfl := h <;> exact ⟨rfl, rfl⟩

/-- Settles O53: the owner stores the value, clears its flags and fills the in-flight table, which writes no value. -/
theorem siteSetStoresDesiredValue : Obligations.SiteSetStoresDesiredValue := by
  unfold Obligations.SiteSetStoresDesiredValue
  intro s param value v p hp hparam hvalue
  let u : State := ((s.newDesired p v).clearedBy p).fillTable
  obtain ⟨hrec, hfold, hstrikes⟩ := State.fillTable_sameValues ((s.newDesired p v).clearedBy p)
  have hdesired (q : Param) : (u.param q).desired = if q = p then some v else (s.param q).desired := by
    rw [(hrec q).1, State.param_clearedBy, (s.param_newDesired p q v).1]
  have hconfirmed : (u.param p).confirmed = (s.param p).confirmed := by
    rw [(hrec p).2, State.param_clearedBy, (s.param_newDesired p p v).2]
  have hbus : u.bus = if p = .siteAudio then { s.bus with escalationFlag := false } else s.bus := by
    simp [u, State.clearedBy_bus]
  have howner : setSite param value s = some (u, .ok (paramB u p)) := by
    simp only [setSite, hparam, hvalue]; rfl
  refine ⟨u.answer 0x60 (.ok (paramB u p)), request_owner (owner := setSite param value) hp rfl howner,
    (hdesired p).trans (if_pos rfl), hconfirmed, fun q hq => (hdesired q).trans (if_neg hq), rfl,
    fun h => hbus.trans (if_pos h), fun h => ?_, ?_, fun h => hbus.trans (if_neg h)⟩
  · obtain ⟨hactive, hzero⟩ := (s.newDesired p v).clearedBy_fold h
    exact ⟨hfold.trans hactive, hstrikes.trans hzero⟩
  · simp [State.answer, u]

end Sys2Proof.Machine
end

section
/-! PROOFS. The dead-air window (O38): what each change of the monitor's state writes, and the rows of R99. -/

namespace Sys2Proof.Machine

open Sys2Proof.Safety

/-! ### Fill (R97) -/

/-- Starting fill writes a player's record and the escalation count, which R99 starts again at 0. -/
theorem State.startFill_bus {s : State} (h : s.bus.monitor.escalation = 0) : s.startFill.bus = s.bus := by
  unfold State.startFill
  split
  · rfl
  · split
    · exact congrArg (fun e => { s.bus with monitor := { s.bus.monitor with escalation := e } }) h.symm
    · rfl
    · rfl
    · rfl

/-- A cut writes a source record alone. -/
theorem State.cutPlayer_bus (s : State) (p : Fin 4) (fill : Bool) :
    (s.cutPlayer p fill).bus = { s.bus with sources := (s.cutPlayer p fill).bus.sources } := by
  unfold State.cutPlayer
  dsimp only
  split <;> rfl

/-- Withdrawing fill writes source records alone. -/
theorem State.withdrawFill_bus (s : State) :
    s.withdrawFill.bus = { s.bus with sources := s.withdrawFill.bus.sources } := by
  unfold State.withdrawFill
  split
  · rfl
  · split
    · exact s.cutPlayer_bus _ _
    · rfl

/-- Without the reason DEAD_AIR, the bus is as it was but for that reason and the gain laws. -/
theorem State.dropDeadAir_bus (s : State) :
    s.dropDeadAir.bus = { s.bus with sources := s.dropDeadAir.bus.sources, fillDeadAir := false } := by
  unfold State.dropDeadAir State.withdrawUnwanted
  split
  · split
    · rfl
    · rw [State.withdrawFill_bus]
  · rename_i h
    simp only [Bool.not_eq_true] at h
    rw [← h]

/-! ### Writes of SITE_AUDIO by the bus (R171) -/

theorem State.writeDesired_bus (s : State) (p : Param) (v : Nat) : (s.writeDesired p v).bus = s.bus := by simp

/-- A write by the bus stores the value in the parameter's record. -/
theorem State.writeDesired_desired (s : State) (p : Param) (v : Nat) :
    ((s.writeDesired p v).param p).desired = some v := by
  unfold State.writeDesired
  split
  · assumption
  · obtain ⟨hrec, -, -⟩ := (s.newDesired p v).fillTable_sameValues
    rw [(hrec p).1, (s.param_newDesired p p v).1, if_pos rfl]

/-! ### The monitor's changes of state (R99 to R101) -/

/-- The monitor's record as a window's end hands it on for judging, in a state: the peak has become the last peak and
the next window is open (R98). -/
def State.nextWindow (s : State) (x : MonitorState) : Monitor :=
  { s.bus.monitor with
    state := x, lastPeak := s.bus.monitor.peak, peak := 0, windowEnds := s.bus.monitor.windowEnds + 10
    windowThreshold := s.bus.threshold }

/-- A window's end is judged by the row of the monitor's state, quiet or sounding (R98, R99). -/
theorem State.endWindow_row {s : State} {x : MonitorState} {quiet : Bool} (hx : s.bus.monitor.state = x)
    (hq : peakQuiet s.bus.monitor.peak s.bus.monitor.windowThreshold = quiet) :
    s.endWindow = s.judgeWindow (s.nextWindow x) quiet := by
  subst hx hq
  rfl

@[simp] theorem State.putMonitor_monitor (s : State) (m : Monitor) : (s.putMonitor m).bus.monitor = m := rfl

/-- DEAD_AIR stands in DEAD and in ESCALATED (R99). -/
theorem State.holds_deadAir {s : State} :
    s.holds .deadAir = true ↔ s.bus.monitor.state = .dead ∨ s.bus.monitor.state = .escalated := by
  simp [State.holds]

/-- Entering DEAD starts both counts and adds the reason DEAD_AIR (R97, R99). -/
theorem State.enterDead_bus (s : State) (m : Monitor) (silence : Nat) :
    (s.enterDead m silence).bus = { s.bus with
      fillDeadAir := true, monitor := { m with state := .dead, silence, escalation := 0, recovery := 0 } } :=
  State.startFill_bus rfl

/-- The monitor's record in ESCALATED (R100). -/
def Monitor.escalated (m : Monitor) (escalation : Nat) : Monitor :=
  { m with state := .escalated, escalation, recovery := 0 }

/-- An escalation while LOCAL is desired already writes the monitor alone (R100). -/
theorem State.escalate_local {s : State} (h : (s.param .siteAudio).desired = some 1) (m : Monitor) (escalation : Nat) :
    s.escalate m escalation = s.putMonitor (m.escalated escalation) := if_pos h

/-- An escalation asks the site for LOCAL and sets the flag that says so (R100). -/
theorem State.escalate_asks {s : State} (h : (s.param .siteAudio).desired ≠ some 1) (m : Monitor) (escalation : Nat) :
    s.escalate m escalation =
      { (s.putMonitor (m.escalated escalation)).writeDesired .siteAudio 1 with
        bus := { (s.putMonitor (m.escalated escalation)).bus with escalationFlag := true } } := by
  rw [← State.writeDesired_bus _ .siteAudio 1]
  exact if_neg h

/-- The monitor after an escalation. -/
theorem State.escalate_monitor (s : State) (m : Monitor) (escalation : Nat) :
    (s.escalate m escalation).bus.monitor = m.escalated escalation := by
  by_cases h : (s.param .siteAudio).desired = some 1
  · rw [State.escalate_local h]; rfl
  · rw [State.escalate_asks h]; rfl

/-- After an escalation LOCAL is desired of the site (R100). -/
theorem State.escalate_desired (s : State) (m : Monitor) (escalation : Nat) :
    ((s.escalate m escalation).param .siteAudio).desired = some 1 := by
  by_cases h : (s.param .siteAudio).desired = some 1
  · rw [State.escalate_local h]; exact h
  · rw [State.escalate_asks h]; exact State.writeDesired_desired _ _ _

/-- The monitor's record as recovery leaves it (R101). -/
def Monitor.recovered (m : Monitor) : Monitor :=
  { m with state := .sound, silence := 0, escalation := 0, recovery := 0 }

/-- Recovery where the bus has not taken SITE_AUDIO: DEAD_AIR leaves the fill reasons (R101). -/
theorem State.recover_untaken {s : State} (h : s.bus.escalationFlag = false) (m : Monitor) :
    s.recover m = (s.putMonitor m.recovered).dropDeadAir := by
  have hflag : (s.putMonitor m.recovered).dropDeadAir.bus.escalationFlag = false := by
    rw [State.dropDeadAir_bus]; exact h
  exact if_neg (by rw [← Bool.not_eq_true] at hflag; exact hflag)

/-- Recovery where the bus took SITE_AUDIO: it is given back, and the flag cleared (R101). -/
theorem State.recover_taken {s : State} (h : s.bus.escalationFlag = true) (m : Monitor) :
    s.recover m =
      { (s.putMonitor m.recovered).dropDeadAir.writeDesired .siteAudio 0 with
        bus := { (s.putMonitor m.recovered).dropDeadAir.bus with escalationFlag := false } } := by
  have hflag : (s.putMonitor m.recovered).dropDeadAir.bus.escalationFlag = true := by
    rw [State.dropDeadAir_bus]; exact h
  rw [← State.writeDesired_bus _ .siteAudio 0]
  exact if_pos hflag

/-- Recovery starts the monitor's counts again and leaves neither the reason DEAD_AIR nor the escalation flag (R101). -/
theorem State.recover_bus (s : State) (m : Monitor) :
    (s.recover m).bus.monitor = m.recovered ∧ (s.recover m).bus.fillDeadAir = false ∧
      (s.recover m).bus.escalationFlag = false := by
  cases h : s.bus.escalationFlag with
  | false =>
    rw [State.recover_untaken h, State.dropDeadAir_bus]
    exact ⟨rfl, rfl, h⟩
  | true =>
    rw [State.recover_taken h, State.dropDeadAir_bus]
    exact ⟨rfl, rfl, rfl⟩

/-- Whatever the monitor answers to a window, the last peak and the end of the open window are those handed on (R98). -/
theorem State.judgeWindow_window (s : State) (m : Monitor) (quiet : Bool) :
    (s.judgeWindow m quiet).bus.monitor.lastPeak = m.lastPeak ∧
    (s.judgeWindow m quiet).bus.monitor.windowEnds = m.windowEnds := by
  unfold State.judgeWindow
  split
  · exact ⟨rfl, rfl⟩
  · exact ⟨rfl, rfl⟩
  · split
    · rw [State.enterDead_bus]; exact ⟨rfl, rfl⟩
    · exact ⟨rfl, rfl⟩
  · exact ⟨rfl, rfl⟩
  · split
    · exact ⟨rfl, rfl⟩
    · split
      · rw [State.escalate_monitor]; exact ⟨rfl, rfl⟩
      · exact ⟨rfl, rfl⟩
  · split
    · rw [(s.recover_bus m).1]; exact ⟨rfl, rfl⟩
    · exact ⟨rfl, rfl⟩
  · exact ⟨rfl, rfl⟩
  · split
    · rw [(s.recover_bus m).1]; exact ⟨rfl, rfl⟩
    · exact ⟨rfl, rfl⟩

/-! ### The statement -/

/-- Without the reason DEAD_AIR, or with fill not active, dead-air fill is not active. -/
theorem State.deadAirFill_eq_false {s : State} (h : s.bus.fillDeadAir = false ∨ s.fillActive = false) :
    ¬s.deadAirFill = true := by
  obtain h | h := h <;> simp [State.deadAirFill, h]

/-- A window of DEAD or ESCALATED that completes the 500 sounding ones is a recovery (R101). -/
theorem State.endWindow_recovers {s : State} (hx : s.bus.monitor.state = .dead ∨ s.bus.monitor.state = .escalated)
    (hq : peakQuiet s.bus.monitor.peak s.bus.monitor.windowThreshold = false)
    (hlong : 500 ≤ s.bus.monitor.recovery + 1) : ∃ x, s.endWindow = s.recover (s.nextWindow x) := by
  obtain hx | hx := hx
  · exact ⟨_, (State.endWindow_row hx hq).trans (if_pos hlong)⟩
  · exact ⟨_, (State.endWindow_row hx hq).trans (if_pos hlong)⟩

/-- Settles O38: each row of the monitor's table is one branch of the judging of a window, read off what it writes. -/
theorem deadAirWindowCountsSilence : Obligations.DeadAirWindowCountsSilence := by
  unfold Obligations.DeadAirWindowCountsSilence
  intro s hdue
  obtain ⟨hpeak, hends⟩ := s.judgeWindow_window (s.nextWindow s.bus.monitor.state)
    (peakQuiet s.bus.monitor.peak s.bus.monitor.windowThreshold)
  refine ⟨s.endWindow, if_pos hdue, hpeak, hends, fun hx hq => ?soundQuiet, fun hx hq => ?soundSounding,
    fun hx hq => ?quietSounding, fun hx hq hshort => ?quietCounts, fun hx hq hlong => ?quietDead,
    fun hx hq => ⟨fun hreason hactive => ?deadFilled,
      fun hfill => ⟨fun hshort => ?deadCounts, fun hlong => ?escalates⟩⟩,
    fun hx hq hshort => ?deadSounding, fun hx hq => ?escalatedQuiet, fun hx hq hshort => ?escalatedSounding,
    fun hx hq hlong => ?recovers⟩
  case soundQuiet => rw [State.endWindow_row hx hq]; exact ⟨rfl, rfl⟩
  case soundSounding => rw [State.endWindow_row hx hq]; rfl
  case quietSounding => rw [State.endWindow_row hx hq]; exact ⟨rfl, rfl⟩
  case quietCounts =>
    rw [(State.endWindow_row hx hq).trans (if_neg (Nat.not_le.mpr hshort))]
    exact ⟨rfl, rfl⟩
  case quietDead =>
    rw [(State.endWindow_row hx hq).trans (if_pos hlong), State.holds_deadAir, State.enterDead_bus]
    exact ⟨rfl, .inl rfl, rfl, rfl, rfl⟩
  case deadFilled =>
    rw [(State.endWindow_row hx hq).trans (if_pos (by simp [State.deadAirFill, hreason, hactive]))]
    exact ⟨rfl, rfl, rfl, rfl⟩
  case deadCounts =>
    rw [(State.endWindow_row hx hq).trans
      ((if_neg (State.deadAirFill_eq_false hfill)).trans (if_neg (Nat.not_le.mpr hshort)))]
    exact ⟨rfl, rfl, rfl, rfl⟩
  case escalates =>
    have hrow : s.endWindow = s.escalate (s.nextWindow .dead) (s.bus.monitor.escalation + 1) :=
      (State.endWindow_row hx hq).trans ((if_neg (State.deadAirFill_eq_false hfill)).trans (if_pos hlong))
    rw [hrow, State.holds_deadAir, State.escalate_monitor]
    refine ⟨rfl, rfl, .inr rfl, s.escalate_desired _ _, fun hasks => ?_, fun hlocal => ?_⟩
    · rw [State.escalate_asks hasks]
    · rw [State.escalate_local hlocal]; exact ⟨rfl, rfl⟩
  case deadSounding =>
    rw [(State.endWindow_row hx hq).trans (if_neg (Nat.not_le.mpr hshort))]
    exact ⟨rfl, rfl, rfl⟩
  case escalatedQuiet => rw [State.endWindow_row hx hq]; exact ⟨rfl, rfl⟩
  case escalatedSounding =>
    rw [(State.endWindow_row hx hq).trans (if_neg (Nat.not_le.mpr hshort))]
    exact ⟨rfl, rfl⟩
  case recovers =>
    obtain ⟨x, hrow⟩ := State.endWindow_recovers hx hq hlong
    obtain ⟨hmonitor, hreason, hflag⟩ := s.recover_bus (s.nextWindow x)
    have hsound : ¬(s.recover (s.nextWindow x)).holds .deadAir = true := by
      rw [State.holds_deadAir, hmonitor]
      simp [Monitor.recovered]
    rw [hrow, hmonitor]
    refine ⟨rfl, rfl, rfl, rfl, hreason, Bool.eq_false_iff.mpr hsound, hflag, fun htaken => ?_, fun huntaken => ?_⟩
    · rw [State.recover_taken htaken]; exact State.writeDesired_desired _ _ _
    · rw [State.recover_untaken huntaken]; simp

end Sys2Proof.Machine
end

section
/-! PROOFS. The sample period (O39): the mix at gain 0, at mute and at a tenth, the line sends, and the peak. -/

namespace Sys2Proof.Machine

open Sys2Proof.Safety

/-! ### Samples (R95) -/

theorem sampleOf_eq_fullScale (v : Int) : sampleOf v = fullScale v := by
  rw [sampleOf, saturate, clampInt_eq (by decide), fullScale]

/-- A saturated value is the value of its sample. -/
theorem sampleOf_toInt (v : Int) : (sampleOf v).toInt = saturate v := by
  have hlo : -8388608 ≤ saturate v := by rw [saturate, clampInt_eq (by decide)]; omega
  have hhi : saturate v ≤ 8388607 := by rw [saturate, clampInt_eq (by decide)]; omega
  rw [sampleOf, BitVec.toInt_ofInt, Int.bmod_eq_of_le (by omega) (by omega)]

/-! ### Contributions and their rounding (R95) -/

theorem contribution_zero (gain : Int) : contribution 0 gain = 0 := by
  unfold contribution
  split
  · rfl
  · exact Int.zero_mul _

/-- At gain 0 or at mute a source contributes its sample or nothing. -/
theorem contribution_plain {gain : Int} (h : gain = 0 ∨ gain ≤ -160) (sample : Int) :
    contribution sample gain = (if gain = 0 then sample else 0) * mixUnit := by
  obtain rfl | h := h
  · rw [contribution_unity, if_pos rfl]
  · rw [contribution_mute sample gain h, if_neg (by omega), Int.zero_mul]

/-- At gain -40 ten contributions come to the sample. -/
theorem contribution_tenth (sample : Int) : 10 * contribution sample (-40) = sample * mixUnit := by
  unfold contribution mixUnit
  rw [if_neg (by decide), show ((-40 + 160 : Int) / 40).toNat = 3 by decide,
    show ((-40 + 160 : Int) % 40).toNat = 0 by decide]
  dsimp only
  rw [Nat.pow_zero, Nat.mul_one, Nat.sub_zero]
  generalize 2 ^ (rootPlaces * 39) = places
  push_cast
  ring

/-- A tenth of a whole number of units is rounded to the nearest, half away from zero. -/
theorem roundMix_tenth {a v : Int} (h : 10 * a = v * mixUnit) :
    roundMix a = if 0 ≤ v then (v + 5) / 10 else -((5 - v) / 10) := by
  have hu : (0 : Int) < mixUnit := by exact_mod_cast mixUnit_pos
  unfold roundMix
  generalize (mixUnit : Nat) = u at *
  have hround {b w : Int} (hb : 10 * b = w * u) : (2 * b + u) / ((2 * u : Nat) : Int) = (w + 5) / 10 := by
    push_cast
    calc (2 * b + u) / (2 * (u : Int)) = (10 * (2 * b + u)) / (10 * (2 * u)) := by
          rw [Int.mul_ediv_mul_of_pos _ _ (by decide)]
      _ = (2 * u * (w + 5)) / (2 * u * 10) := by
          congr 1
          · linear_combination 2 * hb
          · ring
      _ = (w + 5) / 10 := Int.mul_ediv_mul_of_pos _ _ (by omega)
  have hsign : 0 ≤ a ↔ 0 ≤ v := by
    have hscaled : 0 ≤ v * u ↔ 0 ≤ v := Int.mul_nonneg_iff_of_pos_right hu
    omega
  by_cases hv : 0 ≤ v
  · rw [if_pos (hsign.mpr hv), if_pos hv, hround h]
  · have hneg : -2 * a = 2 * -a := by ring
    rw [if_neg (mt hsign.mp hv), if_neg hv, hneg, hround (w := -v) (by linear_combination -h),
      show -v + 5 = 5 - v by ring]

/-- Taking a whole number of units from a whole sum leaves a whole sum, and uses no free value (R96). -/
theorem lessShare_units (sum v : Int) (n : Nat) : lessShare sum (v * mixUnit) n = (sum - v, n) := by
  have hu : (mixUnit : Int) ≠ 0 := by exact_mod_cast mixUnit_pos.ne'
  unfold lessShare
  rw [← Int.sub_mul]
  dsimp only
  rw [if_pos (Int.mul_emod_left _ _), Int.mul_ediv_cancel _ hu]

/-! ### The programme (R95) -/

/-- The samples of the sources at gain 0 are all the samples, taken as nothing at any other gain. -/
theorem sumAtUnity_eq (s : State) (lanes : Vector Sample 14) :
    sumAtUnity s lanes =
      (allSources.map fun i => if (s.source i).current = 0 then (lanes[i]).toInt else 0).sum := by
  unfold sumAtUnity
  induction allSources with
  | nil => rfl
  | cons i rest ih =>
    rw [List.map_cons, List.sum_cons, ← ih, List.filter_cons]
    by_cases h : (s.source i).current = 0 <;> simp [h]

/-- At gain 0 or at mute a source's share is its whole sample or nothing. -/
theorem State.sourceShare_plain {s : State} {i : Fin 14}
    (h : (s.source i).current = 0 ∨ (s.source i).current ≤ -160) (lanes : Vector Sample 14) :
    s.sourceShare lanes i = (if (s.source i).current = 0 then (lanes[i]).toInt else 0) * mixUnit :=
  contribution_plain h _

/-- With every gain at 0 or at mute, the programme's sum is that of the samples at gain 0. -/
theorem State.mixSum_plain {s : State} (h : ∀ i : Fin 14, (s.source i).current = 0 ∨ (s.source i).current ≤ -160)
    (lanes : Vector Sample 14) : s.mixSum lanes = sumAtUnity s lanes := by
  have hshares : s.sourceShare lanes = fun i => _ := funext fun i => State.sourceShare_plain (h i) lanes
  rw [State.mixSum, hshares, List.sum_map_mul_right, roundMix_units, sumAtUnity_eq]

/-- With every lane silent the programme's sum is 0. -/
theorem State.mixSum_silent {s : State} {lanes : Vector Sample 14} (h : ∀ i : Fin 14, lanes[i] = 0) :
    s.mixSum lanes = 0 := by
  have hshares : s.sourceShare lanes = fun _ => 0 * (mixUnit : Int) := by
    funext i
    rw [State.sourceShare, h i, Int.zero_mul]
    exact contribution_zero _
  have hsum : (allSources.map fun _ => (0 : Int)).sum = 0 := rfl
  rw [State.mixSum, hshares, List.sum_map_mul_right, roundMix_units, hsum]

/-- The sources in order are all the sources. -/
theorem allSources_sum (f : Fin 14 → Int) : (allSources.map f).sum = ∑ i, f i :=
  (Fin.sum_univ_def f).symm

/-- The sum of a source alone among muted ones is its own contribution. -/
theorem State.mixSum_alone {s : State} {i : Fin 14} (h : ∀ j, j ≠ i → (s.source j).current ≤ -160)
    (lanes : Vector Sample 14) : s.mixSum lanes = roundMix (s.sourceShare lanes i) := by
  have hmute (j : Fin 14) (hj : j ≠ i) : s.sourceShare lanes j = 0 := contribution_mute _ _ (h j hj)
  rw [State.mixSum, allSources_sum, Fintype.sum_eq_single i hmute]

/-! ### The line sends (R96) -/

/-- A fold that writes each line's send at its place leaves there what that line was given. -/
theorem foldl_sends (f : Fin 6 → Nat → Sample × Nat) {l : Fin 6} (ls : List (Fin 6)) (acc : Vector Sample 6 × Nat)
    (h : l ∈ ls ∨ ∃ k, acc.1[l] = (f l k).1) :
    ∃ k, (ls.foldl (fun acc m => (acc.1.set m (f m acc.2).1, (f m acc.2).2)) acc).1[l] = (f l k).1 := by
  induction ls generalizing acc with
  | nil => exact h.resolve_left List.not_mem_nil
  | cons m rest ih =>
    refine ih _ ?_
    by_cases hlm : l = m
    · subst hlm
      exact .inr ⟨acc.2, by simp⟩
    · have hval : m.val ≠ l.val := fun e => hlm (Fin.ext e.symm)
      refine h.imp (fun hl => (List.mem_cons.mp hl).resolve_left hlm) ?_
      rintro ⟨k, hk⟩
      exact ⟨k, by simpa [Vector.getElem_set_ne, hval] using hk⟩

/-- Each line's send is the one it is given, at some count of the free values. -/
theorem State.allSends_get (s : State) (lanes : Vector Sample 14) (talkback : Sample) (sum : Int) (n : Nat)
    (l : Fin 6) :
    ∃ k, (s.allSends lanes talkback sum n).1[l] = (s.lineSend lanes talkback sum l k).1 :=
  foldl_sends (s.lineSend lanes talkback sum) allLines (s.bus.sends, n) (.inl (by revert l; decide))

/-- A line ON_AIR whose source is at gain 0 or at mute is sent the programme's sum less its own sample (R96). -/
theorem State.lineSend_onAir {s : State} {l : Fin 6} (hl : (s.caller l).state = .onAir)
    (hg : (s.source (lineSource l)).current = 0 ∨ (s.source (lineSource l)).current ≤ -160)
    (lanes : Vector Sample 14) (talkback : Sample) (sum : Int) (n : Nat) :
    (s.lineSend lanes talkback sum l n).1 =
      fullScale (sum - (if (s.source (lineSource l)).current = 0 then (lanes[lineSource l]).toInt else 0)) := by
  simp only [State.lineSend, hl]
  rw [State.sourceShare_plain hg, lessShare_units, sampleOf_eq_fullScale]

/-! ### The statement -/

/-- The parts of the bus that a sample period writes. -/
theorem State.mixSample_bus (s : State) (lanes : Vector Sample 14) (talkback : Sample) :
    (s.mixSample lanes talkback).bus.programme = sampleOf (s.mixSum lanes) ∧
    (s.mixSample lanes talkback).bus.sends = (s.allSends lanes talkback (s.mixSum lanes) s.freeUsed).1 ∧
    (s.mixSample lanes talkback).bus.monitor.peak = max s.bus.monitor.peak (s.monitored lanes (s.mixSum lanes)
      (s.allSends lanes talkback (s.mixSum lanes) s.freeUsed).2).1.natAbs := ⟨rfl, rfl, rfl⟩

/-- Without the reason DEAD_AIR the programme itself is monitored (R98). -/
theorem State.monitored_programme {s : State} (h : s.bus.fillDeadAir = false) (lanes : Vector Sample 14) (sum : Int)
    (n : Nat) : s.monitored lanes sum n = (saturate sum, n) :=
  if_neg (by simp [State.deadAirFill, h])

/-- Settles O39: the programme is the mix of the shares, which are whole at gain 0 and at mute; each line's send follows
its state. -/
theorem samplePeriodMixesAndSends : Obligations.SamplePeriodMixesAndSends := by
  unfold Obligations.SamplePeriodMixesAndSends
  intro s lanes talkback
  obtain ⟨hprogramme, hsends, hpeak⟩ := s.mixSample_bus lanes talkback
  have hsend (l : Fin 6) : ∃ k,
      (s.mixSample lanes talkback).bus.sends[l] = (s.lineSend lanes talkback (s.mixSum lanes) l k).1 := by
    rw [hsends]; exact s.allSends_get lanes talkback _ _ l
  refine ⟨s.mixSample lanes talkback, rfl, rfl,
    fun l => ⟨fun hl => ?screening, fun hl => ?programme, fun hl => ?silence⟩,
    fun hlanes => ?silent, fun hgains => ⟨?plain, fun l hl => ?mixMinus⟩, fun i hi hmute => ?tenth, rfl, ?risen,
    fun hfill => ?peak⟩
  case screening =>
    obtain ⟨k, hk⟩ := hsend l
    rw [hk]; simp only [State.lineSend, hl]
  case programme =>
    obtain ⟨k, hk⟩ := hsend l
    rw [hk, hprogramme]
    obtain hl | hl := hl <;> simp only [State.lineSend, hl]
  case silence =>
    obtain ⟨k, hk⟩ := hsend l
    rw [hk]
    obtain hl | hl | hl | hl := hl <;> simp only [State.lineSend, hl]
  case silent => rw [hprogramme, State.mixSum_silent hlanes]; rfl
  case plain => rw [hprogramme, State.mixSum_plain hgains, sampleOf_eq_fullScale]
  case mixMinus =>
    obtain ⟨k, hk⟩ := hsend l
    rw [hk, State.lineSend_onAir hl (hgains _), State.mixSum_plain hgains]
  case tenth =>
    have htenth : 10 * s.sourceShare lanes i = (lanes[i]).toInt * mixUnit := by
      rw [State.sourceShare, hi]; exact contribution_tenth _
    have hlo := (lanes[i]).le_toInt
    have hhi := (lanes[i]).toInt_lt
    rw [hprogramme, sampleOf_toInt, State.mixSum_alone hmute, roundMix_tenth htenth, saturate, clampInt_eq (by decide)]
    split <;> omega
  case risen => rw [hpeak]; exact Nat.le_max_left _ _
  case peak => rw [hpeak, hprogramme, sampleOf_toInt, State.monitored_programme hfill]

end Sys2Proof.Machine
end

section
/-! PROOFS. The limit on callers on air (O5): no command of the part puts a third line on air. An operation that leaves the
lines keeps the limit (`callersInLimit_of_lines`); one that puts a line on air looks first at how many are. Then the
operations are taken in the order of their chapters: those that come to rest keep `callersInLimit`, those that may not keep
it of the state they come to (`LimitAfter`), and so the owners of requests (`LimitAnswer`) and the commands
(`LimitNext`). -/

namespace Sys2Proof.Machine

open Sys2Proof.Safety

/-! ### The count of lines on air (R117) -/

/-- The limit is one on the lines alone. -/
theorem callersInLimit_of_lines {s t : State} (h : callersInLimit s) (hl : t.lines = s.lines) : callersInLimit t := by
  rwa [callersInLimit, State.linesOnAir_congr hl]

/-- The lines on air are at most as many as the members of a list that holds them all. -/
theorem State.linesOnAir_length_le {s : State} {ls : List (Fin 6)} (h : ∀ l, (s.caller l).state = .onAir → l ∈ ls) :
    s.linesOnAir.length ≤ ls.length :=
  (List.subperm_of_subset s.linesOnAir_nodup fun l hl => h l (State.mem_linesOnAir.mp hl)).length_le

/-- Where no line comes on air the limit is kept. -/
theorem callersInLimit_of_onAir {s t : State} (h : callersInLimit s)
    (ht : ∀ l, (t.caller l).state = .onAir → (s.caller l).state = .onAir) : callersInLimit t :=
  (State.linesOnAir_length_le fun l hl => State.mem_linesOnAir.mpr (ht l hl)).trans h

/-- The segment, the queue and the rest of the lines do not count for the limit. -/
theorem callersInLimit_of_callers {s t : State} (h : callersInLimit s) (hc : t.lines.callers = s.lines.callers) :
    callersInLimit t :=
  callersInLimit_of_onAir h fun l hl => by rwa [State.caller, hc] at hl

/-- A record written that does not put its line on air keeps the limit. -/
theorem callersInLimit_putCaller {s : State} (h : callersInLimit s) {l : Fin 6} {c : Caller}
    (hc : c.state = .onAir → (s.caller l).state = .onAir) : callersInLimit (s.putCaller l c) :=
  callersInLimit_of_onAir h fun m hm => by
    rw [State.caller_putCaller] at hm
    split at hm
    · rename_i hml; exact hml ▸ hc hm
    · exact hm

/-- A record written with its line in the same state keeps the limit. -/
theorem callersInLimit_putCaller_state {s : State} (h : callersInLimit s) {l : Fin 6} {c : Caller}
    (hc : c.state = (s.caller l).state) : callersInLimit (s.putCaller l c) :=
  callersInLimit_putCaller h fun hair => hc ▸ hair

theorem State.linesOnAir_enterOnAir_le (s : State) (l : Fin 6) :
    (s.enterOnAir l).linesOnAir.length ≤ s.linesOnAir.length + 1 :=
  State.linesOnAir_length_le (ls := l :: s.linesOnAir) fun m hm => by
    rw [State.caller_enterOnAir] at hm
    by_cases hml : m = l
    · simp [hml]
    · rw [if_neg hml] at hm
      exact List.mem_cons_of_mem l (State.mem_linesOnAir.mpr hm)

theorem callersInLimit_enterHold {s : State} (h : callersInLimit s) (l : Fin 6) (v : Bool) :
    callersInLimit (s.enterHold l v) := callersInLimit_putCaller h fun hc => by cases hc

theorem callersInLimit_enterClearing {s : State} (h : callersInLimit s) (l : Fin 6) (e : LastEnd) :
    callersInLimit (s.enterClearing l e) := callersInLimit_putCaller (s := s.leaveQueue l) h fun hc => by cases hc

/-! ### Phone segments and the alert hold (R120 to R123) -/

/-- A selection puts at most as many lines on air as it has places for (R120). -/
theorem State.linesOnAir_selectCallers_le (n : Nat) (queue : List (Fin 6)) (s : State) :
    (State.selectCallers n queue s).linesOnAir.length ≤ s.linesOnAir.length + n := by
  induction queue generalizing n s with
  | nil => cases n <;> exact Nat.le_add_right _ _
  | cons l rest ih =>
    cases n with
    | zero => exact Nat.le_refl _
    | succ n =>
      unfold State.selectCallers
      split
      · exact ih (n + 1) s
      · have hrest := ih n (s.enterOnAir l)
        have hone := s.linesOnAir_enterOnAir_le l
        omega

theorem callersInLimit_startSegment {s : State} (h : callersInLimit s) (handle : Nat) (part : PhonePart) :
    callersInLimit (s.startSegment handle part) := by
  let t : State := { s with lines := { s.lines with
    segment := some { handle, part, seen := !s.linesOnAir.isEmpty, suspended := false } } }
  have hsel : callersInLimit (State.selectCallers (min part.callers (2 - t.linesOnAir.length)) t.lines.queue t) := by
    have hle := State.linesOnAir_selectCallers_le (min part.callers (2 - t.linesOnAir.length)) t.lines.queue t
    have ht : t.linesOnAir.length ≤ 2 := h
    unfold callersInLimit
    omega
  exact callersInLimit_of_lines hsel (by unfold State.startSegment; dsimp only; split <;> rfl)

theorem callersInLimit_foldl {f : State → Fin 6 → State} (hf : ∀ s l, callersInLimit s → callersInLimit (f s l))
    {s : State} (h : callersInLimit s) (ls : List (Fin 6)) : callersInLimit (ls.foldl f s) :=
  foldl_keeps (P := callersInLimit) (fun l s hs => hf s l hs) h

theorem callersInLimit_endActionOn {s : State} (h : callersInLimit s) (a : EndAction) (l : Fin 6) :
    callersInLimit (State.endActionOn a s l) := by
  cases a with
  | hold => exact callersInLimit_enterHold h l false
  | release => exact callersInLimit_enterClearing h l .segmentEnd

theorem callersInLimit_endSegment {s : State} (h : callersInLimit s) : callersInLimit s.endSegment := by
  unfold State.endSegment
  split
  · exact h
  · rename_i g _
    exact callersInLimit_of_callers
      (callersInLimit_foldl (fun t l ht => callersInLimit_endActionOn ht g.part.endAction l) h s.linesOnAir) rfl

theorem callersInLimit_suspendSegment {s : State} (h : callersInLimit s) (v : Bool) :
    callersInLimit (s.suspendSegment v) := callersInLimit_of_callers h rfl

theorem callersInLimit_holdNotice {s : State} (h : callersInLimit s) : callersInLimit s.holdNotice := by
  let t : State := { s with lines := { s.lines with alertHold := true } }
  have ht : callersInLimit t := callersInLimit_of_callers h rfl
  exact callersInLimit_suspendSegment
    (callersInLimit_foldl (fun u l hu => callersInLimit_enterHold hu l true) ht t.linesOnAir) true

/-- A line goes back on air only while fewer than two are (R123). -/
theorem callersInLimit_restoreLine {s : State} (h : callersInLimit s) (l : Fin 6) : callersInLimit (s.restoreLine l) := by
  unfold State.restoreLine
  dsimp only
  split
  · refine callersInLimit_putCaller ?_ id
    split
    · have hone := s.linesOnAir_enterOnAir_le l
      unfold callersInLimit
      omega
    · exact h
  · exact h

theorem callersInLimit_restoreNotice {s : State} (h : callersInLimit s) : callersInLimit s.restoreNotice := by
  unfold State.restoreNotice
  dsimp only
  split
  · refine callersInLimit_suspendSegment (callersInLimit_foldl ?_ ?_ allLines) false
    · exact fun u l hu => callersInLimit_restoreLine hu l
    · exact callersInLimit_of_callers h rfl
  · exact h

/-! ### Operations that may not come to rest -/

/-- The limit holds of the state that an operation comes to, where it comes to rest. -/
def LimitAfter (r : Option State) : Prop := ∀ t, r = some t → callersInLimit t

theorem LimitAfter.of_some {s : State} (h : callersInLimit s) : LimitAfter (some s) := fun _ ht => Option.some.inj ht ▸ h

theorem LimitAfter.of_none : LimitAfter none := fun _ ht => by cases ht

theorem LimitAfter.ite {c : Prop} [Decidable c] {a b : Option State} (ha : LimitAfter a) (hb : LimitAfter b) :
    LimitAfter (if c then a else b) := by split <;> assumption

theorem LimitAfter.map {r : Option State} (h : LimitAfter r) {f : State → State}
    (hf : ∀ s, callersInLimit s → callersInLimit (f s)) : LimitAfter (r.map f) := fun t ht => by
  obtain ⟨u, hu, rfl⟩ := Option.map_eq_some_iff.mp ht
  exact hf u (h u hu)

theorem LimitAfter.bind {r : Option State} (h : LimitAfter r) {f : State → Option State}
    (hf : ∀ s, callersInLimit s → LimitAfter (f s)) : LimitAfter (r.bind f) := fun t ht => by
  obtain ⟨u, hu, hfu⟩ := Option.bind_eq_some_iff.mp ht
  exact hf u (h u hu) t hfu

theorem LimitAfter.foldSteps {α : Type} {f : α → State → Option State}
    (hf : ∀ a s, callersInLimit s → LimitAfter (f a s)) {s : State} (h : callersInLimit s) (l : List α) :
    LimitAfter (foldSteps f l s) := fun _ ht => foldSteps_keeps (fun a s t hs hst => hf a s hs t hst) h ht

/-! ### The sequencer (chapter 3) -/

theorem callersInLimit_stopParts {s : State} (h : callersInLimit s) (o : OnAir) : callersInLimit (s.stopParts o) := by
  unfold State.stopParts
  split
  · exact callersInLimit_of_lines h (by simp)
  · exact callersInLimit_endSegment h
  · exact h

theorem callersInLimit_cutParts {s : State} (h : callersInLimit s) (o : OnAir) : callersInLimit (s.cutParts o) := by
  unfold State.cutParts
  split
  · exact callersInLimit_of_lines h (by simp)
  · exact callersInLimit_endSegment h
  · exact h

theorem callersInLimit_cutOnAir {s : State} (h : callersInLimit s) (mayPlace : Bool) :
    callersInLimit (s.cutOnAir mayPlace) := by
  unfold State.cutOnAir
  split
  · exact h
  · rename_i o _
    exact callersInLimit_of_lines (callersInLimit_cutParts h o) (by simp)

theorem callersInLimit_startItem {s : State} (h : callersInLimit s) (r : Resolved) (b : Body) :
    callersInLimit (s.startItem r b).1 := by
  cases b with
  | audio kind cart segue item =>
    simp only [State.startItem]
    split
    · exact callersInLimit_of_lines h (by simp)
    · split <;> exact callersInLimit_of_lines h (by simp)
  | phone timed part item =>
    have htaken : callersInLimit (s.takeHeld r (.playing s.clock.mono s.clock.station)) :=
      callersInLimit_of_lines h (by simp)
    simp only [State.startItem]
    exact callersInLimit_of_lines (callersInLimit_startSegment htaken r.source.handle part) (by simp)
  | live timed item => exact callersInLimit_of_lines h (by simp [State.startItem])
  | join timed cueStart item => exact callersInLimit_of_lines h (by simp [State.startItem])
  | spanStart _ | spanEnd | call _ | holdPoint | endMark => exact h

theorem callersInLimit_compute {s : State} (h : callersInLimit s) : callersInLimit s.compute :=
  callersInLimit_of_lines h (by simp)

theorem callersInLimit_startCarriage {s : State} (h : callersInLimit s) (k : Fin 8) (way : Way) :
    callersInLimit (s.startCarriage k way) := by
  unfold State.startCarriage
  split
  · exact h
  · dsimp only
    refine callersInLimit_compute (callersInLimit_of_lines (callersInLimit_holdNotice ?_) (State.raise_lines _ _ _))
    exact callersInLimit_of_lines h (by simp)

theorem callersInLimit_missed {s : State} (h : callersInLimit s) : callersInLimit s.missed :=
  callersInLimit_of_lines h (by simp)

theorem State.goGiven_lines {s t : State} {m : TakeMode} {b : Body} (h : s.goGiven m b = some t) : t.lines = s.lines := by
  unfold State.goGiven at h
  split at h
  · cases h; rfl
  · split at h
    · cases h; rfl
    · cases h; rfl
    all_goals
      split at h
      · cases h; rfl
      · cases h

theorem limitAfter_takeLoop (fuel : Nat) (m : TakeMode) {s : State} (h : callersInLimit s) :
    LimitAfter (takeLoop fuel m s) := by
  induction fuel generalizing m s with
  | zero => exact LimitAfter.of_none
  | succ fuel ih =>
    unfold takeLoop
    split
    · exact .of_some (callersInLimit_of_lines h (by simp))
    · rename_i r _
      dsimp only
      split
      · exact ih m (callersInLimit_of_lines h (by simp))
      · split
        · exact .of_some (callersInLimit_of_lines h (by simp))
        · split
          · exact .of_some (callersInLimit_of_lines h (by simp))
          · exact ih m (callersInLimit_of_lines h (by simp))
        · rename_i p _
          have htaken : callersInLimit (s.takeAlert r p) := callersInLimit_of_lines h (by simp)
          split
          · exact .of_some (callersInLimit_startCarriage htaken _ _)
          · exact ih m (callersInLimit_of_lines htaken (by simp))
        · rename_i b _
          refine .ite ?dropped (.ite ?held (.ite ?post ?go))
          case dropped => exact ih m (callersInLimit_of_lines h (by simp))
          case held => exact .of_some (callersInLimit_of_lines h (by simp))
          case post => exact .of_some (callersInLimit_of_lines h (by simp))
          case go =>
            split
            · exact .of_some (callersInLimit_of_lines h (by simp))
            · rename_i t hgo
              have hstarted := callersInLimit_startItem (callersInLimit_of_lines h (State.goGiven_lines hgo)) r b
              exact .ite (.of_some hstarted) (ih _ (callersInLimit_missed hstarted))

theorem limitAfter_takeHead {s : State} (h : callersInLimit s) (m : TakeMode) : LimitAfter (s.takeHead m) :=
  limitAfter_takeLoop takeFuel m h

theorem limitAfter_startHead {s : State} (h : callersInLimit s) : LimitAfter s.startHead := by
  unfold State.startHead
  split
  · rename_i r _
    split
    · rename_i b _
      have hstarted := callersInLimit_startItem h r b
      exact .ite (.of_some hstarted) (limitAfter_takeHead (callersInLimit_missed hstarted) _)
    all_goals exact limitAfter_takeHead h _
  · exact limitAfter_takeHead h _

theorem limitAfter_takeFromGo {s : State} (h : callersInLimit s) : LimitAfter s.takeFromGo := by
  unfold State.takeFromGo
  split
  · split
    · split
      · rename_i t hgo
        exact limitAfter_startHead (callersInLimit_of_lines h (State.goGiven_lines hgo))
      · exact .of_some (callersInLimit_of_lines h (by simp))
    all_goals exact limitAfter_takeHead h _
  · exact limitAfter_takeHead h _

theorem limitAfter_endOnAir {s : State} (h : callersInLimit s) (e : Ending) : LimitAfter (s.endOnAir e) := by
  unfold State.endOnAir
  split
  · exact .of_some h
  · rename_i o _
    exact limitAfter_takeHead (callersInLimit_of_lines (callersInLimit_stopParts h o) (by simp)) _

theorem limitAfter_settleHead (before : State) {s : State} (h : callersInLimit s) : LimitAfter (settleHead before s) := by
  unfold settleHead
  dsimp only
  exact .ite (.ite (.of_some h) (limitAfter_takeHead (callersInLimit_of_lines h (by simp)) _)) (.of_some h)

theorem limitAfter_testLastCaller {s : State} (h : callersInLimit s) : LimitAfter s.testLastCaller := by
  unfold State.testLastCaller
  split
  · unfold State.reportLastCaller
    split
    · exact .of_some h
    · split
      · exact .ite (limitAfter_endOnAir h _) (.of_some h)
      · exact .of_some h
  · exact .of_some h

theorem limitAfter_postCut {s : State} (h : callersInLimit s) (w : Watch) : LimitAfter (s.postCut w) := by
  unfold State.postCut
  dsimp only
  refine (limitAfter_startHead ?_).map fun t ht => callersInLimit_of_lines ht (by simp)
  exact callersInLimit_of_lines (callersInLimit_cutOnAir h false) (by simp)

theorem limitAfter_endOutgoing {s : State} (h : callersInLimit s) : LimitAfter s.endOutgoing := by
  unfold State.endOutgoing
  split
  · exact .of_some h
  · exact limitAfter_settleHead s (callersInLimit_of_lines h (by simp))

/-! ### Carriages (chapter 8) -/

theorem callersInLimit_preempt {s : State} (h : callersInLimit s) : callersInLimit s.preempt := by
  have hyield : callersInLimit s.yieldAir := by
    unfold State.yieldAir
    split
    · exact h
    · split
      · exact callersInLimit_cutOnAir h true
      · exact callersInLimit_of_lines h (by simp)
      all_goals exact h
  exact callersInLimit_of_lines hyield (by simp [State.preempt])

theorem callersInLimit_offer {s : State} (h : callersInLimit s) : callersInLimit s.offer := by
  unfold State.offer
  split
  · exact h
  · split
    · exact h
    · refine callersInLimit_startCarriage ?_ _ _
      split
      · exact h
      · exact callersInLimit_preempt h

theorem limitAfter_placeRequest {s : State} (h : callersInLimit s) (k : Fin 8) : LimitAfter (s.placeRequest k) := by
  unfold State.placeRequest
  split
  · exact .of_some h
  · exact limitAfter_settleHead s (callersInLimit_of_lines h (by simp))

theorem callersInLimit_expireDeadline {s : State} (h : callersInLimit s) (k : Fin 8) :
    callersInLimit (s.expireDeadline k) :=
  callersInLimit_offer (callersInLimit_of_lines h (by simp))

theorem limitAfter_actByWay {s : State} (h : callersInLimit s) (k : Fin 8) (mayOffer : Bool) :
    LimitAfter (s.actByWay k mayOffer) := by
  have hdue : callersInLimit (if s.deadlineDue k then s.passDeadline k else s) := by
    split
    · exact callersInLimit_of_lines h (by simp)
    · exact h
  unfold State.actByWay
  dsimp only
  split
  · cases mayOffer with
    | true => exact .of_some (callersInLimit_offer hdue)
    | false => exact .of_some hdue
  · exact limitAfter_placeRequest hdue k
  · exact .of_some hdue
  · exact .of_some hdue

theorem limitAfter_makeEligible {s : State} (h : callersInLimit s) (k : Fin 8) (mayOffer : Bool) :
    LimitAfter (s.makeEligible k mayOffer) := by
  unfold State.makeEligible
  split
  · exact .of_some h
  · exact limitAfter_actByWay (callersInLimit_of_lines h (by simp)) k mayOffer

theorem limitAfter_linkUp {s : State} (h : callersInLimit s) : LimitAfter s.linkUp :=
  LimitAfter.foldSteps (fun k _ ht => .ite (limitAfter_makeEligible ht k true) (.of_some ht)) h allSlots

theorem limitAfter_rankNotice {s : State} (h : callersInLimit s) (k : Fin 8) : LimitAfter (s.rankNotice k) := by
  unfold State.rankNotice
  split
  · exact .of_some h
  · dsimp only
    exact .ite (.of_some h) (.ite (limitAfter_actByWay (callersInLimit_of_lines h (by simp)) k true) (.of_some h))

theorem limitAfter_rerank {s : State} (h : callersInLimit s) (k : Fin 8) : LimitAfter (s.rerank k) := by
  unfold State.rerank
  split
  · exact .of_some h
  · exact .ite (.of_some h) (limitAfter_rankNotice (callersInLimit_of_lines h (by simp)) k)

theorem limitAfter_giveBack {s : State} (h : callersInLimit s) (p : Preemption) : LimitAfter (s.giveBack p) := by
  unfold State.giveBack
  split
  · exact .of_some (callersInLimit_of_lines h (by simp))
  · split
    · exact .of_some (callersInLimit_of_lines h (by simp))
    · exact .of_some (callersInLimit_of_lines h (by simp))
    all_goals exact limitAfter_takeHead h _

theorem limitAfter_restoreByCut {s : State} (h : callersInLimit s) (p : Preemption) (w : Watch) :
    LimitAfter (s.restoreByCut p w) := by
  unfold State.restoreByCut
  dsimp only
  refine limitAfter_postCut (callersInLimit_of_lines h ?_) w
  split <;> simp

theorem limitAfter_restoreAir {s : State} (h : callersInLimit s) : LimitAfter s.restoreAir := by
  unfold State.restoreAir
  split
  · exact .of_some h
  · rename_i p _
    have hclear : callersInLimit { s with air := { s.air with preemption := none } } := callersInLimit_of_lines h rfl
    dsimp only
    refine LimitAfter.map ?_ fun t ht => callersInLimit_of_lines ht (by simp)
    split
    · exact .ite (limitAfter_restoreByCut hclear p _) (limitAfter_giveBack (callersInLimit_of_lines hclear (by simp)) p)
    · exact limitAfter_giveBack hclear p

theorem limitAfter_eligibleAgain {s : State} (h : callersInLimit s) (k : Fin 8) (a : Alert) :
    LimitAfter (s.eligibleAgain k a) :=
  .ite (.of_some (callersInLimit_of_lines h (by simp))) (limitAfter_makeEligible (callersInLimit_of_lines h (by simp)) k false)

theorem limitAfter_judge {s : State} (h : callersInLimit s) (c : Carriage) (reason : EndReason) :
    LimitAfter (s.judge c reason) := by
  unfold State.judge
  split
  · exact .of_some h
  · refine .ite (limitAfter_eligibleAgain h _ _) ?_
    dsimp only
    split
    · refine .ite (.ite (limitAfter_eligibleAgain h _ _) ?_) (.ite ?_ ?_)
      all_goals exact .of_some (callersInLimit_of_lines h (by simp))
    · exact .ite (.of_some (callersInLimit_of_lines h (by simp))) (.of_some (callersInLimit_of_lines h (by simp)))
    · exact .ite (.of_some (callersInLimit_of_lines h (by simp))) (.of_some (callersInLimit_of_lines h (by simp)))
    · exact .of_some h

theorem limitAfter_breakEnd {s : State} (h : callersInLimit s) : LimitAfter s.breakEnd := by
  have hended : callersInLimit (s.endRecord .complete) := callersInLimit_of_lines h (by simp)
  unfold State.breakEnd
  split
  · exact .of_some h
  · split
    · exact limitAfter_endOnAir h _
    · dsimp only
      split
      · exact .ite (limitAfter_postCut hended _) (limitAfter_takeHead (callersInLimit_of_lines hended (by simp)) _)
      · exact limitAfter_takeHead hended _

theorem limitAfter_afterRun {s : State} (h : callersInLimit s) : LimitAfter s.afterRun := by
  have hrestore : LimitAfter s.giveRestore :=
    .ite (limitAfter_testLastCaller (callersInLimit_restoreNotice h)) (.of_some h)
  refine .ite (.of_some h) (hrestore.map fun t ht => ?_)
  split
  · exact ht
  · exact callersInLimit_of_lines ht (by simp)

theorem limitAfter_followCarriage {s : State} (h : callersInLimit s) (way : Way) :
    LimitAfter (s.followCarriage way) := by
  unfold State.followCarriage
  refine .ite (LimitAfter.bind ?_ fun t ht => limitAfter_afterRun ht) (.of_some (callersInLimit_offer h))
  split
  · exact limitAfter_restoreAir h
  · exact limitAfter_breakEnd h
  · exact limitAfter_breakEnd h

theorem limitAfter_endCarriage {s : State} (h : callersInLimit s) (reason : EndReason) :
    LimitAfter (s.endCarriage reason) := by
  unfold State.endCarriage
  split
  · exact .of_some h
  · rename_i c _
    dsimp only
    have hidle : ∀ note, callersInLimit { (if reason = .guard ∨ reason = .retired then s.sendAlert .stop else s) with
        sched := { (if reason = .guard ∨ reason = .retired then s.sendAlert .stop else s).sched with
          lastNote := note, carriage := none } } := fun note =>
      callersInLimit_of_lines h (by split <;> simp)
    refine LimitAfter.bind (.ite (.of_some (hidle _)) (limitAfter_judge (hidle _) c reason)) fun t ht => ?_
    exact limitAfter_followCarriage (callersInLimit_of_lines ht (by simp)) c.way

theorem limitAfter_retire {s : State} (h : callersInLimit s) (k : Fin 8) (reason : Retirement) :
    LimitAfter (s.retire k reason) := by
  unfold State.retire
  split
  · exact .of_some h
  · dsimp only
    refine LimitAfter.map (.ite (limitAfter_endCarriage h _) (.of_some (callersInLimit_of_lines h (by simp)))) ?_
    exact fun t ht => callersInLimit_of_lines ht (by simp)

/-! ### The alert receiver (chapter 7) -/

theorem limitAfter_storeAlert {s : State} (h : callersInLimit s) (k : Fin 8) (f : IssueFrame) :
    LimitAfter (s.storeAlert k f) := by
  unfold State.storeAlert
  dsimp only
  have hstored : ∀ a r, callersInLimit ((((s.putAlert k (some a)).receipt f.origin f.number f.revision .accepted).raise
      .alertReceived (some r)).putSched k SchedEntry.clear) := fun a r => callersInLimit_of_lines h (by simp)
  exact .ite (limitAfter_makeEligible (hstored _ _) k true) (.of_some (hstored _ _))

theorem limitAfter_newAlert {s : State} (h : callersInLimit s) (f : IssueFrame) : LimitAfter (s.newAlert f) := by
  have hreceipt (r : ReceiptResult) : LimitAfter (some (s.receipt f.origin f.number f.revision r)) :=
    .of_some (callersInLimit_of_lines h (by simp))
  unfold State.newAlert
  refine .ite (hreceipt _) (.ite (hreceipt _) ?_)
  split
  · exact limitAfter_storeAlert h _ f
  · split
    · exact (limitAfter_retire h _ _).bind fun t ht => limitAfter_storeAlert ht _ f
    · exact hreceipt _

theorem limitAfter_revise {s : State} (h : callersInLimit s) (k : Fin 8) (a : Alert) (f : IssueFrame) :
    LimitAfter (s.revise k a f) := by
  unfold State.revise
  dsimp only
  refine .ite (.of_some (callersInLimit_of_lines h (by simp))) (.ite (limitAfter_makeEligible ?_ k true) (.of_some ?_))
  all_goals exact callersInLimit_of_lines h (by simp)

theorem limitAfter_knownAlert {s : State} (h : callersInLimit s) (k : Fin 8) (a : Alert) (f : IssueFrame) :
    LimitAfter (s.knownAlert k a f) := by
  unfold State.knownAlert
  refine .ite (.of_some ?_) (.ite (.of_some ?_) (.ite ?_ (limitAfter_revise h k a f)))
  · exact callersInLimit_of_lines h (by simp)
  · exact callersInLimit_of_lines h (by simp)
  · exact (limitAfter_retire h k _).map fun t ht => callersInLimit_of_lines ht (by simp)

theorem limitAfter_takeIssue {s : State} (h : callersInLimit s) (f : IssueFrame) : LimitAfter (s.takeIssue f) := by
  unfold State.takeIssue
  refine .ite (.of_some (callersInLimit_of_lines h (by simp))) ?_
  split
  · exact limitAfter_newAlert h f
  · split
    · exact limitAfter_knownAlert h _ _ f
    · exact limitAfter_newAlert h f

theorem limitAfter_takeCancel {s : State} (h : callersInLimit s) (origin number : Nat) :
    LimitAfter (s.takeCancel origin number) := by
  unfold State.takeCancel
  refine .ite (.of_some (callersInLimit_of_lines h (by simp))) ?_
  split
  · exact .of_some (callersInLimit_of_lines h (by simp))
  · split
    · exact (limitAfter_retire h _ _).map fun t ht => callersInLimit_of_lines ht (by simp)
    · exact .of_some (callersInLimit_of_lines h (by simp))

theorem limitAfter_takeAudio {s : State} (h : callersInLimit s) (reason : EndReason) :
    LimitAfter (s.takeAudio reason) := by
  unfold State.takeAudio
  split
  · exact .ite (limitAfter_endCarriage h reason) (.of_some h)
  · exact .of_some h

theorem limitAfter_alertByte (b : Byte) {s : State} (h : callersInLimit s) : LimitAfter (s.alertByte b) := by
  unfold State.alertByte
  split
  · exact .of_some (callersInLimit_of_lines h (by simp))
  · refine .ite (.of_some (callersInLimit_of_lines h (by simp))) ?_
    have hclosed : callersInLimit (s.putAlertOpen none) := callersInLimit_of_lines h (by simp)
    split
    · exact .of_some (callersInLimit_of_lines h (by simp))
    · exact .of_some (callersInLimit_of_lines h (by simp))
    · unfold State.takeAlertFrame
      split
      · exact limitAfter_takeIssue hclosed _
      · exact limitAfter_takeCancel hclosed _ _
      · exact limitAfter_takeAudio hclosed _
      · exact limitAfter_takeAudio hclosed _
      · exact .of_some hclosed
    · exact .of_some (callersInLimit_of_lines h (by simp))

theorem limitAfter_writeClass {s : State} (h : callersInLimit s) (c : Nat) (e : ClassEntry) :
    LimitAfter (s.writeClass c e) := by
  have hput : callersInLimit (s.putClass c e) := callersInLimit_of_lines h (by simp)
  have hrerank : LimitAfter ((s.putClass c e).rerankClass c) :=
    LimitAfter.foldSteps (fun k _ ht => .ite (limitAfter_rerank ht k) (.of_some ht)) hput allSlots
  have hranked : LimitAfter
      (if (s.classEntry c).action = e.action then some (s.putClass c e) else (s.putClass c e).rerankClass c) :=
    .ite (.of_some hput) hrerank
  unfold State.writeClass
  dsimp only
  refine .ite (.of_some h) (.ite hranked (hranked.map fun t ht => ?_))
  exact foldl_keeps (P := callersInLimit) (fun k u hu => by
    split
    · exact callersInLimit_expireDeadline hu k
    · exact hu) ht

/-! ### The site link (chapter 9) -/

theorem callersInLimit_retryUnconfirmed {s : State} (h : callersInLimit s) : callersInLimit s.retryUnconfirmed :=
  callersInLimit_of_lines h (by simp)

theorem limitAfter_validFrame {s : State} (h : callersInLimit s) {handle : State → State}
    (hh : ∀ t, (handle t).lines = t.lines) : LimitAfter (s.validFrame handle) := by
  unfold State.validFrame
  dsimp only
  have hhandled (x : Site) : callersInLimit (handle { s with site := x }) :=
    callersInLimit_of_lines h (hh { s with site := x })
  refine LimitAfter.map ?_ fun t ht => callersInLimit_of_lines ht (by simp)
  split
  · exact .of_some (hhandled _)
  · exact limitAfter_linkUp (hhandled _)
  · exact limitAfter_linkUp (callersInLimit_retryUnconfirmed (hhandled _))

theorem limitAfter_siteByte (b : Byte) {s : State} (h : callersInLimit s) : LimitAfter (s.siteByte b) := by
  unfold State.siteByte
  split
  · exact .of_some (callersInLimit_of_lines h (by simp))
  · refine .ite (.of_some (callersInLimit_of_lines h (by simp))) ?_
    have hclosed : callersInLimit (s.putSiteOpen none) := callersInLimit_of_lines h (by simp)
    split
    · exact .of_some (callersInLimit_of_lines h (by simp))
    · exact .of_some (callersInLimit_of_lines h (by simp))
    · unfold State.takeSiteFrame
      split
      · exact limitAfter_validFrame hclosed (by simp)
      · exact limitAfter_validFrame hclosed (by simp)
      · exact limitAfter_validFrame hclosed (by simp)
      · exact limitAfter_validFrame hclosed (by simp)
      · exact .of_some hclosed
    · exact .of_some (callersInLimit_of_lines h (by simp))

/-! ### The post watch, the clock and the controller reset -/

theorem limitAfter_takeCut {s : State} (h : callersInLimit s) (w : Watch) : LimitAfter (s.takeCut w) := by
  have hput (x : PostWatch) : LimitAfter (some (s.putWatch x)) := .of_some (callersInLimit_of_lines h (by simp))
  unfold State.takeCut
  split
  · exact .ite (hput _) (.ite (limitAfter_postCut h w) (hput _))
  · exact .ite (limitAfter_postCut h w) (hput _)
  · exact .ite (limitAfter_postCut h w) (hput _)
  all_goals exact hput _

theorem limitAfter_takePost {s : State} (h : callersInLimit s) : LimitAfter s.takePost :=
  limitAfter_takeFromGo (callersInLimit_of_lines h (by simp))

theorem limitAfter_watchClock {s : State} (h : callersInLimit s) : LimitAfter s.watchClock := by
  unfold State.watchClock
  split
  · exact .of_some h
  · exact .ite (limitAfter_takeCut h _) (.ite (limitAfter_takePost h) (.of_some h))

theorem limitAfter_alertClock (k : Fin 8) {s : State} (h : callersInLimit s) : LimitAfter (s.alertClock k) := by
  unfold State.alertClock
  split
  · exact .of_some h
  · exact .ite (limitAfter_retire h k _) (.ite (limitAfter_makeEligible h k true) (.of_some h))

theorem limitAfter_setClock {s : State} (h : callersInLimit s) (time : Nat) : LimitAfter (s.setClock time) := by
  have hset : callersInLimit { s with clock := { s.clock with station := time, unset := false } } :=
    callersInLimit_of_lines h rfl
  have hwatch := (limitAfter_watchClock hset).map (f := State.compute) fun t ht => callersInLimit_of_lines ht (by simp)
  have halerts := hwatch.bind fun t ht => LimitAfter.foldSteps (fun k _ hu => limitAfter_alertClock k hu) ht allSlots
  exact halerts.bind fun t ht =>
    LimitAfter.foldSteps (fun k _ hu => .ite (limitAfter_makeEligible hu k true) (.of_some hu)) ht allSlots

theorem callersInLimit_resetLine {s : State} (h : callersInLimit s) (l : Fin 6) : callersInLimit (s.resetLine l) := by
  unfold State.resetLine
  split
  · exact callersInLimit_enterHold h l false
  · exact callersInLimit_putCaller h id

theorem callersInLimit_resetLines {s : State} (h : callersInLimit s) : callersInLimit s.resetLines := by
  have hfold : callersInLimit (allLines.foldl State.resetLine s) :=
    callersInLimit_foldl (fun u l hu => callersInLimit_resetLine hu l) h allLines
  unfold State.resetLines
  generalize allLines.foldl State.resetLine s = t at hfold
  exact callersInLimit_of_callers hfold rfl

theorem callersInLimit_resetBlocks {s : State} (h : callersInLimit s) : callersInLimit s.resetBlocks := by
  have hbefore : callersInLimit s.clearOccurrences.resetInterp.resetAir.resetTimer.resetBus :=
    callersInLimit_of_lines h (by simp)
  exact callersInLimit_of_lines (callersInLimit_resetLines hbefore) (by simp [State.resetBlocks])

theorem limitAfter_resumeAlert {s : State} (h : callersInLimit s) (was : Option (Fin 8)) (passed : Bool) :
    LimitAfter (s.resumeAlert was passed) := by
  unfold State.resumeAlert
  split
  · exact .of_some h
  · split
    · exact .of_some h
    · exact .ite (limitAfter_actByWay (callersInLimit_of_lines h (by simp)) _ false) (.of_some h)

theorem limitAfter_controllerReset {s : State} (h : callersInLimit s) : LimitAfter s.controllerReset := by
  have hrebuilt : callersInLimit s.resetBlocks.rebuild :=
    callersInLimit_of_lines (callersInLimit_resetBlocks h) (by simp)
  have hplaced := (limitAfter_resumeAlert hrebuilt s.onAirSlot s.carriedPassed).bind fun t ht =>
    LimitAfter.foldSteps (f := State.placeAgain) (fun k _ hu => .ite (limitAfter_placeRequest hu k) (.of_some hu)) ht
      allSlots
  exact hplaced.map fun t ht => callersInLimit_offer ht

/-! ### Outcomes and requests -/

/-- The limit holds of the next state, where a command has one. -/
def LimitNext (r : Result) : Prop := ∀ t, r = .next t → callersInLimit t

theorem LimitNext.of_next {s : State} (h : callersInLimit s) : LimitNext (.next s) := fun t ht => by
  cases ht; exact h

theorem LimitNext.finish {r : Option State} (h : LimitAfter r) : LimitNext (finish r) := fun t ht =>
  h t (finish_next.mp ht)

theorem LimitNext.ite {c : Prop} [Decidable c] {a b : Result} (ha : LimitNext a) (hb : LimitNext b) :
    LimitNext (if c then a else b) := by split <;> assumption

/-- The limit holds of the state of an owner's answer. -/
def LimitAnswer (r : Option (State × Reply)) : Prop := ∀ t y, r = some (t, y) → callersInLimit t

theorem LimitAnswer.accepted {r : Option State} (h : LimitAfter r) (f : State → List Byte) :
    LimitAnswer (accepted r f) := fun t _ ht => by
  obtain ⟨hr, -⟩ := accepted_some ht
  exact h t hr

theorem LimitAnswer.refused {s : State} (h : callersInLimit s) (st : Status) : LimitAnswer (refused s st) :=
  fun t _ ht => by cases ht; exact h

theorem LimitAnswer.ite {c : Prop} [Decidable c] {a b : Option (State × Reply)} (ha : LimitAnswer a)
    (hb : LimitAnswer b) : LimitAnswer (if c then a else b) := by split <;> assumption

/-- A request keeps the limit where its owner does: every other answer leaves the lines (R188, R189). -/
theorem LimitNext.request {s : State} (h : callersInLimit s) {owner : State → Option (State × Reply)}
    (ho : LimitAnswer (owner s)) (code : Nat) (role : Role) (permitted : List Role) :
    LimitNext (request code role permitted s owner) := fun t ht => by
  obtain ⟨-, rfl⟩ | ⟨-, -, rfl⟩ | ⟨-, -, u, r, hu, rfl⟩ := request_cases ht
  · exact callersInLimit_of_lines h (by simp)
  · exact callersInLimit_of_lines h (by simp)
  · exact callersInLimit_of_lines (ho u r hu) (by simp)

theorem LimitNext.readRequest {s : State} (h : callersInLimit s) (owner : State → Reply) (code : Nat) (role : Role)
    (permitted : List Role) : LimitNext (readRequest code role permitted s owner) :=
  LimitNext.request h (fun t y ht => by cases ht; exact h) code role permitted

/-! ### The owners of the requests (chapters 1 to 3 and 5) -/

theorem limitAfter_edited {s : State} (h : callersInLimit s) (st : Store) (n : Notice) : LimitAfter (s.edited st n) :=
  limitAfter_settleHead s (callersInLimit_of_lines h (by simp))

theorem limitAnswer_insertEntry {s : State} (h : callersInLimit s) (anchor : Nat) (e : RawEntry) :
    LimitAnswer (insertEntry anchor e s) := by
  unfold insertEntry
  split
  · refine .ite (.refused h _) (.ite (.refused h _) (.ite (.refused h _) ?_))
    split
    · exact .refused h _
    · exact .accepted (limitAfter_edited h _ _) _
  · exact .refused h _

theorem limitAnswer_changeEntry {s : State} (h : callersInLimit s) (n : Nat) (e : RawEntry) :
    LimitAnswer (changeEntry n e s) := by
  unfold changeEntry
  split
  · exact .refused h _
  · split
    · exact .refused h _
    · exact .refused h _
    · exact .ite (.refused h _) (.ite (.refused h _) (.accepted (limitAfter_edited h _ _) _))

theorem limitAnswer_moveEntry {s : State} (h : callersInLimit s) (n list anchor : Nat) :
    LimitAnswer (moveEntry n list anchor s) := by
  have hlive (e : Entry) (l : ListId) : LimitAnswer (moveLive n e l anchor s) :=
    .ite (.accepted (.of_some h) _) (.accepted (limitAfter_edited h _ _) _)
  unfold moveEntry
  split
  · exact .refused h _
  · refine .ite (.refused h _) ?_
    split
    · exact .refused h _
    · exact .refused h _
    · exact .ite (.refused h _) (.ite (.refused h _) (.ite (.refused h _) (hlive _ _)))

theorem limitAnswer_deleteEntry {s : State} (h : callersInLimit s) (n : Nat) : LimitAnswer (deleteEntry n s) := by
  unfold deleteEntry
  split
  · exact .refused h _
  · exact .refused h _
  · exact .ite (.refused h _) (.accepted (limitAfter_edited h _ _) _)

theorem limitAnswer_clearBreak {s : State} (h : callersInLimit s) (b : Nat) : LimitAnswer (clearBreak b s) := by
  unfold clearBreak
  split
  · exact .refused h _
  · exact .ite (.refused h _) (.ite (.accepted (.of_some h) _) (.accepted (limitAfter_edited h _ _) _))

/-- An owner that leaves the lines keeps the limit. -/
theorem LimitAnswer.accepted_lines {s t : State} (h : callersInLimit s) (hl : t.lines = s.lines)
    (f : State → List Byte) : LimitAnswer (Machine.accepted (some t) f) :=
  .accepted (.of_some (callersInLimit_of_lines h hl)) f

theorem limitAnswer_setMode {s : State} (h : callersInLimit s) (mode : Nat) : LimitAnswer (setMode mode s) := by
  unfold setMode
  split
  · exact .refused h _
  · exact .accepted_lines h (by rfl) _

theorem State.takeGo_limit {s t : State} {acted : Bool} (h : callersInLimit s) (ht : s.takeGo = some (t, acted)) :
    callersInLimit t := by
  have hstart {u : State} (hu : callersInLimit u) (hs : u.startHead.map (·, true) = some (t, acted)) :
      callersInLimit t := by
    obtain ⟨v, hv, heq⟩ := Option.map_eq_some_iff.mp hs
    obtain ⟨rfl, -⟩ := Prod.mk.inj heq
    exact limitAfter_startHead hu v hv
  unfold State.takeGo at ht
  split at ht
  · split at ht
    · cases ht; exact h
    · exact hstart h ht
  · exact hstart (callersInLimit_of_lines h (by simp)) ht
  · cases ht; exact callersInLimit_of_lines h rfl
  all_goals cases ht; exact h

theorem limitAnswer_giveGo {s : State} (h : callersInLimit s) : LimitAnswer (giveGo s) := fun t y ht => by
  obtain ⟨⟨u, acted⟩, hu, heq⟩ := Option.map_eq_some_iff.mp ht
  cases heq
  exact State.takeGo_limit h hu

theorem limitAnswer_endAirSegment {s : State} (h : callersInLimit s) : LimitAnswer (endAirSegment s) :=
  .ite (.accepted (limitAfter_endOnAir h _) _) (.refused h _)

theorem limitAnswer_holdAir {s : State} (h : callersInLimit s) : LimitAnswer (holdAir s) := by
  unfold holdAir
  split
  · exact .accepted_lines h (by simp) _
  · exact .accepted_lines h (by simp) _
  · exact .accepted_lines h (by simp) _
  · exact .accepted_lines h (by simp) _
  · exact .accepted (.of_some h) _
  · exact .refused h _

theorem limitAnswer_resumeAir {s : State} (h : callersInLimit s) : LimitAnswer (resumeAir s) := by
  unfold resumeAir
  split
  · exact .accepted_lines h (by simp) _
  · exact .accepted (limitAfter_takeHead h _) _
  all_goals exact .refused h _

theorem limitAnswer_stepAir {s : State} (h : callersInLimit s) : LimitAnswer (stepAir s) := by
  unfold stepAir
  split
  · exact .accepted (limitAfter_takeHead (callersInLimit_of_lines h (by simp)) _) _
  all_goals exact .refused h _

theorem limitAnswer_setHoldAtPoint {s : State} (h : callersInLimit s) (value : Nat) :
    LimitAnswer (setHoldAtPoint value s) := by
  unfold setHoldAtPoint
  split
  · exact .refused h _
  · exact .accepted_lines h (by rfl) _

theorem callersInLimit_stopAll {s : State} (h : callersInLimit s) : callersInLimit s.stopAll := by
  have hentry : callersInLimit s.stopEntry := by
    unfold State.stopEntry
    split
    · exact h
    · rename_i o _
      split
      · exact h
      · exact callersInLimit_of_lines (callersInLimit_cutParts h o) (by simp)
  exact callersInLimit_of_lines hentry (by simp [State.stopAll])

theorem limitAnswer_stopAir {s : State} (h : callersInLimit s) : LimitAnswer (stopAir s) :=
  .ite (.refused h _) (.ite (.accepted (.of_some h) _) (.accepted (.of_some (callersInLimit_stopAll h)) _))

theorem limitAnswer_startAir {s : State} (h : callersInLimit s) : LimitAnswer (startAir s) :=
  .ite (.refused h _) (.ite (.refused h _) (.ite (.accepted (limitAfter_takeHead h _) _) (.refused h _)))

theorem limitAnswer_cueAirTo {s : State} (h : callersInLimit s) (n : Nat) : LimitAnswer (cueAirTo n s) := by
  unfold cueAirTo
  split
  · exact .refused h _
  · exact .refused h _
  all_goals
    split
    · exact .refused h _
    · exact .refused h _
    · exact .accepted (limitAfter_settleHead s (callersInLimit_of_lines h (by simp))) _

theorem limitAnswer_cuePlayer {s : State} (h : callersInLimit s) (player cart length : Nat) :
    LimitAnswer (cuePlayer player cart length s) := by
  unfold cuePlayer
  split
  · exact .refused h _
  · exact .ite (.refused h _) (.ite (.refused h _) (.accepted_lines h (by simp) _))

theorem limitAnswer_clearPlayer {s : State} (h : callersInLimit s) (player : Nat) :
    LimitAnswer (clearPlayer player s) := by
  unfold clearPlayer
  split
  · exact .refused h _
  · exact .ite (.refused h _) (.accepted_lines h (by simp) _)

theorem limitAnswer_setFader {s : State} (h : callersInLimit s) (source : Nat) (value : Int) :
    LimitAnswer (setFader source value s) := by
  unfold setFader
  split
  · exact .refused h _
  · exact .accepted_lines h (by simp) _

theorem limitAnswer_setTrim {s : State} (h : callersInLimit s) (source : Nat) (value : Int) :
    LimitAnswer (setTrim source value s) := by
  unfold setTrim
  split
  · exact .refused h _
  · exact .accepted_lines h (by simp) _

theorem limitAnswer_switchMic {s : State} (h : callersInLimit s) (source value : Nat) :
    LimitAnswer (switchMic source value s) := by
  unfold switchMic
  split
  · exact .accepted_lines h (by simp) _
  · exact .refused h _

/-! ### The owners of the line requests (R109 to R118) -/

theorem LimitAnswer.onLine {s : State} (h : callersInLimit s) {f : Fin 6 → Option (State × Reply)}
    (hf : ∀ l, LimitAnswer (f l)) (line : Nat) : LimitAnswer (onLine line s f) := by
  unfold Machine.onLine
  split
  · exact .refused h _
  · exact hf _

theorem limitAnswer_acceptCaller {s : State} (h : callersInLimit s) (line : Nat) (name : List Byte)
    (topic priority : Nat) : LimitAnswer (acceptCaller line name topic priority s) := by
  refine .onLine h (fun l => ?_) line
  split
  · exact .refused h _
  · refine .ite (.refused h _) (.ite (.accepted (.of_some ?_) _) (.refused h _))
    exact callersInLimit_of_callers (callersInLimit_putCaller h fun hc => by cases hc) rfl

theorem limitAnswer_rejectCaller {s : State} (h : callersInLimit s) (line : Nat) :
    LimitAnswer (rejectCaller line s) := by
  refine .onLine h (fun l => ?_) line
  split
  · exact .accepted (.of_some (callersInLimit_enterClearing h l _)) _
  · exact .accepted (.of_some (callersInLimit_enterClearing h l _)) _
  · exact .accepted (.of_some (callersInLimit_enterClearing h l _)) _
  all_goals exact .refused h _

theorem limitAfter_clearCall {s : State} (h : callersInLimit s) (l : Fin 6) (e : LastEnd) :
    LimitAfter (s.clearCall l e) :=
  .ite (limitAfter_testLastCaller (callersInLimit_enterClearing h l e)) (.of_some (callersInLimit_enterClearing h l e))

theorem limitAnswer_releaseCaller {s : State} (h : callersInLimit s) (role : Role) (line : Nat) :
    LimitAnswer (releaseCaller role line s) := by
  have hclear (l : Fin 6) : LimitAnswer (accepted (s.clearCall l .released) fun _ => []) :=
    .accepted (limitAfter_clearCall h l _) _
  refine .onLine h (fun l => ?_) line
  split
  · exact hclear l
  · exact hclear l
  · exact hclear l
  · exact .ite (.refused h _) (hclear l)
  all_goals exact .refused h _

/-- LINE_TAKE puts a line on air only while fewer than two are (R117). -/
theorem limitAnswer_takeCaller {s : State} (h : callersInLimit s) (line : Nat) : LimitAnswer (takeCaller line s) := by
  have htake (l : Fin 6) : LimitAnswer (if s.lines.alertHold then refused s .wrongState
      else if 2 ≤ s.linesOnAir.length then refused s .full else accepted (some (s.enterOnAir l)) fun _ => []) := by
    refine .ite (.refused h _) ?_
    split
    · exact .refused h _
    · refine .accepted (.of_some ?_) _
      have hone := s.linesOnAir_enterOnAir_le l
      unfold callersInLimit
      omega
  refine .onLine h (fun l => ?_) line
  split
  · exact .accepted (.of_some h) _
  · exact htake l
  · exact htake l
  all_goals exact .refused h _

theorem limitAnswer_dropCaller {s : State} (h : callersInLimit s) (line : Nat) : LimitAnswer (dropCaller line s) :=
  .onLine h (fun l => .ite (.accepted (limitAfter_testLastCaller (callersInLimit_enterHold h l _)) _) (.refused h _)) line

theorem limitAnswer_serviceLine {s : State} (h : callersInLimit s) (line value : Nat) :
    LimitAnswer (serviceLine line value s) := by
  refine .onLine h (fun l => ?_) line
  split
  · exact .refused h _
  · exact .accepted (.of_some (callersInLimit_putCaller h fun hc => by cases hc)) _
  · exact .accepted (.of_some (callersInLimit_putCaller h fun hc => by cases hc)) _
  · exact .accepted (.of_some h) _
  · exact .accepted (.of_some h) _
  · exact .refused h _

theorem limitAnswer_moveInQueue {s : State} (h : callersInLimit s) (line position : Nat) :
    LimitAnswer (moveInQueue line position s) :=
  .onLine h (fun _ => .ite (.refused h _) (.ite (.refused h _) (.ite (.refused h _)
    (.accepted (.of_some (callersInLimit_of_callers h (by rfl))) _)))) line

theorem limitAnswer_pinLine {s : State} (h : callersInLimit s) (line : Nat) : LimitAnswer (pinLine line s) :=
  .onLine h (fun _ => .ite (.accepted (.of_some (callersInLimit_putCaller_state h (by rfl))) _) (.refused h _)) line

theorem limitAnswer_noteCaller {s : State} (h : callersInLimit s) (line : Nat) (name : List Byte) (topic : Nat) :
    LimitAnswer (noteCaller line name topic s) := by
  refine .onLine h (fun l => ?_) line
  split
  · exact .refused h _
  · have hnote (tp : Option Nat) : LimitAnswer (accepted
        (some (s.putCaller l { s.caller l with name := some name, topic := tp, pinned := false })) fun t => callerB t l) :=
      .accepted (.of_some (callersInLimit_putCaller_state h (by rfl))) _
    refine .ite (.refused h _) ?_
    split
    · exact hnote _
    · exact hnote _
    · exact hnote _
    all_goals exact .refused h _

/-! ### The owners of the alert, site and part requests (chapters 7, 9 and 10) -/

theorem limitAnswer_writeClassEntry {s : State} (h : callersInLimit s) (c action deadline required : Nat) :
    LimitAnswer (writeClassEntry c action deadline required s) :=
  .ite (.accepted (limitAfter_writeClass h _ _) _) (.refused h _)

theorem limitAnswer_lockCompliance {s : State} (h : callersInLimit s) : LimitAnswer (lockCompliance s) :=
  .ite (.accepted (.of_some h) _) (.accepted_lines h (by rfl) _)

theorem limitAnswer_carryNamed {s : State} (h : callersInLimit s) (origin number : Nat) :
    LimitAnswer (carryNamed origin number s) := by
  unfold carryNamed
  split
  · exact .refused h _
  · exact .accepted (.ite (limitAfter_rankNotice (callersInLimit_of_lines h (by simp)) _) (.of_some h)) _

theorem limitAnswer_dismissNamed {s : State} (h : callersInLimit s) (origin number : Nat) :
    LimitAnswer (dismissNamed origin number s) := by
  unfold dismissNamed
  split
  · exact .refused h _
  · exact .ite (.refused h _) (.ite (.refused h _) (.accepted (limitAfter_retire h _ _) _))

theorem limitAnswer_setSite {s : State} (h : callersInLimit s) (param value : Nat) :
    LimitAnswer (setSite param value s) := by
  unfold setSite
  split
  · exact .refused h _
  · split
    · exact .refused h _
    · exact .accepted_lines h (by simp) _

theorem limitAnswer_setStationTime {s : State} (h : callersInLimit s) (time : Nat) :
    LimitAnswer (setStationTime time s) :=
  .ite (.refused h _) (.accepted (limitAfter_setClock h time) _)

theorem limitAnswer_clearEvents {s : State} (h : callersInLimit s) (pairs : List (Nat × Nat)) :
    LimitAnswer (clearEvents pairs s) :=
  .ite (.accepted_lines h (foldl_lines (fun s p => by simp) pairs s) _) (.refused h _)

theorem limitAnswer_maskEvents {s : State} (h : callersInLimit s) (mask : Vector Byte 24) :
    LimitAnswer (maskEvents mask s) := .accepted_lines h (by rfl) _

/-! ### The requests -/

/-- Every request that a WRITE brings keeps the limit. -/
theorem limitNext_runRequest (i : Instr) {s : State} (h : callersInLimit s) : LimitNext (runRequest i s) := by
  cases i with
  | roInsert role anchor body => exact .request h (limitAnswer_insertEntry h anchor body) _ _ _
  | roChange role handle body => exact .request h (limitAnswer_changeEntry h handle body) _ _ _
  | roMove role handle list anchor => exact .request h (limitAnswer_moveEntry h handle list anchor) _ _ _
  | roDelete role handle => exact .request h (limitAnswer_deleteEntry h handle) _ _ _
  | breakClear role brk => exact .request h (limitAnswer_clearBreak h brk) _ _ _
  | airMode role mode => exact .request h (limitAnswer_setMode h mode) _ _ _
  | airGo role => exact .request h (limitAnswer_giveGo h) _ _ _
  | airEndSegment role => exact .request h (limitAnswer_endAirSegment h) _ _ _
  | airHold role => exact .request h (limitAnswer_holdAir h) _ _ _
  | airResume role => exact .request h (limitAnswer_resumeAir h) _ _ _
  | airStep role => exact .request h (limitAnswer_stepAir h) _ _ _
  | airHoldAtPoint role value => exact .request h (limitAnswer_setHoldAtPoint h value) _ _ _
  | airStop role => exact .request h (limitAnswer_stopAir h) _ _ _
  | airStart role => exact .request h (limitAnswer_startAir h) _ _ _
  | airCueTo role handle => exact .request h (limitAnswer_cueAirTo h handle) _ _ _
  | playerCue role player cart length => exact .request h (limitAnswer_cuePlayer h player cart length) _ _ _
  | playerClear role player => exact .request h (limitAnswer_clearPlayer h player) _ _ _
  | busFader role source value => exact .request h (limitAnswer_setFader h source value) _ _ _
  | busTrim role source value => exact .request h (limitAnswer_setTrim h source value) _ _ _
  | micSwitch role source value => exact .request h (limitAnswer_switchMic h source value) _ _ _
  | lineAnswer role line =>
    simp only [runRequest, execLineAnswer]
    refine .request h ?_ _ _ _
    refine .onLine h (fun l => .ite (.accepted (.of_some ?_) _) (.refused h _)) line
    exact callersInLimit_putCaller h fun hc => by cases hc
  | lineAccept role line name topic priority =>
    exact .request h (limitAnswer_acceptCaller h line name topic priority) _ _ _
  | lineReject role line => exact .request h (limitAnswer_rejectCaller h line) _ _ _
  | lineRelease role line => exact .request h (limitAnswer_releaseCaller h role line) _ _ _
  | lineTake role line => exact .request h (limitAnswer_takeCaller h line) _ _ _
  | lineDrop role line => exact .request h (limitAnswer_dropCaller h line) _ _ _
  | lineService role line value => exact .request h (limitAnswer_serviceLine h line value) _ _ _
  | queueMove role line position => exact .request h (limitAnswer_moveInQueue h line position) _ _ _
  | linePin role line => exact .request h (limitAnswer_pinLine h line) _ _ _
  | lineNotes role line name topic => exact .request h (limitAnswer_noteCaller h line name topic) _ _ _
  | classWrite role cls action deadline required =>
    exact .request h (limitAnswer_writeClassEntry h cls action deadline required) _ _ _
  | complianceLock role => exact .request h (limitAnswer_lockCompliance h) _ _ _
  | alertCarry role origin number => exact .request h (limitAnswer_carryNamed h origin number) _ _ _
  | alertDismiss role origin number => exact .request h (limitAnswer_dismissNamed h origin number) _ _ _
  | siteSet role param value => exact .request h (limitAnswer_setSite h param value) _ _ _
  | configWriteTolerance role value =>
    simp only [runRequest, execConfigWriteTolerance]
    exact .request h (.accepted_lines h (by simp) _) _ _ _
  | configWriteFillPlayer role value =>
    simp only [runRequest, execConfigWriteFillPlayer]
    refine .request h ?_ _ _ _
    split
    · exact .refused h _
    · exact .accepted_lines h (by simp) _
  | configWriteHoldLimit role value =>
    simp only [runRequest, execConfigWriteHoldLimit]
    exact .request h (.accepted (.of_some (callersInLimit_of_callers h (by rfl))) _) _ _ _
  | configWriteCueGrace role value | configWriteThreshold role value | configWriteDeadAirLimit role value
  | configWriteDuckDepth role value | configWriteFoldBackLimit role value =>
    simp only [runRequest, execConfigWriteCueGrace, execConfigWriteThreshold, execConfigWriteDeadAirLimit,
      execConfigWriteDuckDepth, execConfigWriteFoldBackLimit]
    exact .request h (.accepted_lines h (by rfl) _) _ _ _
  | configWriteCalibration role item value =>
    simp only [runRequest, execConfigWriteCalibration]
    refine .request h ?_ _ _ _
    split
    · exact .accepted_lines h (by simp) _
    · exact .accepted_lines h (by simp) _
    · exact .refused h _
  | clockSet role time => exact .request h (limitAnswer_setStationTime h time) _ _ _
  | controllerReset role =>
    simp only [runRequest, execControllerReset]
    exact .request h (.accepted (limitAfter_controllerReset h) _) _ _ _
  | eventsClear role pairs => exact .request h (limitAnswer_clearEvents h pairs) _ _ _
  | eventsMask role mask => exact .request h (limitAnswer_maskEvents h mask) _ _ _
  | roRead _ _ | roList _ _ _ | airStatus _ | playerRead _ _ | lookaheadRead _ _ | timingRead _ | busRead _
  | callerRead _ _ | queueRead _ | classRead _ _ | classProbe _ _ _ _ _ | alertRead _ _ _ | alertList _
  | carriageRead _ | siteRead _ | configRead _ | clockRead _ | ident _ | eventsRead _ =>
    simp only [runRequest, execRoRead, execRoList, execAirStatus, execPlayerRead, execLookaheadRead, execTimingRead,
      execBusRead, execCallerRead, execQueueRead, execClassRead, execClassProbe, execAlertRead, execAlertList,
      execCarriageRead, execSiteRead, execConfigRead, execClockRead, execIdent, execEventsRead]
    exact .readRequest h _ _ _ _
  | _ => exact .of_next h

theorem limitNext_portWrite (bytes : List Byte) {s : State} (h : callersInLimit s) : LimitNext (portWrite bytes s) := by
  have hbad (st : Status) : LimitNext (.next (s.answerBad bytes st)) := by
    refine .of_next (callersInLimit_of_lines h ?_)
    unfold State.answerBad
    split <;> simp
  unfold portWrite
  refine .ite (.of_next (callersInLimit_of_lines h (by simp))) ?_
  split
  · exact hbad _
  · exact hbad _
  · exact limitNext_runRequest _ h

theorem portRead_lines (clocked : Nat) (s : State) : (portRead clocked s).lines = s.lines := by
  unfold portRead
  split <;> rfl

/-! ### Edges, timers and frames -/

/-- A ring event puts no line on air: it acts in IDLE and RINGING alone (R108). -/
theorem callersInLimit_ringEvent {s : State} (h : callersInLimit s) (l : Fin 6) : callersInLimit (s.ringEvent l) := by
  unfold State.ringEvent
  dsimp only
  split
  · exact callersInLimit_of_lines (callersInLimit_putCaller (l := l) h fun hc => by cases hc) (State.raise_lines _ _ _)
  · exact callersInLimit_putCaller_state h (by rfl)
  all_goals exact h

theorem callersInLimit_loopEdge {s : State} (h : callersInLimit s) (l : Fin 6) (level : Bool) :
    callersInLimit (s.putCaller l ((s.caller l).loopEdge level s.clock.mono)) := by
  refine callersInLimit_putCaller h fun hc => ?_
  have hsame : ((s.caller l).loopEdge level s.clock.mono).state = (s.caller l).state := by
    unfold Caller.loopEdge
    split
    · rfl
    · split <;> rfl
  exact hsame ▸ hc

theorem limitAfter_loopDrop {s : State} (h : callersInLimit s) (l : Fin 6) : LimitAfter (s.loopDrop l) :=
  .ite (limitAfter_clearCall (callersInLimit_of_lines h (State.raise_lines _ _ _)) l _) (.of_some h)

theorem limitAfter_takeSegue {s : State} (h : callersInLimit s) : LimitAfter s.takeSegue := by
  unfold State.takeSegue
  split
  · exact .of_some h
  · have hput (o : OnAir) : callersInLimit (s.putOnAir (some o)) := callersInLimit_of_lines h (by simp)
    dsimp only
    split
    · exact .ite (limitAfter_takeHead (callersInLimit_of_lines h (by simp)) _) (.of_some (hput _))
    · exact .of_some (hput _)

theorem limitAfter_takeCutInstant {s : State} (h : callersInLimit s) : LimitAfter s.takeCutInstant := by
  unfold State.takeCutInstant
  split
  · exact limitAfter_takeCut h _
  · exact .of_some h

theorem limitAfter_takeEnd {s : State} (h : callersInLimit s) (p : Fin 4) : LimitAfter (s.takeEnd p) :=
  .ite (limitAfter_endOnAir h _) (.ite (limitAfter_endOutgoing h)
    (.ite (.of_some (callersInLimit_of_lines h (by simp))) (.of_some h)))

/-! ### Every command, and the step -/

/-- After a power-on reset every line is IDLE (R125). -/
theorem callersInLimit_resetCallers {s : State} {levels : PinLevels} (hc : s.lines.callers = Lines.resetCallers levels) :
    callersInLimit s := by
  have hidle (l : Fin 6) : ((Lines.resetCallers levels)[l]).state = .idle := by fin_cases l <;> rfl
  have hnone : s.linesOnAir = [] := State.linesOnAir_eq_nil.mpr fun l hl => by
    rw [State.caller, hc, hidle] at hl
    cases hl
  simp [callersInLimit, hnone]

theorem limitAfter_goEdge {s : State} (h : callersInLimit s) : LimitAfter (s.takeGo.map Prod.fst) := fun t ht => by
  obtain ⟨⟨u, acted⟩, hu, rfl⟩ := Option.map_eq_some_iff.mp ht
  exact State.takeGo_limit h hu

theorem limitAfter_netA {s : State} (h : callersInLimit s) : LimitAfter s.netA := .ite (limitAfter_startHead h) (.of_some h)

/-- A command that a request frame holds means the same as a WRITE and as a command of its own. -/
theorem exec_of_request {i : Instr} (hi : i.request?.isSome = true) (s : State) : exec i s = runRequest i s := by
  cases i <;> first | rfl | cases hi

/-- Every command keeps the limit. -/
theorem limitNext_exec (i : Instr) {s : State} (h : callersInLimit s) : LimitNext (exec i s) := by
  by_cases hi : i.request?.isSome = true
  · exact exec_of_request hi s ▸ limitNext_runRequest i h
  cases i with
  | writeTransactionBad first bytes =>
    exact .ite (limitNext_portWrite bytes h)
      (.ite (.of_next (callersInLimit_of_lines h (portRead_lines _ s))) (.of_next h))
  | portOverrun bytes => exact limitNext_portWrite bytes h
  | read clocked => exact .of_next (callersInLimit_of_lines h (portRead_lines clocked s))
  | powerOnReset levels =>
    exact powerOnResetLeavesResetState levels s ▸ .of_next (callersInLimit_resetCallers (levels := levels) rfl)
  | goEdge =>
    have hlevel : callersInLimit { s with air := { s.air with goLevel := true } } := callersInLimit_of_lines h rfl
    exact .ite (.of_next h) (.finish (limitAfter_goEdge hlevel))
  | netAEdge =>
    have hlevel : callersInLimit { s with air := { s.air with netALevel := true } } := callersInLimit_of_lines h rfl
    exact .ite (.of_next h) (.finish (limitAfter_netA hlevel))
  | netBEdge =>
    have hlevel : callersInLimit { s with air := { s.air with netBLevel := true } } := callersInLimit_of_lines h rfl
    exact .ite (.of_next h) (.finish (.ite (limitAfter_endOnAir hlevel _) (.of_some hlevel)))
  | endInput player => exact .finish (limitAfter_takeEnd h player)
  | endTimer => exact .ite (.finish (limitAfter_endOnAir h _)) (.of_next h)
  | seguePoint => exact .ite (.finish (limitAfter_takeSegue h)) (.of_next h)
  | outgoingEnd => exact .ite (.finish (limitAfter_endOutgoing h)) (.of_next h)
  | graceDeadline => exact .ite (.finish (limitAfter_takeHead (callersInLimit_missed h) _)) (.of_next h)
  | postInstant => exact .ite (.finish (limitAfter_takePost h)) (.of_next h)
  | cutInstant => exact .ite (.finish (limitAfter_takeCutInstant h)) (.of_next h)
  | cutCompletion player => exact .ite (.of_next (callersInLimit_of_lines h (by simp))) (.of_next h)
  | fillWithdrawalEnd player => exact .ite (.of_next (callersInLimit_of_lines h (by simp))) (.of_next h)
  | gainUpdate => exact .ite (.of_next (callersInLimit_of_lines h (by simp))) (.of_next h)
  | deadAirWindow => exact .ite (.of_next (callersInLimit_of_lines h (by simp))) (.of_next h)
  | periodicTimer => exact .ite (.of_next (callersInLimit_of_lines h (by simp))) (.of_next h)
  | samplePeriod lanes talkback => exact .of_next (callersInLimit_of_lines h (by simp))
  | cueInputFall input =>
    refine .of_next (callersInLimit_of_lines h ?_)
    cases input <;> rfl
  | ringEvent line =>
    exact .ite (.of_next h) (.of_next (callersInLimit_ringEvent (callersInLimit_putCaller_state h (by rfl)) line))
  | ringFall line => exact .of_next (callersInLimit_putCaller_state h (by rfl))
  | loopEdge line level => exact .of_next (callersInLimit_loopEdge h line level)
  | loopDrop line => exact .ite (.finish (limitAfter_loopDrop h line)) (.of_next h)
  | ringTimer line => exact .ite (.of_next (callersInLimit_putCaller h fun hc => by cases hc)) (.of_next h)
  | clearingTimer line => exact .ite (.of_next (callersInLimit_putCaller h fun hc => by cases hc)) (.of_next h)
  | holdTimer line =>
    refine .ite (.of_next (callersInLimit_of_lines (callersInLimit_putCaller_state h ?_) (State.raise_lines _ _ _)))
      (.of_next h)
    rfl
  | issue frame => exact .finish (limitAfter_takeIssue (callersInLimit_of_lines h (by simp)) frame)
  | cancel origin number => exact .finish (limitAfter_takeCancel (callersInLimit_of_lines h (by simp)) origin number)
  | audioEnd => exact .finish (limitAfter_takeAudio (callersInLimit_of_lines h (by simp)) _)
  | audioFail => exact .finish (limitAfter_takeAudio (callersInLimit_of_lines h (by simp)) _)
  | alertFrameAbandoned bytes => exact .finish (LimitAfter.foldSteps (fun b _ ht => limitAfter_alertByte b ht) h bytes)
  | alertFrameGap => exact .ite (.of_next (callersInLimit_of_lines h (by simp))) (.of_next h)
  | alertFrameSent => exact .of_next (callersInLimit_of_lines h (by simp))
  | validFrom slot => exact .ite (.finish (limitAfter_makeEligible h slot _)) (.of_next h)
  | expiry slot => exact .ite (.finish (limitAfter_retire h slot _)) (.of_next h)
  | nextEligible slot => exact .ite (.finish (limitAfter_makeEligible h slot _)) (.of_next h)
  | deadlineExpiry slot => exact .ite (.of_next (callersInLimit_expireDeadline h slot)) (.of_next h)
  | guardExpiry => exact .ite (.finish (limitAfter_endCarriage h _)) (.of_next h)
  | ack sequence param value =>
    exact .finish (limitAfter_validFrame (callersInLimit_of_lines h (by simp)) (by simp))
  | nak sequence reason =>
    exact .finish (limitAfter_validFrame (callersInLimit_of_lines h (by simp)) (by simp))
  | reading sequence channel code =>
    exact .finish (limitAfter_validFrame (callersInLimit_of_lines h (by simp)) (by simp))
  | siteState active carrier audio fallback =>
    exact .finish (limitAfter_validFrame (callersInLimit_of_lines h (by simp)) (by simp))
  | siteFrameAbandoned bytes => exact .finish (LimitAfter.foldSteps (fun b _ ht => limitAfter_siteByte b ht) h bytes)
  | siteFrameGap => exact .ite (.of_next (callersInLimit_of_lines h (by simp))) (.of_next h)
  | siteFrameSent => exact .of_next (callersInLimit_of_lines h (by simp))
  | keepTimer => exact .ite (.of_next (callersInLimit_of_lines h (by simp))) (.of_next h)
  | pollTimer => exact .ite (.of_next (callersInLimit_of_lines h (by simp))) (.of_next h)
  | ackTimeout sequence =>
    change LimitNext (execAckTimeout sequence s)
    unfold execAckTimeout
    split
    · exact .of_next (callersInLimit_of_lines h (by simp))
    · exact .of_next h
  | retryTimer param => exact .ite (.of_next (callersInLimit_of_lines h (by simp))) (.of_next h)
  | silenceTimerDegrade => exact .ite (.of_next (callersInLimit_of_lines h (by rfl))) (.of_next h)
  | silenceTimerLoss => exact .ite (.of_next (callersInLimit_of_lines h (by rfl))) (.of_next h)
  | changeoverTimer =>
    change LimitNext (execChangeoverTimer s)
    unfold execChangeoverTimer
    split
    · exact .of_next (callersInLimit_of_lines h (by simp))
    · exact .of_next h
  | readingStale channel => exact .ite (.of_next (callersInLimit_of_lines h (by simp))) (.of_next h)
  | _ => exact absurd rfl hi

theorem callersInLimit_tick {s : State} (h : callersInLimit s) : callersInLimit s.tick := by
  unfold State.tick
  split <;> exact callersInLimit_of_lines h (by rfl)

/-- Settles O5: each operation that puts a line on air looks first at how many are, and every command is made of them. -/
theorem stepKeepsTwoCallersOnAir : Obligations.StepKeepsTwoCallersOnAir := by
  unfold Obligations.StepKeepsTwoCallersOnAir
  intro s t h ht
  unfold step at ht
  split at ht
  · cases ht
    exact callersInLimit_tick h
  · rename_i i rest _
    exact limitNext_exec i (callersInLimit_of_lines h (by rfl)) t ht

/-! ### The reset state -/

/-- Settles O2: after a power-on reset every table is empty, every count 0 and every line IDLE. -/
theorem resetMeetsSafety : Obligations.ResetMeetsSafety := by
  unfold Obligations.ResetMeetsSafety
  refine ⟨?station, ⟨fun o => ?count, Nat.zero_le _, Nat.zero_le _⟩,
    callersInLimit_resetCallers (levels := PinLevels.low) rfl, ⟨Nat.zero_le _, fun p => Nat.zero_le _⟩, ⟨rfl, rfl⟩,
    fun c hc => ?required⟩
  case station => exact Nat.two_pow_pos 40
  case count => simp [State.occurrence, State.reset, State.powerOn]
  case required =>
    have hfresh : State.reset.classEntry c = ClassEntry.fresh := rfl
    rw [hfresh] at hc
    cases hc

end Sys2Proof.Machine
end

section
/-! PROOFS. The caller lines' requests, edges and timers (O40 to O43, O45): each acts on its own line's record, on the queue,
or on both. -/

namespace Sys2Proof.Machine

open Sys2Proof.Safety

/-! ### A caller record written twice, and a line named by its number -/

theorem State.putCaller_putCaller (s : State) (l : Fin 6) (a b : Caller) :
    (s.putCaller l a).putCaller l b = s.putCaller l b := by
  simp [State.putCaller]

theorem State.caller_putCaller_self (s : State) (l : Fin 6) (c : Caller) : (s.putCaller l c).caller l = c := by
  simp

/-- A line's request names it by its number 1..6 (R107). -/
theorem readLine_succ (l : Fin 6) : readLine (l.val + 1) = some l := readIndex_succ l

theorem onLine_succ (l : Fin 6) (s : State) (f : Fin 6 → Option (State × Reply)) : onLine (l.val + 1) s f = f l := by
  simp only [onLine, readLine_succ]

theorem readLine_outside {n : Nat} (h : n = 0 ∨ 6 < n) : readLine n = none := dif_neg (by omega)

theorem onLine_outside {n : Nat} (h : n = 0 ∨ 6 < n) (s : State) (f : Fin 6 → Option (State × Reply)) :
    onLine n s f = refused s .badField := by
  simp only [onLine, readLine_outside h]

/-! ### Line numbers and roles (R107) -/

/-- Every line request is a request under its code, whose owner looks at the line number first. -/
theorem exec_lineRequest {role : Role} {n a b : Nat} {name : List Byte} {i : Instr} {code : Nat}
    (h : (i, code) ∈ [(.lineAnswer role n, 0x40), (.lineAccept role n name a b, 0x41), (.lineReject role n, 0x42),
      (.lineRelease role n, 0x43), (.lineTake role n, 0x44), (.lineDrop role n, 0x45), (.lineService role n a, 0x46),
      (.queueMove role n a, 0x47), (.linePin role n, 0x48), (.lineNotes role n name a, 0x49),
      (.callerRead role n, 0x4A)]) (s : State) :
    ∃ owner, exec i s = request code role (permittedRoles code) s owner ∧
      (n = 0 ∨ 6 < n → owner s = refused s .badField) := by
  simp only [List.mem_cons, Prod.mk.injEq, List.not_mem_nil, or_false] at h
  obtain ⟨rfl, rfl⟩ | ⟨rfl, rfl⟩ | ⟨rfl, rfl⟩ | ⟨rfl, rfl⟩ | ⟨rfl, rfl⟩ | ⟨rfl, rfl⟩ | ⟨rfl, rfl⟩ | ⟨rfl, rfl⟩ |
    ⟨rfl, rfl⟩ | ⟨rfl, rfl⟩ | ⟨rfl, rfl⟩ := h
  · exact ⟨fun t => onLine n t fun l => if (t.caller l).state = .ringing then accepted (some (t.answerLine l)) fun _ => []
      else refused t .wrongState, rfl, fun hn => onLine_outside hn s _⟩
  · exact ⟨acceptCaller n name a b, rfl, fun hn => onLine_outside hn s _⟩
  · exact ⟨rejectCaller n, rfl, fun hn => onLine_outside hn s _⟩
  · exact ⟨releaseCaller role n, rfl, fun hn => onLine_outside hn s _⟩
  · exact ⟨takeCaller n, rfl, fun hn => onLine_outside hn s _⟩
  · exact ⟨dropCaller n, rfl, fun hn => onLine_outside hn s _⟩
  · exact ⟨serviceLine n a, rfl, fun hn => onLine_outside hn s _⟩
  · exact ⟨moveInQueue n a, rfl, fun hn => onLine_outside hn s _⟩
  · exact ⟨pinLine n, rfl, fun hn => onLine_outside hn s _⟩
  · exact ⟨noteCaller n name a, rfl, fun hn => onLine_outside hn s _⟩
  · exact ⟨fun t => some (t, answerCaller n t), rfl, fun hn => by simp only [answerCaller, readLine_outside hn]; rfl⟩

/-- Settles O40: a line request's owner looks at the line number first, and `request` at the role before it. -/
theorem lineNumberOutOfRangeRefused : Obligations.LineNumberOutOfRangeRefused := by
  unfold Obligations.LineNumberOutOfRangeRefused
  intro s role n a b name i code hp hi
  obtain ⟨owner, hexec, howner⟩ := exec_lineRequest hi s
  refine ⟨fun hrole hn => ?badField, fun hrole => ?role⟩
  case badField => exact hexec.trans (request_owner hp (List.contains_iff_mem.mpr hrole) (howner hn))
  case role => exact hexec.trans (request_role hp (by simpa using hrole))

/-! ### RING (R105, R108) -/

/-- A ring event on an IDLE line begins a call (R108). -/
theorem State.ringEvent_idle {s : State} {l : Fin 6} (h : (s.caller l).state = .idle) :
    s.ringEvent l = (s.putCaller l
      { s.caller l with state := .ringing, name := none, topic := none, priority := 0, queuedAt := none, airTime := 0,
                        airSince := none, holdTimer := none, overdue := false, pinned := false, restore := false,
                        ringStart := some s.clock.station, ringTimer := some (s.clock.mono + 6000) }).raise
      .callerRinging (some (.callerRinging l)) := by
  simp only [State.ringEvent, h]

/-- A ring event in RINGING restarts the ring timer (R108). -/
theorem State.ringEvent_ringing {s : State} {l : Fin 6} (h : (s.caller l).state = .ringing) :
    s.ringEvent l = s.putCaller l { s.caller l with ringTimer := some (s.clock.mono + 6000) } := by
  simp only [State.ringEvent, h]

theorem exec_ringEvent_rise {s : State} {l : Fin 6} (h : (s.caller l).ring = false) :
    exec (.ringEvent l) s = .next ((s.putCaller l { s.caller l with ring := true }).ringEvent l) :=
  if_neg (by simp [h])

/-- Settles O41: a rise of RING writes the level and is then a ring event by the line's state. -/
theorem ringEventsBeginAndMissCalls : Obligations.RingEventsBeginAndMissCalls := by
  unfold Obligations.RingEventsBeginAndMissCalls
  refine fun s l => ⟨fun hring hidle => ?begins, fun hring hstate => ?restarts, fun hring => if_pos hring,
    fun x hstate hx hdue => ?missed, rfl⟩
  case begins =>
    rw [exec_ringEvent_rise hring, State.ringEvent_idle (by simpa using hidle), State.caller_putCaller_self,
      State.putCaller_putCaller]
    rfl
  case restarts =>
    rw [exec_ringEvent_rise hring, State.ringEvent_ringing (by simpa using hstate), State.caller_putCaller_self,
      State.putCaller_putCaller]
    rfl
  case missed => exact if_pos (by simp [State.ringDue, hstate, hx, reached, hdue])

/-! ### The queue (R114, R115) -/

/-- A joining line stands behind the lines of its priority or higher that stand before the first of a lower one (R114). -/
theorem State.joinQueue_split (s : State) (l : Fin 6) (p : Nat) (q : List (Fin 6)) :
    ∃ front back, q = front ++ back ∧ s.joinQueue l p q = front ++ l :: back ∧
      (∀ m ∈ front, p ≤ (s.caller m).priority) ∧ (∀ m, back.head? = some m → (s.caller m).priority < p) := by
  induction q with
  | nil => exact ⟨[], [], by simp [State.joinQueue]⟩
  | cons m rest ih =>
    by_cases hm : (s.caller m).priority < p
    · exact ⟨[], m :: rest, by simp [State.joinQueue, hm]⟩
    · obtain ⟨front, back, hq, hjoin, hfront, hback⟩ := ih
      refine ⟨m :: front, back, by simp [hq], by simp [State.joinQueue, hm, hjoin], ?_, hback⟩
      simpa using ⟨Nat.not_lt.mp hm, hfront⟩

/-- A line placed at a position of the queue stands there, as far as there are lines before it (R115). -/
theorem placeAtPosition_getElem? {l : Fin 6} {n : Nat} {q : List (Fin 6)} (hn : n - 1 ≤ (q.filter (· ≠ l)).length) :
    (placeAtPosition l n q)[n - 1]? = some l := by
  have hlen : ((q.filter (· ≠ l)).take (n - 1)).length = n - 1 := List.length_take_of_le hn
  unfold placeAtPosition
  dsimp only
  rw [List.getElem?_append_right (by omega), hlen, Nat.sub_self]
  rfl

/-- The other lines of the queue keep their order (R115). -/
theorem placeAtPosition_others (l : Fin 6) (n : Nat) (q : List (Fin 6)) :
    (placeAtPosition l n q).filter (· ≠ l) = q.filter (· ≠ l) := by
  unfold placeAtPosition
  dsimp only
  rw [List.filter_append, List.filter_cons_of_neg (by simp), ← List.filter_append, List.take_append_drop,
    List.filter_filter]
  simp

/-! ### LINE_ANSWER and LINE_ACCEPT (R109, R110) -/

/-- Settles O42: the owners accept, and the accepted line's place is `joinQueue`'s. -/
theorem answeredCallersJoinQueue : Obligations.AnsweredCallersJoinQueue := by
  unfold Obligations.AnsweredCallersJoinQueue
  refine fun s l hp => ⟨fun hl => ?answer, fun name topic tp priority hl htopic hname hpr => ?accept⟩
  case answer =>
    change execLineAnswer .screener (l.val + 1) s = _
    unfold execLineAnswer
    refine request_owner hp rfl (u := s.answerLine l) ?_
    rw [onLine_succ, if_pos hl]
    rfl
  case accept =>
    obtain ⟨front, back, hq, hjoin, hfront, hback⟩ := s.joinQueue_split l priority s.lines.queue
    have hcaller : (s.acceptLine l name tp priority).caller l = { s.caller l with
        state := .ready, name := some name, topic := tp, priority, queuedAt := some s.clock.mono, pinned := false,
        holdTimer := some (s.clock.mono + s.lines.holdLimit * 60000) } := State.caller_putCaller_self s l _
    refine ⟨(s.acceptLine l name tp priority).answer 0x41 (.ok (callerB (s.acceptLine l name tp priority) l ++
        be 1 (queuePosition l (s.acceptLine l name tp priority).lines.queue 1))),
      request_owner (owner := acceptCaller (l.val + 1) name topic priority) hp rfl ?_, rfl,
      ⟨front, back, hq, hjoin, hfront, hback⟩,
      congrArg (fun c => { (s.putCaller l c).lines with queue := s.joinQueue l priority s.lines.queue }) hcaller.symm,
      hcaller⟩
    have hrange : ¬(nameInRange name = false ∨ 3 < priority) := by simp [hname, hpr]
    simp only [acceptCaller, onLine_succ, htopic, if_neg hrange, hl, if_true, accepted, Option.map_some]

/-! ### A call cleared (R111, R112) -/

theorem State.enterClearing_cleared (s : State) (l : Fin 6) (e : LastEnd) : CallCleared s (s.enterClearing l e) l e := by
  have hcaller : (s.enterClearing l e).caller l = { (s.caller l).stopAir s.clock.mono with
      state := .clearing, lastEnd := some e, loopTimer := none, holdTimer := none, overdue := false, pinned := false,
      restore := false, clearingTimer := some (s.clock.mono + 1000) } :=
    State.caller_putCaller_self (s.leaveQueue l) l _
  have hqueue : (s.enterClearing l e).lines.queue = s.lines.queue.filter (· ≠ l) := rfl
  have hothers (m : Fin 6) (hm : m ≠ l) : (s.enterClearing l e).caller m = s.caller m :=
    (State.caller_putCaller (s.leaveQueue l) l m _).trans (if_neg hm)
  simpa [CallCleared, State.hook, hcaller, hqueue, LineState.offHook] using hothers

theorem State.clearCall_offAir {s : State} {l : Fin 6} (h : (s.caller l).state ≠ .onAir) (e : LastEnd) :
    s.clearCall l e = some (s.enterClearing l e) := if_neg h

/-- Settles O43: off the air a call is cleared by `enterClearing` alone, whatever clears it. -/
theorem callsAreCleared : Obligations.CallsAreCleared := by
  unfold Obligations.CallsAreCleared
  refine fun s l => ⟨fun hl => ⟨fun hp => ?reject, fun hp => ?release, fun x hx hdue => ?drop⟩, fun x hl hx hdue => ?idle⟩
  case reject =>
    refine ⟨(s.enterClearing l .rejected).answer 0x42 (.ok []),
      request_owner (owner := rejectCaller (l.val + 1)) hp rfl ?_, s.enterClearing_cleared l .rejected, rfl⟩
    obtain hx | hx | hx := hl <;> simp [rejectCaller, onLine_succ, hx, accepted]
  case release =>
    have hoff : (s.caller l).state ≠ .onAir := by obtain hx | hx | hx := hl <;> simp [hx]
    refine ⟨(s.enterClearing l .released).answer 0x43 (.ok []),
      request_owner (owner := releaseCaller .presenter (l.val + 1)) hp rfl ?_, s.enterClearing_cleared l .released, rfl⟩
    have hclear := State.clearCall_offAir hoff .released
    obtain hx | hx | hx := hl <;> simp [releaseCaller, onLine_succ, hx, hclear, accepted]
  case drop =>
    have hoff : (s.caller l).state ≠ .onAir ∧ (s.caller l).state.offHook = true := by
      obtain hx | hx | hx := hl <;> simp [hx, LineState.offHook]
    obtain ⟨hair, hhook⟩ := hoff
    let u : State := s.raise .callerCleared (some (.callerCleared l (s.caller l).state))
    have hoccur : u.occurrence .callerCleared =
        { count := countUp 255 (s.occurrence .callerCleared).count
          detail := some (.callerCleared l (s.caller l).state) } := State.occurrence_raise_self s _ _
    refine ⟨u.enterClearing l .hungUp, ?_, u.enterClearing_cleared l .hungUp, rfl, congrArg OccRecord.detail hoccur,
      congrArg OccRecord.count hoccur⟩
    have hclear : u.clearCall l .hungUp = some (u.enterClearing l .hungUp) := State.clearCall_offAir (s := u) hair _
    change execLoopDrop l s = _
    rw [execLoopDrop, if_pos (by simp [State.loopDue, hx, reached, hdue])]
    exact finish_next.mpr ((if_pos hhook).trans hclear)
  case idle => exact if_pos (by simp [State.clearingDue, hl, hx, reached, hdue])

/-! ### LINE_SERVICE, QUEUE_MOVE, LINE_PIN, LINE_NOTES and LOOP (R105, R113 to R116) -/

/-- A queue that holds a line at most once holds as many others as it has places, or one fewer. -/
theorem length_le_others {l : Fin 6} {q : List (Fin 6)} (h : q.countP (· = l) ≤ 1) :
    q.length ≤ (q.filter (· ≠ l)).length + 1 := by
  have hsplit := List.length_eq_countP_add_countP (fun m => decide (m = l)) (l := q)
  have hothers : (q.filter (· ≠ l)).length = q.countP (fun m => decide ¬(decide (m = l)) = true) := by
    simp [List.countP_eq_length_filter]
  omega

/-- Settles O45: each owner accepts, and an edge of LOOP starts the loop-drop timer by HOOK. -/
theorem lineServiceQueueAndNotes : Obligations.LineServiceQueueAndNotes := by
  unfold Obligations.LineServiceQueueAndNotes
  refine fun s l hp => ⟨fun hl => ?outOfService, fun hl => ?backInService, fun n hl hlo hhi hlen honce => ?move,
    fun hl => ?pin, fun name topic tp hl htopic hname => ?notes, rfl, fun hloop => ?fall⟩
  case outOfService =>
    refine request_owner (owner := serviceLine (l.val + 1) 0) hp rfl (u := s.moveLine l .outOfService) ?_
    simp [serviceLine, onLine_succ, readFlag, hl, accepted]
  case backInService =>
    refine request_owner (owner := serviceLine (l.val + 1) 1) hp rfl (u := s.moveLine l .idle) ?_
    simp [serviceLine, onLine_succ, readFlag, hl, accepted]
  case move =>
    let t : State := { s with lines := { s.lines with queue := placeAtPosition l n s.lines.queue } }
    have hothers := length_le_others honce
    refine ⟨t.answer 0x47 (.ok (queueB t)), request_owner (owner := moveInQueue (l.val + 1) n) hp rfl ?_, rfl,
      placeAtPosition_getElem? (by omega), placeAtPosition_others l n s.lines.queue⟩
    have hrange : ¬(n = 0 ∨ 6 < n) := by omega
    have hplaces : ¬s.lines.queue.length < n := by omega
    simp [moveInQueue, onLine_succ, hrange, hplaces, hl, accepted, t]
  case pin =>
    refine request_owner (owner := pinLine (l.val + 1)) hp rfl ?_
    simp [pinLine, onLine_succ, hl, accepted]
  case notes =>
    let t : State := s.putCaller l { s.caller l with name := some name, topic := tp, pinned := false }
    refine ⟨t.answer 0x49 (.ok (callerB t l)),
      request_owner (owner := noteCaller (l.val + 1) name topic) hp rfl ?_, rfl⟩
    obtain hx | hx | hx := hl <;> simp [noteCaller, onLine_succ, htopic, hname, hx, accepted, t]
  case fall =>
    have hedge : (s.caller l).loopEdge false s.clock.mono = { s.caller l with
        loop := false, loopTimer := if s.hook l then some (s.clock.mono + 400) else (s.caller l).loopTimer } := by
      unfold Caller.loopEdge State.hook
      simp only [hloop, Bool.true_and, Bool.false_eq_true, if_false]
      split <;> rfl
    exact congrArg (fun c => Host.Outcome.next (s.putCaller l c)) hedge

end Sys2Proof.Machine
end

section
/-! PROOFS. An immediate carriage of an alert (O51): the ISSUE that starts it, the preemption and the hold notice of its
start, the judgement at its end, and the ways the air is given back. -/

namespace Sys2Proof.Machine

open Sys2Proof.Safety

/-! ### The hold notice and the restore notice (R123) -/

/-- A line that was ON_AIR as the hold notice leaves it (R118, R123). -/
def HeldForAlert (s : State) (l : Fin 6) : Caller :=
  { s.caller l with state := .hold, airTime := (s.caller l).airTimeAt s.clock.mono, airSince := none,
                    holdTimer := some (s.clock.mono + s.lines.holdLimit * 60000), restore := true }

/-- Lines put on hold in turn are each put there once. -/
theorem State.caller_enterHolds (ls : List (Fin 6)) (hnd : ls.Nodup) (s : State) (m : Fin 6) :
    (ls.foldl (fun u l => u.enterHold l true) s).caller m = if m ∈ ls then HeldForAlert s m else s.caller m := by
  induction ls generalizing s with
  | nil => rfl
  | cons l rest ih =>
    obtain ⟨hl, hrest⟩ := List.nodup_cons.mp hnd
    rw [List.foldl_cons, ih hrest]
    by_cases hm : m = l
    · subst hm
      simp [hl, State.caller_enterHold, HeldForAlert]
    · have hlimit : (s.enterHold l true).lines.holdLimit = s.lines.holdLimit := rfl
      simp [hm, State.caller_enterHold, HeldForAlert, hlimit]

/-- The state with the alert hold flag written. -/
def State.putAlertHold (s : State) (v : Bool) : State := { s with lines := { s.lines with alertHold := v } }

@[simp] theorem State.caller_putAlertHold (s : State) (v : Bool) (l : Fin 6) :
    (s.putAlertHold v).caller l = s.caller l := rfl

@[simp] theorem State.putAlertHold_frame (s : State) (v : Bool) :
    (s.putAlertHold v).clock = s.clock ∧ (s.putAlertHold v).store = s.store ∧ (s.putAlertHold v).air = s.air ∧
    (s.putAlertHold v).receiver = s.receiver ∧ (s.putAlertHold v).sched = s.sched ∧
    (s.putAlertHold v).port = s.port ∧ (s.putAlertHold v).events = s.events ∧
    (s.putAlertHold v).freeUsed = s.freeUsed ∧ (s.putAlertHold v).pending = s.pending ∧
    (s.putAlertHold v).lines = { s.lines with alertHold := v } := by
  simp [State.putAlertHold]

theorem State.suspendSegment_segment (s : State) (v : Bool) :
    (s.suspendSegment v).lines.segment = s.lines.segment.map fun g => { g with suspended := v } := rfl

theorem State.holdNotice_eq (s : State) :
    s.holdNotice = ((s.putAlertHold true).linesOnAir.foldl (fun u l => u.enterHold l true)
      (s.putAlertHold true)).suspendSegment true := rfl

/-- The hold notice sets the alert hold flag, suspends the segment and holds the lines ON_AIR (R123). -/
theorem State.holdNotice_lines (s : State) :
    s.holdNotice.lines.alertHold = true ∧ s.holdNotice.lines.queue = s.lines.queue ∧
    s.holdNotice.lines.segment = s.lines.segment.map (fun g => { g with suspended := true }) ∧
    ∀ l, s.holdNotice.caller l = if (s.caller l).state = .onAir then HeldForAlert s l else s.caller l := by
  have hhold := foldl_frame (fun u => u.lines.alertHold)
    (fun u l => (rfl : (u.enterHold l true).lines.alertHold = u.lines.alertHold)) s.linesOnAir (s.putAlertHold true)
  have hqueue := foldl_frame (fun u => u.lines.queue)
    (fun u l => (rfl : (u.enterHold l true).lines.queue = u.lines.queue)) s.linesOnAir (s.putAlertHold true)
  have hseg := foldl_frame (fun u => u.lines.segment)
    (fun u l => (rfl : (u.enterHold l true).lines.segment = u.lines.segment)) s.linesOnAir (s.putAlertHold true)
  have hcaller := State.caller_enterHolds s.linesOnAir s.linesOnAir_nodup (s.putAlertHold true)
  simp only [State.mem_linesOnAir, State.caller_putAlertHold] at hcaller
  rw [State.holdNotice_eq]
  exact ⟨hhold, hqueue, (State.suspendSegment_segment _ _).trans (congrArg _ hseg), hcaller⟩

/-- With no segment active and no line waiting to be restored, the restore notice clears the alert hold flag (R123). -/
theorem State.restoreNotice_plain {s : State} (hhold : s.lines.alertHold = true) (hseg : s.lines.segment = none)
    (hc : ∀ l, (s.caller l).state = .hold → (s.caller l).restore = false) :
    s.restoreNotice = s.putAlertHold false := by
  have hline (l : Fin 6) : (s.putAlertHold false).restoreLine l = s.putAlertHold false :=
    if_neg fun ⟨hstate, hrestore⟩ => Bool.false_ne_true ((hc l hstate).symm.trans hrestore)
  rw [State.restoreNotice, if_pos hhold]
  change (allLines.foldl State.restoreLine (s.putAlertHold false)).suspendSegment false = _
  rw [List.foldl_fixed' hline]
  simp [State.suspendSegment, State.putAlertHold, hseg]

/-- The restore notice's last-caller test reports nothing where no segment is active (R121, R123). -/
theorem State.giveRestore_plain {s : State} (hhold : s.lines.alertHold = true) (hseg : s.lines.segment = none)
    (hc : ∀ l, (s.caller l).state = .hold → (s.caller l).restore = false) :
    s.giveRestore = some (s.putAlertHold false) := by
  rw [State.giveRestore, if_pos hhold, State.restoreNotice_plain hhold hseg hc]
  simp [State.testLastCaller, State.lastCallerGone, State.putAlertHold, hseg]

/-! ### The immediate candidates (R156) -/

theorem State.way?_not_eligible {s : State} {j : Fin 8} (h : (s.sched? j).eligibility ≠ .eligible) : s.way? j = none :=
  if_neg h

theorem State.candidates_eq_nil {s : State} (h : ∀ j, (s.sched? j).eligibility ≠ .eligible) : s.candidates = [] := by
  simp [State.candidates, State.way?_not_eligible (h _)]

theorem State.candidates_eq_singleton {s : State} {k : Fin 8} (hk : s.way? k = some .immediate)
    (h : ∀ j, j ≠ k → (s.sched? j).eligibility ≠ .eligible) : s.candidates = [k] := by
  have hfilter : (allSlots.filter fun j => s.way? j = some .immediate) = [k] := by
    have hp : (fun j => decide (s.way? j = some .immediate)) = fun j => decide (j = k) := by
      funext j
      by_cases hj : j = k
      · simp [hj, hk]
      · simp [hj, State.way?_not_eligible (h j hj)]
    rw [hp]
    clear hp hk h
    revert k; decide
  rw [State.candidates, hfilter]
  rfl

/-- The only candidate's carriage starts after a preemption request (R156). -/
theorem State.offer_only {s : State} {k : Fin 8} (hcar : s.sched.carriage = none) (hcand : s.candidates = [k])
    (ha : s.air.state ≠ .preempted) : s.offer = s.preempt.startCarriage k .immediate := by
  simp [State.offer, hcar, hcand, ha]

/-! ### The outgoing queue and the carriage record after the small writes -/

@[simp] theorem State.putAlert_outgoing (s : State) (k : Fin 8) (a : Option Alert) :
    (s.putAlert k a).receiver.outgoing = s.receiver.outgoing := rfl

@[simp] theorem State.sendAlert_outgoing (s : State) (f : AlertFrame) :
    (s.sendAlert f).receiver.outgoing = s.receiver.outgoing ++ [f] := rfl

@[simp] theorem State.receipt_outgoing (s : State) (origin number revision : Nat) (r : ReceiptResult) :
    (s.receipt origin number revision r).receiver.outgoing =
      s.receiver.outgoing ++ [.receipt origin number revision r] := rfl

@[simp] theorem State.enterEligible_outgoing (s : State) (k : Fin 8) (a : Alert) (p : Bool) :
    (s.enterEligible k a p).receiver.outgoing = s.receiver.outgoing := rfl

@[simp] theorem State.putSched_carriage (s : State) (k : Fin 8) (e : SchedEntry) :
    (s.putSched k e).sched.carriage = s.sched.carriage ∧ (s.putSched k e).sched.lastNote = s.sched.lastNote ∧
    (s.putSched k e).sched.serial = s.sched.serial := ⟨rfl, rfl, rfl⟩

@[simp] theorem State.enterEligible_carriage (s : State) (k : Fin 8) (a : Alert) (p : Bool) :
    (s.enterEligible k a p).sched.carriage = s.sched.carriage ∧
    (s.enterEligible k a p).sched.serial = s.sched.serial := ⟨rfl, rfl⟩

/-! ### A preemption request that meets nothing or a LIVE entry (R157) -/

/-- The request has been taken: the preemption record is filled and the sequencer is PREEMPTED; the other blocks are as
they were. -/
def Preempted (s t : State) (r : Preemption) : Prop :=
  t.air.state = .preempted ∧ t.air.onAir = none ∧ t.air.outgoing = none ∧ t.air.preemption = some r ∧
  t.interp.held = s.interp.held ∧ t.store = s.store ∧ t.lines = s.lines ∧ t.clock = s.clock ∧
  t.receiver = s.receiver ∧ t.sched = s.sched ∧ t.site = s.site ∧ t.port = s.port ∧ t.freeUsed = s.freeUsed ∧
  t.pending = s.pending ∧ ∀ o, o ≠ .timingChanged → t.occurrence o = s.occurrence o

/-- Where the entry on air stays the held head and nothing is outgoing, a request writes the air record alone. -/
theorem State.preempt_kept {s : State} {i : Option OnAir} {e : Nat} {p : Policy} (hy : s.yieldAir = s)
    (hout : s.air.outgoing = none) (hi : s.interruption = (i, e, p)) :
    Preempted s s.preempt
      { interrupted := i, elapsed := e, policy := p, before := s.air.state, outgoingCut := false } := by
  unfold State.preempt
  rw [hy, State.cutOutgoing_none hout, hi]
  refine ⟨?_, ?_, ?_, ?_, ?_, ?_, ?_, ?_, ?_, ?_, ?_, ?_, ?_, ?_, fun o ho => ?occurrence⟩
  case occurrence => exact (State.compute_occurrence _ ho).trans (State.occurrence_congr (by simp) o)
  all_goals simp [State.putOnAir, hout]

/-- Out of silence there is nothing to interrupt. -/
theorem State.preempt_silent {s : State} (hon : s.air.onAir = none) (hout : s.air.outgoing = none) :
    Preempted s s.preempt
      { interrupted := none, elapsed := 0, policy := .next, before := s.air.state, outgoingCut := false } :=
  State.preempt_kept (by simp [State.yieldAir, hon]) hout (by simp [State.interruption, hon])

/-- A LIVE entry is kept for RESUME with the time that it has run. -/
theorem State.preempt_live {s : State} {o : OnAir} {h : Nat} {l : ListId} {timed : Bool} {item : ItemFields}
    (hon : s.air.onAir = some o) (hsrc : o.source = .item h l (.live timed item)) (hout : s.air.outgoing = none) :
    Preempted s s.preempt
      { interrupted := some o, elapsed := o.elapsed s.clock.mono, policy := .resume, before := s.air.state,
        outgoingCut := false } :=
  State.preempt_kept (by simp [State.yieldAir, hon, hsrc]) hout (by simp [State.interruption, hon, hsrc])

/-! ### A carriage's start (R158) -/

/-- The carriage record that a start writes (R158; log entries 22 and 59). -/
def State.carriageOf (s : State) (k : Fin 8) (a : Alert) (way : Way) : Carriage :=
  { slot := k, origin := a.frame.origin, number := a.frame.number, way, startMono := s.clock.mono,
    startStation := s.clock.station, revision := a.frame.revision, linkLost := decide (s.site.link = .lost),
    playSent := false, guardAt := s.clock.mono + a.frame.declared * 1000 + 5000, serial := s.sched.serial,
    passed := (s.sched? k).passed }

/-- A carriage's start up to the queueing of PLAY (R158). -/
def State.beginCarriage (s : State) (k : Fin 8) (a : Alert) (way : Way) : State :=
  { (s.putSched k SchedEntry.clear).putAlert k (some { a with state := .onAir, revisionOnAir := some a.frame.revision })
    with sched := { (s.putSched k SchedEntry.clear).sched with
      carriage := some (s.carriageOf k a way), serial := s.sched.serial + 1 } }.sendAlert
    (.play a.frame.origin a.frame.number s.sched.serial)

/-- A carriage's start: the scheduler's and the receiver's part, then the flag, the callers and the occurrence (R158). -/
theorem State.startCarriage_eq {s : State} {k : Fin 8} {a : Alert} (ha : s.alert? k = some a) (way : Way) :
    s.startCarriage k way =
      ((((s.beginCarriage k a way).writeDesired .alertFlag 1).holdNotice).raise .alertStarted
        (some
          (.alertStarted a.frame.origin a.frame.number a.frame.revision way (decide (s.site.link = .lost))))).compute := by
  simp only [State.startCarriage, ha]
  rfl

theorem State.alert?_congr {s t : State} (h : t.receiver = s.receiver) (k : Fin 8) : t.alert? k = s.alert? k := by
  rw [State.alert?, h]; rfl

theorem State.sched?_congr {s t : State} (h : t.sched = s.sched) (k : Fin 8) : t.sched? k = s.sched? k := by
  rw [State.sched?, h]; rfl

theorem State.param_congr {s t : State} (h : t.site = s.site) (p : Param) : t.param p = s.param p := by
  rw [State.param, h]; rfl

@[simp] theorem State.beginCarriage_air (s : State) (k : Fin 8) (a : Alert) (way : Way) :
    (s.beginCarriage k a way).air = s.air := rfl

/-- The scheduler's part of a carriage's start. -/
theorem State.beginCarriage_sched (s : State) (k : Fin 8) (a : Alert) (way : Way) :
    (s.beginCarriage k a way).sched =
      { (s.putSched k SchedEntry.clear).sched with
        carriage := some (s.carriageOf k a way), serial := s.sched.serial + 1 } := rfl

/-- The receiver's part of a carriage's start. -/
theorem State.beginCarriage_receiver (s : State) (k : Fin 8) (a : Alert) (way : Way) :
    (s.beginCarriage k a way).receiver =
      ((s.putAlert k (some { a with state := .onAir, revisionOnAir := some a.frame.revision })).sendAlert
        (.play a.frame.origin a.frame.number s.sched.serial)).receiver := rfl

section

variable {s : State} {k : Fin 8} {a : Alert} (ha : s.alert? k = some a) (way : Way)
include ha

theorem State.startCarriage_sched : (s.startCarriage k way).sched = (s.beginCarriage k a way).sched := by
  simp [State.startCarriage_eq ha]

theorem State.startCarriage_receiver : (s.startCarriage k way).receiver = (s.beginCarriage k a way).receiver := by
  simp [State.startCarriage_eq ha]

theorem State.startCarriage_alert (j : Fin 8) :
    (s.startCarriage k way).alert? j =
      if j = k then some { a with state := .onAir, revisionOnAir := some a.frame.revision } else s.alert? j :=
  (State.alert?_congr (State.startCarriage_receiver ha way) j).trans (State.alert?_putAlert s k j _)

theorem State.startCarriage_entry (j : Fin 8) :
    (s.startCarriage k way).sched? j = if j = k then SchedEntry.clear else s.sched? j :=
  (State.sched?_congr (State.startCarriage_sched ha way) j).trans (State.sched?_putSched s k j _)

theorem State.startCarriage_air :
    (s.startCarriage k way).air = { s.air with watch := (s.startCarriage k way).air.watch } := by
  rw [State.startCarriage_eq ha, State.compute_air]
  simp

theorem State.startCarriage_held : (s.startCarriage k way).interp.held = s.interp.held := by
  simp [State.startCarriage_eq ha]
  rfl

theorem State.startCarriage_desired : ((s.startCarriage k way).param .alertFlag).desired = some 1 := by
  have hsite : (s.startCarriage k way).site = ((s.beginCarriage k a way).writeDesired .alertFlag 1).site := by
    simp [State.startCarriage_eq ha]
  rw [State.param_congr hsite, State.writeDesired_desired]

theorem State.startCarriage_occurrence :
    (s.startCarriage k way).occurrence .alertStarted =
      { count := countUp 255 (s.occurrence .alertStarted).count
        detail := some
          (.alertStarted a.frame.origin a.frame.number a.frame.revision way (decide (s.site.link = .lost))) } := by
  have hbefore : ((s.beginCarriage k a way).writeDesired .alertFlag 1).holdNotice.events = s.events := by simp; rfl
  rw [State.startCarriage_eq ha, State.compute_occurrence _ (by decide), State.occurrence_raise_self,
    State.occurrence_congr hbefore]

/-- The callers on air are held as the hold notice says (R123). -/
theorem State.startCarriage_lines :
    (s.startCarriage k way).lines.alertHold = true ∧ (s.startCarriage k way).lines.queue = s.lines.queue ∧
    (s.startCarriage k way).lines.segment = s.lines.segment.map (fun g => { g with suspended := true }) ∧
    ∀ l, (s.startCarriage k way).caller l =
      if (s.caller l).state = .onAir then HeldForAlert s l else s.caller l := by
  generalize hu : (s.beginCarriage k a way).writeDesired .alertFlag 1 = u
  have hlines : (s.startCarriage k way).lines = u.holdNotice.lines := by simp [State.startCarriage_eq ha, hu]
  have hulines : u.lines = s.lines := by rw [← hu]; simp; rfl
  have huclock : u.clock = s.clock := by rw [← hu]; simp; rfl
  obtain ⟨hhold, hqueue, hseg, hcaller⟩ := u.holdNotice_lines
  simp only [State.caller_congr hulines, HeldForAlert, huclock, hulines] at hcaller
  rw [hulines] at hqueue hseg
  rw [hlines]
  exact ⟨hhold, hqueue, hseg, fun l => (State.caller_congr hlines l).trans (hcaller l)⟩

end

/-! ### The ISSUE of an alert to be carried at once (R133, R152, R156) -/

/-- The record that such an ISSUE stores: its class gives it rank 4 (R131, R133). -/
def State.issuedNow (s : State) (f : IssueFrame) : Alert :=
  { frame := f, state := .pending, carried := 0, failed := 0, rank := 4, operatorCarry := false,
    storedAt := s.clock.mono, waitingSince := none, nextEligible := none, revisionOnAir := none }

/-- The state in which the record is stored, answered and raised, and has become ELIGIBLE (R133, R152). -/
def State.issueStored (s : State) (k : Fin 8) (f : IssueFrame) : State :=
  ((((s.putAlert k (some (s.issuedNow f))).receipt f.origin f.number f.revision .accepted).raise .alertReceived
    (some (.alertReceived f.origin f.number 4))).putSched k SchedEntry.clear).enterEligible k (s.issuedNow f) false

/-- A record of rank 4 that has become ELIGIBLE is offered at once (R152). -/
theorem State.makeEligible_rank4 {s : State} {k : Fin 8} {a : Alert} (ha : s.alert? k = some a) (hrank : a.rank = 4) :
    s.makeEligible k true = some (s.enterEligible k a false).offer := by
  have hdue : (s.enterEligible k a false).deadlineDue k = false := by
    simp [State.deadlineDue, State.deadlineOf, hrank]
  simp [State.makeEligible, ha, State.actByWay, hdue, State.way?_enterEligible, wayOf, hrank]

/-- An ISSUE that is already valid, of a class carried at once, is stored in the empty slot and offered (R133). -/
theorem State.takeIssue_mandatoryNow {s : State} {f : IssueFrame} {k : Fin 8} (hform : issueMalformed f = false)
    (hnew : s.slotOf f.origin f.number = none) (hclass : (s.classEntry f.cls).action = .mandatoryNow)
    (htest : f.test = 0) (hspan : f.validFrom < f.expires) (hfrom : f.validFrom ≤ s.clock.station)
    (huntil : s.clock.station < f.expires) (hslot : s.emptySlot = some k) : s.takeIssue f = some (s.issueStored k f).offer := by
  have hlapsed : issueLapsed f s.clock.station = false := by simp [issueLapsed]; omega
  have hrank : s.rankFor f false = 4 := by simp [State.rankFor, rankOf, hclass, baseRank, issueIsTest, htest]
  have hstore : s.takeIssue f = s.storeAlert k f := by
    simp [State.takeIssue, hform, hnew, State.newAlert, hclass, hlapsed, hslot]
  rw [hstore, State.storeAlert]
  simp only [hrank]
  refine (if_pos hfrom).trans (State.makeEligible_rank4 (a := s.issuedNow f) ?_ rfl)
  rw [State.alert?_putSched, State.alert?_raise]
  exact (State.alert?_putAlert s k k _).trans (if_pos rfl)

theorem State.issueStored_alert (s : State) (k j : Fin 8) (f : IssueFrame) :
    (s.issueStored k f).alert? j = if j = k then
      some { s.issuedNow f with state := .waiting, waitingSince := some s.clock.mono } else s.alert? j := by
  rw [State.issueStored, State.alert?_enterEligible]
  split
  · rfl
  · rename_i hj
    rw [State.alert?_putSched, State.alert?_raise]
    exact (State.alert?_putAlert s k j _).trans (if_neg hj)

theorem State.issueStored_entry (s : State) (k j : Fin 8) (f : IssueFrame) :
    (s.issueStored k f).sched? j = if j = k then
      { eligibility := .eligible, placed := false, base := none, passed := false } else s.sched? j := by
  rw [State.issueStored, State.sched?_enterEligible]
  split
  · rfl
  · rename_i hj
    exact (State.sched?_putSched _ k j _).trans (if_neg hj)

/-- Storing and becoming ELIGIBLE write the table, the schedule entry, the outgoing queue and ALERT_RECEIVED alone. -/
@[simp] theorem State.issueStored_frame (s : State) (k : Fin 8) (f : IssueFrame) :
    (s.issueStored k f).clock = s.clock ∧ (s.issueStored k f).store = s.store ∧
    (s.issueStored k f).interp = s.interp ∧ (s.issueStored k f).air = s.air ∧
    (s.issueStored k f).lines = s.lines ∧ (s.issueStored k f).site = s.site ∧ (s.issueStored k f).port = s.port ∧
    (s.issueStored k f).freeUsed = s.freeUsed ∧ (s.issueStored k f).pending = s.pending ∧
    (s.issueStored k f).sched.carriage = s.sched.carriage ∧ (s.issueStored k f).sched.serial = s.sched.serial ∧
    (s.issueStored k f).receiver.outgoing =
      s.receiver.outgoing ++ [.receipt f.origin f.number f.revision .accepted] := by
  simp [State.issueStored]

theorem State.issueStored_occurrence (s : State) (k : Fin 8) (f : IssueFrame) :
    (s.issueStored k f).occurrence .alertStarted = s.occurrence .alertStarted :=
  State.occurrence_raise_ne (by decide) _ _

/-- The only candidate is the new record where no other one is ELIGIBLE (R156). -/
theorem State.issueStored_candidates {s : State} (h : ∀ j, (s.sched? j).eligibility ≠ .eligible) (k : Fin 8)
    (f : IssueFrame) : (s.issueStored k f).candidates = [k] :=
  State.candidates_eq_singleton (State.way?_enterEligible _ _ _ _) fun j hj => by
    rw [State.issueStored_entry, if_neg hj]; exact h j

/-- From the stored record and the preempted air, the carriage's start leaves what R158 says. -/
theorem carriageStarted_of_preempted {s v : State} {f : IssueFrame} {k : Fin 8} {r : Preemption}
    (hv : Preempted (s.issueStored k f) v r) :
    CarriageStarted s (v.startCarriage k .immediate) f k ∧
    (v.startCarriage k .immediate).interp.held = s.interp.held ∧
    (v.startCarriage k .immediate).air.preemption = some r := by
  obtain ⟨hstate, hon, hout, hpre, hheld, hstore, hlines, hclock, hreceiver, hsched, hsite, hport, hfree, hpending,
    hocc⟩ := hv
  have halert (j : Fin 8) : v.alert? j = _ := (State.alert?_congr hreceiver j).trans (s.issueStored_alert k j f)
  have hentry (j : Fin 8) : v.sched? j = _ := (State.sched?_congr hsched j).trans (s.issueStored_entry k j f)
  have ha : v.alert? k = _ := (halert k).trans (if_pos rfl)
  have hair := State.startCarriage_air ha .immediate
  obtain ⟨hhold, hqueue, hseg, hcaller⟩ := State.startCarriage_lines ha .immediate
  refine ⟨⟨?state, ?onAir, ?outgoing, ?carriage, ?entry, ?alert, ?others, ?queued, ?desired, hhold, ?queue, ?segment,
    ?callers, ?count, ?detail, ?clock, ?store, ?port, ?free, ?pending⟩, ?held, ?preemption⟩
  case state => rw [hair]; exact hstate
  case onAir => rw [hair]; exact hon
  case outgoing => rw [hair]; exact hout
  case preemption => rw [hair]; exact hpre
  case held => rw [State.startCarriage_held ha, hheld]; simp
  case carriage =>
    rw [State.startCarriage_sched ha, State.beginCarriage_sched]
    simp [State.carriageOf, hclock, hsched, hsite, hentry, State.issuedNow]
  case entry => rw [State.startCarriage_entry ha, if_pos rfl]; rfl
  case alert => rw [State.startCarriage_alert ha, if_pos rfl]; rfl
  case others =>
    intro j hj
    rw [State.startCarriage_alert ha, if_neg hj, halert, if_neg hj]
  case queued =>
    rw [State.startCarriage_receiver ha, State.beginCarriage_receiver, State.sendAlert_outgoing,
      State.putAlert_outgoing, hreceiver, hsched]
    simp [State.issuedNow]
  case desired => exact State.startCarriage_desired ha _
  case queue => rw [hqueue, hlines]; simp
  case segment => rw [hseg, hlines]; simp
  case callers =>
    intro l
    have hlines' : v.lines = s.lines := by simp [hlines]
    rw [hcaller, State.caller_congr hlines']
    simp [HeldForAlert, State.caller_congr hlines', hclock, hlines']
  case count => 
    rw [State.startCarriage_occurrence ha, hocc _ (by decide), State.issueStored_occurrence]
  case detail => 
    rw [State.startCarriage_occurrence ha, hsite]; simp [State.issuedNow]
  case clock => simp [hclock]
  case store => simp [hstore]
  case port => simp [hport]
  case free => simp [hfree]
  case pending => simp [hpending]

/-- Outside a whole frame the alert port has nothing to close (R127). -/
theorem State.closeAlert_none {s : State} (h : s.receiver.opened = none) : s.closeAlert = s := by
  simp [State.closeAlert, h]

/-! ### The judgement at a carriage's end (R161) -/

/-- The note of a carriage's end (R160). -/
def State.noteOf (s : State) (c : Carriage) (reason : EndReason) (counted : Bool) : CarriageNote :=
  { origin := c.origin, number := c.number, revision := c.revision, way := c.way, startStation := c.startStation,
    duration := s.clock.mono - c.startMono, reason, counted }

/-- STOP joins the outgoing queue where the guard ended the carriage, or its record is retired (R160). -/
def State.stopSent (s : State) (reason : EndReason) : State :=
  if reason = .guard ∨ reason = .retired then s.sendAlert .stop else s

/-- The carriage record emptied, with its note (R160). -/
def State.closeCarriage (s : State) (c : Carriage) (reason : EndReason) (counted : Bool) : State :=
  { s.stopSent reason with
    sched := { (s.stopSent reason).sched with lastNote := some (s.noteOf c reason counted), carriage := none } }

theorem State.endCarriage_eq {s : State} {c : Carriage} {reason : EndReason} (hc : s.sched.carriage = some c)
    (hr : reason ≠ .retired) :
    s.endCarriage reason = ((s.closeCarriage c reason (s.carriageCounts c reason)).judge c reason).bind fun u =>
      (u.raise .alertEnded (some (.alertEnded c.origin c.number reason (s.carriageCounts c reason)))).followCarriage
        c.way := by
  simp only [State.endCarriage, hc, if_neg hr]
  rfl

@[simp] theorem State.closeCarriage_frame (s : State) (c : Carriage) (reason : EndReason) (counted : Bool) :
    (s.closeCarriage c reason counted).clock = s.clock ∧ (s.closeCarriage c reason counted).store = s.store ∧
    (s.closeCarriage c reason counted).air = s.air ∧ (s.closeCarriage c reason counted).lines = s.lines ∧
    (s.closeCarriage c reason counted).port = s.port ∧ (s.closeCarriage c reason counted).events = s.events ∧
    (s.closeCarriage c reason counted).freeUsed = s.freeUsed ∧
    (s.closeCarriage c reason counted).pending = s.pending ∧
    (s.closeCarriage c reason counted).sched.carriage = none ∧
    (s.closeCarriage c reason counted).sched.lastNote = some (s.noteOf c reason counted) := by
  unfold State.closeCarriage State.stopSent
  split <;> simp

@[simp] theorem State.closeCarriage_alert (s : State) (c : Carriage) (reason : EndReason) (counted : Bool) (j : Fin 8) :
    (s.closeCarriage c reason counted).alert? j = s.alert? j := by
  unfold State.closeCarriage State.stopSent
  split <;> rfl

@[simp] theorem State.closeCarriage_entry (s : State) (c : Carriage) (reason : EndReason) (counted : Bool) (j : Fin 8) :
    (s.closeCarriage c reason counted).sched? j = s.sched? j := by
  unfold State.closeCarriage State.stopSent
  split <;> rfl

theorem State.closeCarriage_outgoing (s : State) (c : Carriage) (reason : EndReason) (counted : Bool) :
    (s.closeCarriage c reason counted).receiver.outgoing =
      s.receiver.outgoing ++ (if reason = .guard ∨ reason = .retired then [.stop] else []) := by
  unfold State.closeCarriage State.stopSent
  split <;> simp

/-- A carriage heard to its end counts, and the last one that is required leaves the record CARRIED (R161). -/
theorem State.judge_carried {s : State} {c : Carriage} {a : Alert} (ha : s.alert? c.slot = some a)
    (hrev : a.frame.revision = c.revision) (hlink : c.linkLost = false) (hreq : a.frame.required ≤ a.carried + 1) :
    s.judge c .ended = some ((s.putAlert c.slot
      (some { a with state := .carried, carried := a.carried + 1, revisionOnAir := none })).putSched c.slot
        SchedEntry.clear) := by
  simp [State.judge, ha, hrev, hlink, hreq]

/-- A carriage that failed short of the third time leaves the record waiting for 30 s (R161). -/
theorem State.judge_failed {s : State} {c : Carriage} {a : Alert} {reason : EndReason} (ha : s.alert? c.slot = some a)
    (hrev : a.frame.revision = c.revision) (hfrom : a.frame.validFrom ≤ s.clock.station) (hfailed : a.failed + 1 < 3)
    (hr : reason = .fail ∨ reason = .guard) :
    s.judge c reason = some ((s.putAlert c.slot
      (some { a with state := .waiting, failed := a.failed + 1, revisionOnAir := none,
                     nextEligible := some (s.clock.station + 30000) })).putSched c.slot
        { SchedEntry.clear with eligibility := .deferred }) := by
  have hshort : ¬ 3 ≤ a.failed + 1 := by omega
  have hvalid : ¬ s.clock.station < a.frame.validFrom := by omega
  rcases hr with rfl | rfl
  · simp [State.judge, ha, hrev, hshort, State.waitAgain, hvalid]
  · simp [State.judge, ha, hrev, hshort, State.waitAgain, hvalid]

/-! ### The air given back (R163, R164) -/

/-- The air has been given back: only the air, the interpreter, the bus, the timer and the occurrence TIMING_CHANGED may
have changed, and the preemption record is empty. -/
def AirRestored (s t : State) : Prop :=
  t.air.preemption = none ∧ t.clock = s.clock ∧ t.store = s.store ∧ t.lines = s.lines ∧ t.receiver = s.receiver ∧
  t.sched = s.sched ∧ t.port = s.port ∧ t.freeUsed = s.freeUsed ∧ t.pending = s.pending ∧
  ∀ o, o ≠ .timingChanged → t.occurrence o = s.occurrence o

theorem State.restoreAir_disarmed {s : State} {p : Preemption} (hp : s.air.preemption = some p)
    (hw : s.air.watch = .disarmed) :
    s.restoreAir = ({ s with air := { s.air with preemption := none } }.giveBack p).map State.compute := by
  simp [State.restoreAir, hp, hw, PostWatch.deferred?]

/-- Out of STOPPED, the sequencer returns to STOPPED (R164). -/
theorem State.restoreAir_stopped {s : State} {p : Preemption} (hp : s.air.preemption = some p)
    (hw : s.air.watch = .disarmed) (hpolicy : p.policy = .next) (hbefore : p.before = .stopped) :
    ∃ t, s.restoreAir = some t ∧ AirRestored s t ∧ t.air.state = .stopped := by
  rw [State.restoreAir_disarmed hp hw]
  refine ⟨_, by simp only [State.giveBack, hpolicy, hbefore]; rfl, ⟨?_, ?_, ?_, ?_, ?_, ?_, ?_, ?_, ?_, ?occurrence⟩, ?_⟩
  case occurrence =>
    exact fun o ho => (State.compute_occurrence _ ho).trans ((State.enterState_occurrence _ _ _).trans rfl)
  all_goals simp

/-- A LIVE entry that was interrupted goes on with the rest of its time (R164). -/
theorem State.resumed_live {s : State} {o : OnAir} {h : Nat} {l : ListId} {timed : Bool} {item : ItemFields} {e : Nat}
    (hsrc : o.source = .item h l (.live timed item)) (he : e ≤ s.clock.station)
    (hstation : s.clock.station < Config.stationModulus) :
    s.resumed o e = { o with
      phase := .playing (s.clock.mono - e) (s.clock.station - e)
      endTimer := if timed then some (s.clock.mono + (o.frozen - e)) else none } := by
  have hback : (s.clock.station + Config.stationModulus - e % Config.stationModulus) % Config.stationModulus =
      s.clock.station - e := by
    rw [Nat.mod_eq_of_lt (by omega : e < Config.stationModulus),
      show s.clock.station + Config.stationModulus - e = s.clock.station - e + Config.stationModulus by omega,
      Nat.add_mod_right, Nat.mod_eq_of_lt (by omega)]
  simp [State.resumed, hsrc, hback]

/-- An entry interrupted with policy RESUME returns to the on-air record (R164). -/
theorem State.restoreAir_resume {s : State} {p : Preemption} {o : OnAir} (hp : s.air.preemption = some p)
    (hw : s.air.watch = .disarmed) (hpolicy : p.policy = .resume) (ho : p.interrupted = some o) :
    ∃ t, s.restoreAir = some t ∧ AirRestored s t ∧ t.air.state = .running ∧
      t.air.onAir = some (s.resumed o p.elapsed) := by
  rw [State.restoreAir_disarmed hp hw]
  refine ⟨_, by simp only [State.giveBack, hpolicy, ho]; rfl, ⟨?_, ?_, ?_, ?_, ?_, ?_, ?_, ?_, ?_, ?occurrence⟩, ?_, ?onAir⟩
  case occurrence =>
    exact fun o ho => (State.compute_occurrence _ ho).trans ((State.enterState_occurrence _ _ _).trans rfl)
  case onAir => simp [State.putOnAir]; rfl
  all_goals simp [State.putOnAir]

/-- With no candidate left, the air is restored, and then the callers and the flag (R163). -/
theorem State.followCarriage_restored {s u : State} (hcand : s.candidates = []) (hr : s.restoreAir = some u)
    (hcar : u.sched.carriage = none) (hhold : u.lines.alertHold = true) (hseg : u.lines.segment = none)
    (hc : ∀ l, (u.caller l).state = .hold → (u.caller l).restore = false) :
    s.followCarriage .immediate = some ((u.putAlertHold false).writeDesired .alertFlag 0) := by
  simp [State.followCarriage, hcand, hr, State.afterRun, hcar, State.giveRestore_plain hhold hseg hc, State.putAlertHold]

/-! ### The end of a plain carriage (R159 to R164) -/

/-- The carriage's end after the record's judgement: its record and its schedule entry are written and ALERT_ENDED is
raised (R160, R161). -/
def State.carriageJudged (s : State) (c : Carriage) (reason : EndReason) (counted : Bool) (b : Alert) (e : SchedEntry) :
    State :=
  (((s.closeCarriage c reason counted).putAlert c.slot (some b)).putSched c.slot e).raise .alertEnded
    (some (.alertEnded c.origin c.number reason counted))

@[simp] theorem State.carriageJudged_frame (s : State) (c : Carriage) (reason : EndReason) (counted : Bool) (b : Alert)
    (e : SchedEntry) :
    (s.carriageJudged c reason counted b e).clock = s.clock ∧ (s.carriageJudged c reason counted b e).store = s.store ∧
    (s.carriageJudged c reason counted b e).air = s.air ∧ (s.carriageJudged c reason counted b e).lines = s.lines ∧
    (s.carriageJudged c reason counted b e).port = s.port ∧
    (s.carriageJudged c reason counted b e).freeUsed = s.freeUsed ∧
    (s.carriageJudged c reason counted b e).pending = s.pending ∧
    (s.carriageJudged c reason counted b e).sched.carriage = none ∧
    (s.carriageJudged c reason counted b e).sched.lastNote = some (s.noteOf c reason counted) := by
  simp [State.carriageJudged]

@[simp] theorem State.carriageJudged_alert (s : State) (c : Carriage) (reason : EndReason) (counted : Bool) (b : Alert)
    (e : SchedEntry) (j : Fin 8) :
    (s.carriageJudged c reason counted b e).alert? j = if j = c.slot then some b else s.alert? j := by
  simp [State.carriageJudged]

theorem State.carriageJudged_entry (s : State) (c : Carriage) (reason : EndReason) (counted : Bool) (b : Alert)
    (e : SchedEntry) (j : Fin 8) :
    (s.carriageJudged c reason counted b e).sched? j = if j = c.slot then e else s.sched? j := by
  refine (State.sched?_putSched _ c.slot j e).trans ?_
  simp

theorem State.carriageJudged_outgoing (s : State) (c : Carriage) (reason : EndReason) (counted : Bool) (b : Alert)
    (e : SchedEntry) :
    (s.carriageJudged c reason counted b e).receiver.outgoing =
      s.receiver.outgoing ++ (if reason = .guard ∨ reason = .retired then [.stop] else []) :=
  s.closeCarriage_outgoing c reason counted

theorem State.carriageJudged_occurrence (s : State) (c : Carriage) (reason : EndReason) (counted : Bool) (b : Alert)
    (e : SchedEntry) (o : Occurrence) :
    (s.carriageJudged c reason counted b e).occurrence o = if o = .alertEnded then
      { count := countUp 255 (s.occurrence .alertEnded).count
        detail := some (.alertEnded c.origin c.number reason counted) }
      else s.occurrence o := by
  rw [State.carriageJudged, State.occurrence_raise]
  have hevents :
      (((s.closeCarriage c reason counted).putAlert c.slot (some b)).putSched c.slot e).events = s.events := by simp
  simp only [State.occurrence_congr hevents]

/-- A plain carriage whose record is judged and whose air is given back has ended; the sequencer's part of it is the
restored one (R160 to R164). -/
theorem plainCarriage_ends {s v : State} {c : Carriage} {a b : Alert} {e : SchedEntry} {reason : EndReason}
    {counted : Bool} (h : PlainCarriage s c a) (hr : reason ≠ .retired) (hcounts : s.carriageCounts c reason = counted)
    (hj : (s.closeCarriage c reason counted).judge c reason =
      some (((s.closeCarriage c reason counted).putAlert c.slot (some b)).putSched c.slot e))
    (he : e.eligibility ≠ .eligible) (hv : (s.carriageJudged c reason counted b e).restoreAir = some v)
    (hrest : AirRestored (s.carriageJudged c reason counted b e) v) :
    ∃ t, s.endCarriage reason = some t ∧ CarriageEnded s t c reason counted ∧ t.air = v.air ∧
      t.alert? c.slot = some b ∧ t.sched? c.slot = e ∧
      t.receiver.outgoing = s.receiver.outgoing ++ (if reason = .guard ∨ reason = .retired then [.stop] else []) ∧
      t.occurrence .entryStarted = s.occurrence .entryStarted := by
  obtain ⟨hcar, hway, -, -, -, -, -, helig, -, hhold, hseg, hrestore⟩ := h
  obtain ⟨hpre, hclock, hstore, hlines, hreceiver, hsched, hport, hfree, hpending, hocc⟩ := hrest
  have hcand : (s.carriageJudged c reason counted b e).candidates = [] := State.candidates_eq_nil fun j => by
    rw [State.carriageJudged_entry]
    split
    · exact he
    · exact helig j
  have hlines' : v.lines = s.lines := by simp [hlines]
  have hend : s.endCarriage reason = some ((v.putAlertHold false).writeDesired .alertFlag 0) := by
    rw [State.endCarriage_eq hcar hr, hcounts, hj, hway]
    refine State.followCarriage_restored hcand hv (by simp [hsched]) (by simp [hlines', hhold])
      (by simp [hlines', hseg]) ?_
    simpa only [State.caller_congr hlines'] using hrestore
  generalize ht : (v.putAlertHold false).writeDesired .alertFlag 0 = t at hend
  have htair : t.air = v.air := by rw [← ht]; simp
  have htreceiver : t.receiver = (s.carriageJudged c reason counted b e).receiver := by
    rw [← ht, ← hreceiver]; simp
  have htsched : t.sched = (s.carriageJudged c reason counted b e).sched := by
    rw [← ht, ← hsched]; simp
  have halert (j : Fin 8) : t.alert? j = if j = c.slot then some b else s.alert? j :=
    (State.alert?_congr htreceiver j).trans (s.carriageJudged_alert c reason counted b e j)
  have htocc (o : Occurrence) (ho : o ≠ .timingChanged) :
      t.occurrence o = (s.carriageJudged c reason counted b e).occurrence o := by
    rw [← hocc o ho]
    exact State.occurrence_congr (by rw [← ht]; simp) o
  refine ⟨t, hend, ⟨?carriage, ?note, ?count, ?detail, ?pre, ?flag, ?others, ?clock, ?store, ?lines, ?port, ?free,
    ?pending⟩, htair, ?alert, ?entry, ?outgoing, ?started⟩
  case carriage => simp [htsched]
  case note => simp [htsched, State.noteOf]
  case count => rw [htocc _ (by decide), State.carriageJudged_occurrence, if_pos rfl]
  case detail => rw [htocc _ (by decide), State.carriageJudged_occurrence, if_pos rfl]
  case started => rw [htocc _ (by decide), State.carriageJudged_occurrence, if_neg (by decide)]
  case pre => rw [htair]; exact hpre
  case flag => rw [← ht]; exact State.writeDesired_desired _ _ _
  case others => exact fun j hj => (halert j).trans (if_neg hj)
  case alert => exact (halert _).trans (if_pos rfl)
  case entry =>
    exact (State.sched?_congr htsched _).trans ((s.carriageJudged_entry c reason counted b e _).trans (if_pos rfl))
  case outgoing => rw [htreceiver]; exact s.carriageJudged_outgoing c reason counted b e
  case clock => rw [← ht]; simp [hclock]
  case store => rw [← ht]; simp [hstore]
  case lines => rw [← ht]; simp [hlines']
  case port => rw [← ht]; simp [hport]
  case free => rw [← ht]; simp [hfree]
  case pending => rw [← ht]; simp [hpending]

theorem plainCarriage_watch {s : State} {c : Carriage} {a : Alert} (h : PlainCarriage s c a) :
    s.air.watch = .disarmed := by
  obtain ⟨-, -, -, -, -, -, -, -, hwatch, -⟩ := h
  exact hwatch

/-- Of a plain carriage's ends, the one that counts is AUDIO_END (R161). -/
theorem plainCarriage_counts {s : State} {c : Carriage} {a : Alert} (h : PlainCarriage s c a) (reason : EndReason) :
    s.carriageCounts c reason = decide (reason = .ended) := by
  obtain ⟨-, -, -, hlink, ha, hrev, -⟩ := h
  simp [State.carriageCounts, hlink, ha, hrev]

/-- The decoder's report of its audio's end is one to the carriage in progress (R159). -/
theorem plainCarriage_takeAudio {s : State} {c : Carriage} {a : Alert} (h : PlainCarriage s c a)
    (hopen : s.receiver.opened = none) (reason : EndReason) :
    s.closeAlert.takeAudio reason = s.endCarriage reason := by
  obtain ⟨hcar, -, hsent, -⟩ := h
  simp [State.closeAlert_none hopen, State.takeAudio, hcar, hsent]

/-- A carriage heard to its end for the last time that is required (R161). -/
theorem plainCarriage_judge_carried {s : State} {c : Carriage} {a : Alert} (h : PlainCarriage s c a)
    (hreq : a.frame.required ≤ a.carried + 1) :
    (s.closeCarriage c .ended true).judge c .ended = some (((s.closeCarriage c .ended true).putAlert c.slot
      (some { a with state := .carried, carried := a.carried + 1, revisionOnAir := none })).putSched c.slot
        SchedEntry.clear) := by
  obtain ⟨-, -, -, hlink, ha, hrev, -⟩ := h
  exact State.judge_carried (by simp [ha]) hrev hlink hreq

/-- A carriage that failed, out of STOPPED: the record waits 30 s and the sequencer is STOPPED again (R161, R164). -/
theorem plainCarriage_fails {s : State} {c : Carriage} {a : Alert} {p : Preemption} {reason : EndReason}
    (h : PlainCarriage s c a) (hp : s.air.preemption = some p) (hpolicy : p.policy = .next)
    (hbefore : p.before = .stopped) (hfailed : a.failed + 1 < 3) (hr : reason = .fail ∨ reason = .guard) :
    ∃ t, s.endCarriage reason = some t ∧ CarriageEnded s t c reason false ∧ t.air.state = .stopped ∧
      t.alert? c.slot = some { a with state := .waiting, failed := a.failed + 1, revisionOnAir := none,
                                      nextEligible := some (s.clock.station + 30000) } ∧
      (t.sched? c.slot).eligibility = .deferred ∧
      t.receiver.outgoing = s.receiver.outgoing ++ (if reason = .guard ∨ reason = .retired then [.stop] else []) := by
  have hne : reason ≠ .ended ∧ reason ≠ .retired := by rcases hr with rfl | rfl <;> decide
  have hcounts : s.carriageCounts c reason = false := by simp [plainCarriage_counts h, hne]
  have hjudge : (s.closeCarriage c reason false).judge c reason = some (((s.closeCarriage c reason false).putAlert c.slot
      (some { a with state := .waiting, failed := a.failed + 1, revisionOnAir := none,
                     nextEligible := some (s.clock.station + 30000) })).putSched c.slot
        { SchedEntry.clear with eligibility := .deferred }) := by
    obtain ⟨-, -, -, -, ha, hrev, hfrom, -⟩ := h
    simpa using State.judge_failed (s := s.closeCarriage c reason false) (by simpa using ha) hrev (by simpa using hfrom)
      hfailed hr
  obtain ⟨v, hv, hrest, hstate⟩ := State.restoreAir_stopped
    (s := s.carriageJudged c reason false _ _) (by simpa using hp) (by simpa using plainCarriage_watch h) hpolicy
    hbefore
  obtain ⟨t, ht, hended, hair, halert, hentry, hout, -⟩ :=
    plainCarriage_ends h hne.2 hcounts hjudge (by decide) hv hrest
  exact ⟨t, ht, hended, by rw [hair, hstate], halert, by rw [hentry], hout⟩

/-- Settles O51: an ISSUE is stored, offered and preempts the air before its carriage starts; a carriage's end is judged,
and the air is then given back by the preemption record. -/
theorem carriageStartsAndEnds : Obligations.CarriageStartsAndEnds := by
  unfold Obligations.CarriageStartsAndEnds
  refine ⟨?start, ?ending⟩
  case start =>
    intro s f k hform hopen hnew hclass htest hspan hfrom huntil hslot hcar hidle hout
    have hissue : exec (.issue f) s = finish (some (s.issueStored k f).offer) := by
      change execIssue f s = _
      rw [execIssue, State.closeAlert_none hopen,
        State.takeIssue_mandatoryNow hform hnew hclass htest hspan hfrom huntil hslot]
    have hoffer (hstate : s.air.state ≠ .preempted) :
        (s.issueStored k f).offer = (s.issueStored k f).preempt.startCarriage k .immediate :=
      State.offer_only (by simp [hcar]) (State.issueStored_candidates hidle k f) (by simpa using hstate)
    refine ⟨fun hstate hon => ?_, fun o h l timed item hstate hon hsrc => ?_⟩
    · have hpre := State.preempt_silent (s := s.issueStored k f) (by simpa using hon) (by simpa using hout)
      rw [show (s.issueStored k f).air.state = .stopped by simpa using hstate] at hpre
      exact ⟨_, by rw [hissue, hoffer (by simp [hstate])]; rfl, carriageStarted_of_preempted hpre⟩
    · have hpre := State.preempt_live (s := s.issueStored k f) (by simpa using hon) hsrc (by simpa using hout)
      rw [show (s.issueStored k f).air.state = .running by simpa using hstate,
        show (s.issueStored k f).clock = s.clock by simp] at hpre
      exact ⟨_, by rw [hissue, hoffer (by simp [hstate])]; rfl, carriageStarted_of_preempted hpre⟩
  case ending =>
    intro s c a h hopen
    have haudio {t : State} (reason : EndReason) (ht : s.endCarriage reason = some t) :
        finish (s.closeAlert.takeAudio reason) = .next t :=
      finish_next.mpr ((plainCarriage_takeAudio h hopen reason).trans ht)
    have hwatch := plainCarriage_watch h
    refine ⟨fun p hp hpolicy hbefore => ⟨fun hreq => ?counted, fun hfailed => ?fail, fun hfailed hdue => ?guard⟩,
      fun p o hd l timed item hp hpolicy ho hsrc _ helapsed hstation hreq => ?resume⟩
    case counted =>
      obtain ⟨v, hv, hrest, hstate⟩ := State.restoreAir_stopped
        (s := s.carriageJudged c .ended true _ _) (by simpa using hp) (by simpa using hwatch) hpolicy hbefore
      obtain ⟨t, ht, hended, hair, halert, -, hout, -⟩ :=
        plainCarriage_ends h (by decide) (plainCarriage_counts h .ended) (plainCarriage_judge_carried h hreq) (by decide)
          hv hrest
      exact ⟨t, haudio _ ht, hended, by rw [hair, hstate], halert, by simpa using hout⟩
    case fail =>
      obtain ⟨t, ht, hended, hstate, halert, hentry, hout⟩ := plainCarriage_fails h hp hpolicy hbefore hfailed (.inl rfl)
      exact ⟨t, haudio _ ht, hended, hstate, halert, hentry, by simpa using hout⟩
    case guard =>
      obtain ⟨t, ht, hended, hstate, halert, hentry, hout⟩ := plainCarriage_fails h hp hpolicy hbefore hfailed (.inr rfl)
      have hguard : s.guardDue = true := by
        obtain ⟨hcar, -⟩ := h
        simp [State.guardDue, hcar, reached, hdue]
      exact ⟨t, (if_pos hguard).trans (finish_next.mpr ht), hended, hstate, halert, hentry, by simpa using hout⟩
    case resume =>
      obtain ⟨v, hv, hrest, hstate, hon⟩ := State.restoreAir_resume
        (s := s.carriageJudged c .ended true _ _) (by simpa using hp) (by simpa using hwatch) hpolicy ho
      obtain ⟨t, ht, hended, hair, -, -, -, hstarted⟩ :=
        plainCarriage_ends h (by decide) (plainCarriage_counts h .ended) (plainCarriage_judge_carried h hreq) (by decide)
          hv hrest
      refine ⟨t, haudio _ ht, hended, by rw [hair, hstate], hstarted, ?_⟩
      rw [hair, hon, State.resumed_live hsrc (by simpa using helapsed) (by simpa using hstation)]
      simp

end Sys2Proof.Machine
end

section
/-! PROOFS. The class action table and the compliance lock (O8, O9). Every operation of the part but CLASS_WRITE,
COMPLIANCE_LOCK and the power-on reset leaves both. The operations are taken in the order in which they call one
another: `KeepsPolicy` says so of one that may not come to rest, `PolicyAnswer` and `PolicyNext` say of owners and of
commands what they can do to the two (`PolicyStep`). -/

namespace Sys2Proof.Machine

open Sys2Proof.Safety

/-! ### The table with its lock -/

/-- The class action table and the compliance lock (R138, R141). -/
def State.policy (s : State) : List (Nat × ClassEntry) × Bool := (s.receiver.classes, s.receiver.lock)

@[simp] theorem State.policy_eq_iff {s t : State} :
    t.policy = s.policy ↔ t.receiver.classes = s.receiver.classes ∧ t.receiver.lock = s.receiver.lock := Prod.mk_inj

theorem State.classEntry_of_policy {s t : State} (h : t.policy = s.policy) (c : Nat) :
    t.classEntry c = s.classEntry c := by rw [State.classEntry, (State.policy_eq_iff.mp h).1]; rfl

@[simp] theorem State.putAlert_policy (s : State) (k : Fin 8) (a : Option Alert) :
    (s.putAlert k a).receiver.classes = s.receiver.classes ∧ (s.putAlert k a).receiver.lock = s.receiver.lock :=
  ⟨rfl, rfl⟩

@[simp] theorem State.sendAlert_policy (s : State) (f : AlertFrame) :
    (s.sendAlert f).receiver.classes = s.receiver.classes ∧ (s.sendAlert f).receiver.lock = s.receiver.lock :=
  ⟨rfl, rfl⟩

@[simp] theorem State.receipt_policy (s : State) (origin number revision : Nat) (r : ReceiptResult) :
    (s.receipt origin number revision r).receiver.classes = s.receiver.classes ∧
    (s.receipt origin number revision r).receiver.lock = s.receiver.lock := ⟨rfl, rfl⟩

@[simp] theorem State.putAlertOpen_policy (s : State) (f : Option OpenFrame) :
    (s.putAlertOpen f).receiver.classes = s.receiver.classes ∧ (s.putAlertOpen f).receiver.lock = s.receiver.lock :=
  ⟨rfl, rfl⟩

@[simp] theorem State.abandonAlert_policy (s : State) :
    s.abandonAlert.receiver.classes = s.receiver.classes ∧ s.abandonAlert.receiver.lock = s.receiver.lock := ⟨rfl, rfl⟩

@[simp] theorem State.enterEligible_policy (s : State) (k : Fin 8) (a : Alert) (p : Bool) :
    (s.enterEligible k a p).receiver.classes = s.receiver.classes ∧
    (s.enterEligible k a p).receiver.lock = s.receiver.lock := ⟨rfl, rfl⟩

@[simp] theorem State.waitAgain_policy (s : State) (k : Fin 8) (a : Alert) (e : Eligibility) (next : Option Nat) :
    (s.waitAgain k a e next).receiver.classes = s.receiver.classes ∧
    (s.waitAgain k a e next).receiver.lock = s.receiver.lock := by
  unfold State.waitAgain
  split <;> simp

@[simp] theorem State.closeAlert_policy (s : State) :
    s.closeAlert.receiver.classes = s.receiver.classes ∧ s.closeAlert.receiver.lock = s.receiver.lock := by
  unfold State.closeAlert
  split
  · simp
  · split <;> simp

@[simp] theorem State.alertStart_policy (s : State) (b : Byte) :
    (s.alertStart b).receiver.classes = s.receiver.classes ∧ (s.alertStart b).receiver.lock = s.receiver.lock := by
  unfold State.alertStart
  split <;> simp

@[simp] theorem State.alertSent_policy (s : State) :
    s.alertSent.receiver.classes = s.receiver.classes ∧ s.alertSent.receiver.lock = s.receiver.lock := by
  unfold State.alertSent
  split <;> exact ⟨rfl, rfl⟩

@[simp] theorem State.startCarriage_policy (s : State) (k : Fin 8) (way : Way) :
    (s.startCarriage k way).receiver.classes = s.receiver.classes ∧
    (s.startCarriage k way).receiver.lock = s.receiver.lock := by
  unfold State.startCarriage
  split <;> simp

@[simp] theorem State.offer_policy (s : State) :
    s.offer.receiver.classes = s.receiver.classes ∧ s.offer.receiver.lock = s.receiver.lock := by
  unfold State.offer
  split
  · simp
  · split
    · simp
    · split <;> simp

@[simp] theorem State.expireDeadline_policy (s : State) (k : Fin 8) :
    (s.expireDeadline k).receiver.classes = s.receiver.classes ∧
    (s.expireDeadline k).receiver.lock = s.receiver.lock := by simp [State.expireDeadline]

theorem State.expireMoved_policy (c : Nat) (s : State) : (State.expireMoved c s).policy = s.policy :=
  foldl_frame State.policy (fun t k => by split <;> simp) _ _

theorem State.resetAlert_policy (s : State) (k : Fin 8) : (s.resetAlert k).policy = s.policy := by
  unfold State.resetAlert
  split
  · rfl
  · split <;> simp

theorem State.resetReceiver_policy (s : State) : s.resetReceiver.policy = s.policy := by
  have hstop : (if s.alertOnAir then s.sendAlert .stop else s).policy = s.policy := by split <;> simp
  have hfold := (foldl_frame State.policy State.resetAlert_policy allSlots _).trans hstop
  unfold State.resetReceiver
  dsimp only
  generalize allSlots.foldl State.resetAlert _ = u at hfold ⊢
  exact hfold

theorem State.resetBlocks_policy (s : State) : s.resetBlocks.policy = s.policy := by
  have hreset := State.resetReceiver_policy s.clearOccurrences.resetInterp.resetAir.resetTimer.resetBus.resetLines
  simp only [State.policy_eq_iff] at hreset
  simp [State.resetBlocks, hreset]

/-! ### Operations that may not come to rest -/

/-- Where an operation from a state comes to rest, the table and the lock are that state's. -/
def KeepsPolicy (s : State) (r : Option State) : Prop := ∀ t, r = some t → t.policy = s.policy

section

variable {s s' : State} {a b r : Option State}

theorem KeepsPolicy.of_some {t : State} (h : t.policy = s.policy) : KeepsPolicy s (some t) := fun _ ht =>
  Option.some.inj ht ▸ h

theorem KeepsPolicy.same : KeepsPolicy s (some s) := .of_some rfl

theorem KeepsPolicy.of_none : KeepsPolicy s none := fun _ ht => by cases ht

theorem KeepsPolicy.after (h : KeepsPolicy s' r) (hs : s'.policy = s.policy) : KeepsPolicy s r := fun t ht =>
  (h t ht).trans hs

theorem KeepsPolicy.ite {c : Prop} [Decidable c] (ha : KeepsPolicy s a) (hb : KeepsPolicy s b) :
    KeepsPolicy s (if c then a else b) := by split <;> assumption

theorem KeepsPolicy.bind (h : KeepsPolicy s r) {f : State → Option State} (hf : ∀ u, KeepsPolicy u (f u)) :
    KeepsPolicy s (r.bind f) := fun t ht => by
  obtain ⟨u, hu, hfu⟩ := Option.bind_eq_some_iff.mp ht
  exact (hf u t hfu).trans (h u hu)

theorem KeepsPolicy.map (h : KeepsPolicy s r) {f : State → State} (hf : ∀ u, (f u).policy = u.policy) :
    KeepsPolicy s (r.map f) := fun t ht => by
  obtain ⟨u, hu, rfl⟩ := Option.map_eq_some_iff.mp ht
  exact (hf u).trans (h u hu)

theorem KeepsPolicy.foldSteps {α : Type} {f : α → State → Option State} (hf : ∀ a u, KeepsPolicy u (f a u)) (s : State)
    (l : List α) : KeepsPolicy s (foldSteps f l s) := fun _ ht =>
  foldSteps_keeps (P := fun u => u.policy = s.policy) (fun a u v hu hv => (hf a u v hv).trans hu) rfl ht

end

/-! ### The sequencer (chapter 3) -/

theorem State.startItem_receiver (s : State) (r : Resolved) (b : Body) : (s.startItem r b).1.receiver = s.receiver := by
  cases b with
  | audio kind cart segue item =>
    simp only [State.startItem]
    split
    · simp
    · split <;> simp
  | _ => simp [State.startItem]

theorem State.goGiven_receiver {s t : State} {m : TakeMode} {b : Body} (h : s.goGiven m b = some t) :
    t.receiver = s.receiver := by
  unfold State.goGiven at h
  split at h
  · cases h; rfl
  · split at h
    · cases h; rfl
    · cases h; rfl
    all_goals
      split at h
      · cases h; rfl
      · cases h

theorem keepsPolicy_takeLoop (fuel : Nat) (m : TakeMode) (s : State) : KeepsPolicy s (takeLoop fuel m s) := by
  induction fuel generalizing m s with
  | zero => exact .of_none
  | succ fuel ih =>
    unfold takeLoop
    split
    · exact .of_some (by simp)
    · rename_i r _
      dsimp only
      split
      · exact (ih m _).after (by simp)
      · split
        · exact .of_some (by simp)
        · split
          · exact .of_some (by simp)
          · exact (ih m _).after (by simp)
        · split
          · exact .of_some (by simp)
          · exact (ih m _).after (by simp)
        · rename_i b _
          refine .ite ((ih m _).after (by simp)) (.ite (.of_some (by simp)) (.ite (.of_some (by simp)) ?_))
          split
          · exact .of_some (by simp)
          · rename_i t hgo
            have hstarted : (t.startItem r b).1.receiver = s.receiver :=
              (t.startItem_receiver r b).trans (State.goGiven_receiver hgo)
            exact .ite (.of_some (by simp [hstarted])) ((ih _ _).after (by simp [hstarted]))

theorem keepsPolicy_takeHead (s : State) (m : TakeMode) : KeepsPolicy s (s.takeHead m) :=
  keepsPolicy_takeLoop takeFuel m s

theorem keepsPolicy_startHead (s : State) : KeepsPolicy s s.startHead := by
  unfold State.startHead
  split
  · rename_i r _
    split
    · rename_i b _
      have hstarted := s.startItem_receiver r b
      generalize s.startItem r b = u at hstarted
      exact .ite (.of_some (by simp [hstarted])) ((keepsPolicy_takeHead _ _).after (by simp [hstarted]))
    all_goals exact keepsPolicy_takeHead s _
  · exact keepsPolicy_takeHead s _

theorem keepsPolicy_takeFromGo (s : State) : KeepsPolicy s s.takeFromGo := by
  unfold State.takeFromGo
  split
  · split
    · split
      · rename_i t hgo
        exact (keepsPolicy_startHead _).after (by simp [State.goGiven_receiver hgo])
      · exact .of_some (by simp)
    all_goals exact keepsPolicy_takeHead s _
  · exact keepsPolicy_takeHead s _

theorem keepsPolicy_endOnAir (s : State) (e : Ending) : KeepsPolicy s (s.endOnAir e) := by
  unfold State.endOnAir
  split
  · exact .same
  · exact (keepsPolicy_takeHead _ _).after (by simp)

theorem keepsPolicy_settleHead (before s : State) : KeepsPolicy s (settleHead before s) := by
  unfold settleHead
  exact .ite (.ite .same ((keepsPolicy_takeHead _ _).after (by simp))) .same

theorem keepsPolicy_testLastCaller (s : State) : KeepsPolicy s s.testLastCaller := by
  unfold State.testLastCaller
  split
  · unfold State.reportLastCaller
    split
    · exact .same
    · split
      · exact .ite (keepsPolicy_endOnAir s _) .same
      · exact .same
  · exact .same

theorem keepsPolicy_postCut (s : State) (w : Watch) : KeepsPolicy s (s.postCut w) :=
  ((keepsPolicy_startHead _).after (by simp)).map fun t => by simp

theorem keepsPolicy_endOutgoing (s : State) : KeepsPolicy s s.endOutgoing := by
  unfold State.endOutgoing
  split
  · exact .same
  · exact (keepsPolicy_settleHead s _).after (by simp)

/-! ### Carriages (chapter 8) -/

theorem keepsPolicy_placeRequest (s : State) (k : Fin 8) : KeepsPolicy s (s.placeRequest k) := by
  unfold State.placeRequest
  split
  · exact .same
  · exact (keepsPolicy_settleHead s _).after (by simp)

theorem keepsPolicy_actByWay (s : State) (k : Fin 8) (mayOffer : Bool) : KeepsPolicy s (s.actByWay k mayOffer) := by
  have hdue : (if s.deadlineDue k then s.passDeadline k else s).policy = s.policy := by split <;> simp
  unfold State.actByWay
  dsimp only
  split
  · cases mayOffer with
    | true => exact .of_some ((State.policy_eq_iff.mpr (State.offer_policy _)).trans hdue)
    | false => exact .of_some hdue
  · exact (keepsPolicy_placeRequest _ k).after hdue
  · exact .of_some hdue
  · exact .of_some hdue

theorem keepsPolicy_makeEligible (s : State) (k : Fin 8) (mayOffer : Bool) :
    KeepsPolicy s (s.makeEligible k mayOffer) := by
  unfold State.makeEligible
  split
  · exact .same
  · exact (keepsPolicy_actByWay _ k mayOffer).after (by simp)

theorem keepsPolicy_linkUp (s : State) : KeepsPolicy s s.linkUp :=
  .foldSteps (fun k u => .ite (keepsPolicy_makeEligible u k true) .same) s allSlots

theorem keepsPolicy_rankNotice (s : State) (k : Fin 8) : KeepsPolicy s (s.rankNotice k) := by
  unfold State.rankNotice
  split
  · exact .same
  · exact .ite .same (.ite ((keepsPolicy_actByWay _ k true).after (by simp)) .same)

theorem keepsPolicy_rerank (s : State) (k : Fin 8) : KeepsPolicy s (s.rerank k) := by
  unfold State.rerank
  split
  · exact .same
  · exact .ite .same ((keepsPolicy_rankNotice _ k).after (by simp))

theorem keepsPolicy_giveBack (s : State) (p : Preemption) : KeepsPolicy s (s.giveBack p) := by
  unfold State.giveBack
  split
  · exact .of_some (by simp)
  · split
    · exact .of_some (by simp)
    · exact .of_some (by simp)
    all_goals exact keepsPolicy_takeHead s _

theorem keepsPolicy_restoreByCut (s : State) (p : Preemption) (w : Watch) : KeepsPolicy s (s.restoreByCut p w) := by
  unfold State.restoreByCut
  refine (keepsPolicy_postCut _ w).after ?_
  split <;> simp

theorem keepsPolicy_restoreAir (s : State) : KeepsPolicy s s.restoreAir := by
  unfold State.restoreAir
  split
  · exact .same
  · rename_i p _
    refine KeepsPolicy.map (.after (s' := { s with air := { s.air with preemption := none } }) ?_ (by simp))
      fun t => by simp
    split
    · exact .ite (keepsPolicy_restoreByCut _ p _) ((keepsPolicy_giveBack _ p).after (by simp))
    · exact keepsPolicy_giveBack _ p

theorem keepsPolicy_eligibleAgain (s : State) (k : Fin 8) (a : Alert) : KeepsPolicy s (s.eligibleAgain k a) :=
  .ite (.of_some (by simp)) ((keepsPolicy_makeEligible _ k false).after (by simp))

theorem keepsPolicy_judge (s : State) (c : Carriage) (reason : EndReason) : KeepsPolicy s (s.judge c reason) := by
  unfold State.judge
  split
  · exact .same
  · refine .ite (keepsPolicy_eligibleAgain s _ _) ?_
    dsimp only
    split
    · exact .ite (.ite (keepsPolicy_eligibleAgain s _ _) (.of_some (by simp)))
        (.ite (.of_some (by simp)) (.of_some (by simp)))
    · exact .ite (.of_some (by simp)) (.of_some (by simp))
    · exact .ite (.of_some (by simp)) (.of_some (by simp))
    · exact .same

theorem keepsPolicy_breakEnd (s : State) : KeepsPolicy s s.breakEnd := by
  unfold State.breakEnd
  split
  · exact .same
  · split
    · exact keepsPolicy_endOnAir s _
    · refine .after (s' := s.endRecord .complete) ?_ (by simp)
      dsimp only
      split
      · exact .ite (keepsPolicy_postCut _ _) ((keepsPolicy_takeHead _ _).after (by simp))
      · exact keepsPolicy_takeHead _ _

theorem keepsPolicy_afterRun (s : State) : KeepsPolicy s s.afterRun := by
  have hrestore : KeepsPolicy s s.giveRestore := .ite ((keepsPolicy_testLastCaller _).after (by simp)) .same
  exact .ite .same (hrestore.map fun t => by split <;> simp)

theorem keepsPolicy_followCarriage (s : State) (way : Way) : KeepsPolicy s (s.followCarriage way) := by
  unfold State.followCarriage
  refine .ite (.bind ?_ keepsPolicy_afterRun) (.of_some (by simp))
  split
  · exact keepsPolicy_restoreAir s
  · exact keepsPolicy_breakEnd s
  · exact keepsPolicy_breakEnd s

theorem keepsPolicy_endCarriage (s : State) (reason : EndReason) : KeepsPolicy s (s.endCarriage reason) := by
  unfold State.endCarriage
  split
  · exact .same
  · rename_i c _
    refine .bind ?_ fun t => (keepsPolicy_followCarriage _ c.way).after (by simp)
    have hclosed (n : Option CarriageNote) : KeepsPolicy s (some { s.stopSent reason with
        sched := { (s.stopSent reason).sched with lastNote := n, carriage := none } }) :=
      .of_some (by unfold State.stopSent; split <;> simp)
    exact .ite (hclosed _) ((keepsPolicy_judge _ c reason).after (hclosed _ _ rfl))

theorem keepsPolicy_retire (s : State) (k : Fin 8) (reason : Retirement) : KeepsPolicy s (s.retire k reason) := by
  unfold State.retire
  split
  · exact .same
  · exact .map (.ite (keepsPolicy_endCarriage s _) (.of_some (by simp))) fun t => by simp

/-! ### The alert receiver (chapter 7) -/

theorem keepsPolicy_storeAlert (s : State) (k : Fin 8) (f : IssueFrame) : KeepsPolicy s (s.storeAlert k f) :=
  .ite ((keepsPolicy_makeEligible _ k true).after (by simp)) (.of_some (by simp))

theorem keepsPolicy_newAlert (s : State) (f : IssueFrame) : KeepsPolicy s (s.newAlert f) := by
  unfold State.newAlert
  refine .ite (.of_some (by simp)) (.ite (.of_some (by simp)) ?_)
  split
  · exact keepsPolicy_storeAlert s _ f
  · split
    · exact (keepsPolicy_retire s _ _).bind fun t => keepsPolicy_storeAlert t _ f
    · exact .of_some (by simp)

theorem keepsPolicy_revise (s : State) (k : Fin 8) (a : Alert) (f : IssueFrame) : KeepsPolicy s (s.revise k a f) :=
  .ite (.of_some (by simp)) (.ite ((keepsPolicy_makeEligible _ k true).after (by simp)) (.of_some (by simp)))

theorem keepsPolicy_knownAlert (s : State) (k : Fin 8) (a : Alert) (f : IssueFrame) :
    KeepsPolicy s (s.knownAlert k a f) :=
  .ite (.of_some (by simp)) (.ite (.of_some (by simp))
    (.ite ((keepsPolicy_retire s k _).map fun t => by simp) (keepsPolicy_revise s k a f)))

theorem keepsPolicy_takeIssue (s : State) (f : IssueFrame) : KeepsPolicy s (s.takeIssue f) := by
  unfold State.takeIssue
  refine .ite (.of_some (by simp)) ?_
  split
  · exact keepsPolicy_newAlert s f
  · split
    · exact keepsPolicy_knownAlert s _ _ f
    · exact keepsPolicy_newAlert s f

theorem keepsPolicy_takeCancel (s : State) (origin number : Nat) : KeepsPolicy s (s.takeCancel origin number) := by
  unfold State.takeCancel
  refine .ite (.of_some (by simp)) ?_
  split
  · exact .of_some (by simp)
  · split
    · exact (keepsPolicy_retire s _ _).map fun t => by simp
    · exact .of_some (by simp)

theorem keepsPolicy_takeAudio (s : State) (reason : EndReason) : KeepsPolicy s (s.takeAudio reason) := by
  unfold State.takeAudio
  split
  · exact .ite (keepsPolicy_endCarriage s reason) .same
  · exact .same

theorem keepsPolicy_alertByte (b : Byte) (s : State) : KeepsPolicy s (s.alertByte b) := by
  unfold State.alertByte
  split
  · exact .of_some (by simp)
  · refine .ite (.of_some (by simp)) ?_
    split
    · exact .of_some (by simp)
    · exact .of_some (by simp)
    · refine .after (s' := s.putAlertOpen none) ?_ (by simp)
      unfold State.takeAlertFrame
      split
      · exact keepsPolicy_takeIssue _ _
      · exact keepsPolicy_takeCancel _ _ _
      · exact keepsPolicy_takeAudio _ _
      · exact keepsPolicy_takeAudio _ _
      · exact .same
    · exact .of_some (by simp)

/-- After the entry is written, ranking the records and expiring their deadlines leaves the table (R139, R143, R155). -/
theorem writeClass_policy {s t : State} {c : Nat} {e : ClassEntry} (h : s.writeClass c e = some t) :
    t.policy = s.policy ∨ t.policy = (s.putClass c e).policy := by
  have hranked : KeepsPolicy (s.putClass c e)
      (if (s.classEntry c).action = e.action then some (s.putClass c e) else (s.putClass c e).rerankClass c) :=
    .ite .same (.foldSteps (fun k u => .ite (keepsPolicy_rerank u k) .same) _ allSlots)
  unfold State.writeClass at h
  dsimp only at h
  split at h
  · cases h; exact .inl rfl
  · split at h
    · exact .inr (hranked t h)
    · exact .inr (hranked.map (State.expireMoved_policy c) t h)

/-! ### The site link (chapter 9) -/

theorem keepsPolicy_validFrame (s : State) {handle : State → State} (hh : ∀ t, (handle t).receiver = t.receiver) :
    KeepsPolicy s (s.validFrame handle) := by
  unfold State.validFrame
  refine KeepsPolicy.map ?_ fun t => by simp
  split
  · exact .of_some (by simp [hh])
  · exact (keepsPolicy_linkUp _).after (by simp [hh])
  · exact (keepsPolicy_linkUp _).after (by simp [hh])

theorem keepsPolicy_siteByte (b : Byte) (s : State) : KeepsPolicy s (s.siteByte b) := by
  unfold State.siteByte
  split
  · exact .of_some (by simp)
  · refine .ite (.of_some (by simp)) ?_
    split
    · exact .of_some (by simp)
    · exact .of_some (by simp)
    · refine .after (s' := s.putSiteOpen none) ?_ (by simp)
      unfold State.takeSiteFrame
      split
      · exact keepsPolicy_validFrame _ (by simp)
      · exact keepsPolicy_validFrame _ (by simp)
      · exact keepsPolicy_validFrame _ (by simp)
      · exact keepsPolicy_validFrame _ (by simp)
      · exact .same
    · exact .of_some (by simp)

/-! ### The post watch, the clock and the controller reset -/

theorem keepsPolicy_takeCut (s : State) (w : Watch) : KeepsPolicy s (s.takeCut w) := by
  have hput (x : PostWatch) : KeepsPolicy s (some (s.putWatch x)) := .of_some (by simp)
  unfold State.takeCut
  split
  · exact .ite (hput _) (.ite (keepsPolicy_postCut s w) (hput _))
  · exact .ite (keepsPolicy_postCut s w) (hput _)
  · exact .ite (keepsPolicy_postCut s w) (hput _)
  all_goals exact hput _

theorem keepsPolicy_takePost (s : State) : KeepsPolicy s s.takePost := (keepsPolicy_takeFromGo _).after (by simp)

theorem keepsPolicy_watchClock (s : State) : KeepsPolicy s s.watchClock := by
  unfold State.watchClock
  split
  · exact .same
  · exact .ite (keepsPolicy_takeCut s _) (.ite (keepsPolicy_takePost s) .same)

theorem keepsPolicy_alertClock (k : Fin 8) (s : State) : KeepsPolicy s (s.alertClock k) := by
  unfold State.alertClock
  split
  · exact .same
  · exact .ite (keepsPolicy_retire s k _) (.ite (keepsPolicy_makeEligible s k true) .same)

theorem keepsPolicy_setClock (s : State) (time : Nat) : KeepsPolicy s (s.setClock time) := by
  have hwatch : KeepsPolicy s
      (State.watchClock { s with clock := { s.clock with station := time, unset := false } }) :=
    (keepsPolicy_watchClock _).after rfl
  have hcomputed := hwatch.map (f := State.compute) fun t => by simp
  have halerts := hcomputed.bind fun t => .foldSteps keepsPolicy_alertClock t allSlots
  exact halerts.bind fun t => .foldSteps (fun k u => .ite (keepsPolicy_makeEligible u k true) .same) t allSlots

theorem keepsPolicy_resumeAlert (s : State) (was : Option (Fin 8)) (passed : Bool) :
    KeepsPolicy s (s.resumeAlert was passed) := by
  unfold State.resumeAlert
  split
  · exact .same
  · split
    · exact .same
    · exact .ite ((keepsPolicy_actByWay _ _ false).after (by simp)) .same

theorem keepsPolicy_controllerReset (s : State) : KeepsPolicy s s.controllerReset := by
  have hrebuilt : s.resetBlocks.rebuild.policy = s.policy :=
    (State.policy_eq_iff.mpr (by simp)).trans s.resetBlocks_policy
  have hplaced := ((keepsPolicy_resumeAlert _ s.onAirSlot s.carriedPassed).after hrebuilt).bind fun t =>
    .foldSteps (f := State.placeAgain) (fun k u => .ite (keepsPolicy_placeRequest u k) .same) t allSlots
  exact hplaced.map fun t => by simp

/-! ### Commands and owners -/

/-- What a command can do to the table and the lock: nothing, settle and write one entry (R139), or lock (R141). -/
inductive PolicyStep (s t : State) : Prop
  | kept (h : t.policy = s.policy)
  | written (c action deadline required : Nat)
      (h : t.policy = (s.putClass c (settleClass s.receiver.lock (s.classEntry c) action deadline required)).policy)
  | locked (h : t.policy = (lockClasses s.receiver.classes, true))

theorem PolicyStep.after {s t u : State} (h : PolicyStep s t) (hu : u.policy = t.policy) : PolicyStep s u := by
  cases h with
  | kept h => exact .kept (hu.trans h)
  | written c action deadline required h => exact .written c action deadline required (hu.trans h)
  | locked h => exact .locked (hu.trans h)

theorem PolicyStep.of_before {s s' t : State} (h : PolicyStep s' t) (hs : s'.receiver = s.receiver) :
    PolicyStep s t := by
  cases h with
  | kept h => exact .kept (h.trans (by simp [hs]))
  | written c action deadline required h =>
    refine .written c action deadline required (h.trans ?_)
    simp [State.putClass, State.classEntry, hs]
  | locked h => exact .locked (h.trans (by rw [hs]))

/-- What an owner's answer does to the table and the lock. -/
def PolicyAnswer (s : State) (r : Option (State × Reply)) : Prop := ∀ t y, r = some (t, y) → PolicyStep s t

/-- What a command that has a next state does to the table and the lock. -/
def PolicyNext (s : State) (r : Result) : Prop := ∀ t, r = .next t → PolicyStep s t

section

variable {s : State}

theorem PolicyAnswer.accepted {r : Option State} (h : KeepsPolicy s r) (f : State → List Byte) :
    PolicyAnswer s (accepted r f) := fun t _ ht => .kept (h t (accepted_some ht).1)

/-- An owner that leaves the receiver. -/
theorem PolicyAnswer.put {t : State} (h : t.receiver = s.receiver) (f : State → List Byte) :
    PolicyAnswer s (Machine.accepted (some t) f) := .accepted (.of_some (by simp [h])) f

theorem PolicyAnswer.refused (st : Status) : PolicyAnswer s (refused s st) := fun t _ ht => by cases ht; exact .kept rfl

theorem PolicyAnswer.ite {c : Prop} [Decidable c] {a b : Option (State × Reply)} (ha : PolicyAnswer s a)
    (hb : PolicyAnswer s b) : PolicyAnswer s (if c then a else b) := by split <;> assumption

theorem PolicyAnswer.onLine {f : Fin 6 → Option (State × Reply)} (hf : ∀ l, PolicyAnswer s (f l)) (line : Nat) :
    PolicyAnswer s (onLine line s f) := by
  unfold Machine.onLine
  split
  · exact .refused _
  · exact hf _

theorem PolicyNext.of_next {t : State} (h : t.policy = s.policy) : PolicyNext s (.next t) := fun _ ht => by
  cases ht; exact .kept h

theorem PolicyNext.same : PolicyNext s (.next s) := .of_next rfl

theorem PolicyNext.finish {r : Option State} (h : KeepsPolicy s r) : PolicyNext s (finish r) := fun t ht =>
  .kept (h t (finish_next.mp ht))

theorem PolicyNext.ite {c : Prop} [Decidable c] {a b : Result} (ha : PolicyNext s a) (hb : PolicyNext s b) :
    PolicyNext s (if c then a else b) := by split <;> assumption

/-- Every answer but the owner's leaves the table and the lock (R188, R189). -/
theorem PolicyNext.request {owner : State → Option (State × Reply)} (ho : PolicyAnswer s (owner s)) (code : Nat)
    (role : Role) (permitted : List Role) : PolicyNext s (request code role permitted s owner) := fun t ht => by
  obtain ⟨-, rfl⟩ | ⟨-, -, rfl⟩ | ⟨-, -, u, r, hu, rfl⟩ := request_cases ht
  · exact .kept (by simp)
  · exact .kept (by simp)
  · exact (ho u r hu).after (by simp)

theorem PolicyNext.readRequest (owner : State → Reply) (code : Nat) (role : Role) (permitted : List Role) :
    PolicyNext s (readRequest code role permitted s owner) :=
  .request (fun t y ht => by cases ht; exact .kept rfl) code role permitted

end

/-! ### The owners of the running-order, air and bus requests (chapters 1 to 3 and 5) -/

theorem keepsPolicy_edited (s : State) (st : Store) (n : Notice) : KeepsPolicy s (s.edited st n) :=
  (keepsPolicy_settleHead s _).after (by simp)

theorem policyAnswer_insertEntry (s : State) (anchor : Nat) (e : RawEntry) :
    PolicyAnswer s (insertEntry anchor e s) := by
  unfold insertEntry
  split
  · refine .ite (.refused _) (.ite (.refused _) (.ite (.refused _) ?_))
    split
    · exact .refused _
    · exact .accepted (keepsPolicy_edited s _ _) _
  · exact .refused _

theorem policyAnswer_changeEntry (s : State) (n : Nat) (e : RawEntry) : PolicyAnswer s (changeEntry n e s) := by
  unfold changeEntry
  split
  · exact .refused _
  · split
    · exact .refused _
    · exact .refused _
    · exact .ite (.refused _) (.ite (.refused _) (.accepted (keepsPolicy_edited s _ _) _))

theorem policyAnswer_moveEntry (s : State) (n list anchor : Nat) : PolicyAnswer s (moveEntry n list anchor s) := by
  have hlive (e : Entry) (l : ListId) : PolicyAnswer s (moveLive n e l anchor s) :=
    .ite (.put rfl _) (.accepted (keepsPolicy_edited s _ _) _)
  unfold moveEntry
  split
  · exact .refused _
  · refine .ite (.refused _) ?_
    split
    · exact .refused _
    · exact .refused _
    · exact .ite (.refused _) (.ite (.refused _) (.ite (.refused _) (hlive _ _)))

theorem policyAnswer_deleteEntry (s : State) (n : Nat) : PolicyAnswer s (deleteEntry n s) := by
  unfold deleteEntry
  split
  · exact .refused _
  · exact .refused _
  · exact .ite (.refused _) (.accepted (keepsPolicy_edited s _ _) _)

theorem policyAnswer_clearBreak (s : State) (b : Nat) : PolicyAnswer s (clearBreak b s) := by
  unfold clearBreak
  split
  · exact .refused _
  · exact .ite (.refused _) (.ite (.put rfl _) (.accepted (keepsPolicy_edited s _ _) _))

theorem policyAnswer_setMode (s : State) (mode : Nat) : PolicyAnswer s (setMode mode s) := by
  unfold setMode
  split
  · exact .refused _
  · exact .put (by rfl) _

theorem State.takeGo_policy {s t : State} {acted : Bool} (ht : s.takeGo = some (t, acted)) : t.policy = s.policy := by
  have hstart {u : State} (hu : u.policy = s.policy) (hs : u.startHead.map (·, true) = some (t, acted)) :
      t.policy = s.policy := by
    obtain ⟨v, hv, heq⟩ := Option.map_eq_some_iff.mp hs
    obtain ⟨rfl, -⟩ := Prod.mk.inj heq
    exact (keepsPolicy_startHead u v hv).trans hu
  unfold State.takeGo at ht
  split at ht
  · split at ht
    · cases ht; rfl
    · exact hstart rfl ht
  · exact hstart (by simp) ht
  · cases ht; rfl
  all_goals cases ht; rfl

theorem policyAnswer_giveGo (s : State) : PolicyAnswer s (giveGo s) := fun t y ht => by
  obtain ⟨⟨u, acted⟩, hu, heq⟩ := Option.map_eq_some_iff.mp ht
  cases heq
  exact .kept (State.takeGo_policy hu)

theorem policyAnswer_endAirSegment (s : State) : PolicyAnswer s (endAirSegment s) :=
  .ite (.accepted (keepsPolicy_endOnAir s _) _) (.refused _)

theorem policyAnswer_holdAir (s : State) : PolicyAnswer s (holdAir s) := by
  unfold holdAir
  split
  · exact .put (by simp) _
  · exact .put (by simp) _
  · exact .put (by simp) _
  · exact .put (by simp) _
  · exact .put rfl _
  · exact .refused _

theorem policyAnswer_resumeAir (s : State) : PolicyAnswer s (resumeAir s) := by
  unfold resumeAir
  split
  · exact .put (by simp) _
  · exact .accepted (keepsPolicy_takeHead s _) _
  all_goals exact .refused _

theorem policyAnswer_stepAir (s : State) : PolicyAnswer s (stepAir s) := by
  unfold stepAir
  split
  · exact .accepted ((keepsPolicy_takeHead _ _).after (by simp)) _
  all_goals exact .refused _

theorem policyAnswer_setHoldAtPoint (s : State) (value : Nat) : PolicyAnswer s (setHoldAtPoint value s) := by
  unfold setHoldAtPoint
  split
  · exact .refused _
  · exact .put (by rfl) _

theorem policyAnswer_stopAir (s : State) : PolicyAnswer s (stopAir s) :=
  .ite (.refused _) (.ite (.put rfl _) (.put (by simp) _))

theorem policyAnswer_startAir (s : State) : PolicyAnswer s (startAir s) :=
  .ite (.refused _) (.ite (.refused _) (.ite (.accepted (keepsPolicy_takeHead s _) _) (.refused _)))

theorem policyAnswer_cueAirTo (s : State) (n : Nat) : PolicyAnswer s (cueAirTo n s) := by
  unfold cueAirTo
  split
  · exact .refused _
  · exact .refused _
  all_goals
    split
    · exact .refused _
    · exact .refused _
    · exact .accepted ((keepsPolicy_settleHead s _).after (by simp)) _

theorem policyAnswer_cuePlayer (s : State) (player cart length : Nat) :
    PolicyAnswer s (cuePlayer player cart length s) := by
  unfold cuePlayer
  split
  · exact .refused _
  · exact .ite (.refused _) (.ite (.refused _) (.put (by simp) _))

theorem policyAnswer_clearPlayer (s : State) (player : Nat) : PolicyAnswer s (clearPlayer player s) := by
  unfold clearPlayer
  split
  · exact .refused _
  · exact .ite (.refused _) (.put (by simp) _)

theorem policyAnswer_setFader (s : State) (source : Nat) (value : Int) : PolicyAnswer s (setFader source value s) := by
  unfold setFader
  split
  · exact .refused _
  · exact .put (by simp) _

theorem policyAnswer_setTrim (s : State) (source : Nat) (value : Int) : PolicyAnswer s (setTrim source value s) := by
  unfold setTrim
  split
  · exact .refused _
  · exact .put (by simp) _

theorem policyAnswer_switchMic (s : State) (source value : Nat) : PolicyAnswer s (switchMic source value s) := by
  unfold switchMic
  split
  · exact .put (by simp) _
  · exact .refused _

/-! ### The owners of the line requests (R109 to R118) -/

theorem policyAnswer_acceptCaller (s : State) (line : Nat) (name : List Byte) (topic priority : Nat) :
    PolicyAnswer s (acceptCaller line name topic priority s) := by
  refine .onLine (fun l => ?_) line
  split
  · exact .refused _
  · exact .ite (.refused _) (.ite (.put (by simp) _) (.refused _))

theorem policyAnswer_rejectCaller (s : State) (line : Nat) : PolicyAnswer s (rejectCaller line s) := by
  refine .onLine (fun l => ?_) line
  split
  · exact .put (by simp) _
  · exact .put (by simp) _
  · exact .put (by simp) _
  all_goals exact .refused _

theorem keepsPolicy_clearCall (s : State) (l : Fin 6) (e : LastEnd) : KeepsPolicy s (s.clearCall l e) :=
  .ite ((keepsPolicy_testLastCaller _).after (by simp)) (.of_some (by simp))

theorem policyAnswer_releaseCaller (s : State) (role : Role) (line : Nat) :
    PolicyAnswer s (releaseCaller role line s) := by
  have hclear (l : Fin 6) : PolicyAnswer s (accepted (s.clearCall l .released) fun _ => []) :=
    .accepted (keepsPolicy_clearCall s l _) _
  refine .onLine (fun l => ?_) line
  split
  · exact hclear l
  · exact hclear l
  · exact hclear l
  · exact .ite (.refused _) (hclear l)
  all_goals exact .refused _

theorem policyAnswer_takeCaller (s : State) (line : Nat) : PolicyAnswer s (takeCaller line s) := by
  have htake (l : Fin 6) : PolicyAnswer s (if s.lines.alertHold then refused s .wrongState
      else if 2 ≤ s.linesOnAir.length then refused s .full else accepted (some (s.enterOnAir l)) fun _ => []) :=
    .ite (.refused _) (.ite (.refused _) (.put (by simp) _))
  refine .onLine (fun l => ?_) line
  split
  · exact .put rfl _
  · exact htake l
  · exact htake l
  all_goals exact .refused _

theorem policyAnswer_dropCaller (s : State) (line : Nat) : PolicyAnswer s (dropCaller line s) :=
  .onLine (fun _ => .ite (.accepted ((keepsPolicy_testLastCaller _).after (by simp)) _) (.refused _)) line

theorem policyAnswer_serviceLine (s : State) (line value : Nat) : PolicyAnswer s (serviceLine line value s) := by
  refine .onLine (fun l => ?_) line
  split
  · exact .refused _
  · exact .put (by simp) _
  · exact .put (by simp) _
  · exact .put rfl _
  · exact .put rfl _
  · exact .refused _

theorem policyAnswer_moveInQueue (s : State) (line position : Nat) : PolicyAnswer s (moveInQueue line position s) :=
  .onLine (fun _ => .ite (.refused _) (.ite (.refused _) (.ite (.refused _) (.put (by rfl) _)))) line

theorem policyAnswer_pinLine (s : State) (line : Nat) : PolicyAnswer s (pinLine line s) :=
  .onLine (fun _ => .ite (.put (by simp) _) (.refused _)) line

theorem policyAnswer_noteCaller (s : State) (line : Nat) (name : List Byte) (topic : Nat) :
    PolicyAnswer s (noteCaller line name topic s) := by
  refine .onLine (fun l => ?_) line
  split
  · exact .refused _
  · refine .ite (.refused _) ?_
    split
    · exact .put (by simp) _
    · exact .put (by simp) _
    · exact .put (by simp) _
    all_goals exact .refused _

/-! ### The owners of the alert, site and part requests (chapters 7, 9 and 10) -/

/-- CLASS_WRITE leaves the table, where it holds the entry already, or writes the settled entry (R139). -/
theorem policyAnswer_writeClassEntry (s : State) (c action deadline required : Nat) :
    PolicyAnswer s (writeClassEntry c action deadline required s) := by
  refine .ite (fun t y ht => ?_) (.refused _)
  obtain hkept | hwritten := writeClass_policy (accepted_some ht).1
  · exact .kept hkept
  · exact .written c action deadline required hwritten

/-- COMPLIANCE_LOCK leaves the table under the lock, or locks it (R141). -/
theorem policyAnswer_lockCompliance (s : State) : PolicyAnswer s (lockCompliance s) :=
  .ite (.put rfl _) fun t y ht => by cases ht; exact .locked rfl

theorem policyAnswer_carryNamed (s : State) (origin number : Nat) : PolicyAnswer s (carryNamed origin number s) := by
  unfold carryNamed
  split
  · exact .refused _
  · exact .accepted (.ite ((keepsPolicy_rankNotice _ _).after (by simp)) .same) _

theorem policyAnswer_dismissNamed (s : State) (origin number : Nat) :
    PolicyAnswer s (dismissNamed origin number s) := by
  unfold dismissNamed
  split
  · exact .refused _
  · exact .ite (.refused _) (.ite (.refused _) (.accepted (keepsPolicy_retire s _ _) _))

theorem policyAnswer_setSite (s : State) (param value : Nat) : PolicyAnswer s (setSite param value s) := by
  unfold setSite
  split
  · exact .refused _
  · split
    · exact .refused _
    · exact .put (by simp) _

theorem policyAnswer_setStationTime (s : State) (time : Nat) : PolicyAnswer s (setStationTime time s) :=
  .ite (.refused _) (.accepted (keepsPolicy_setClock s time) _)

theorem policyAnswer_clearEvents (s : State) (pairs : List (Nat × Nat)) : PolicyAnswer s (clearEvents pairs s) :=
  .ite (.put (foldl_receiver (fun s p => by simp) pairs s) _) (.refused _)

theorem policyAnswer_maskEvents (s : State) (mask : Vector Byte 24) : PolicyAnswer s (maskEvents mask s) :=
  .put (by rfl) _

/-! ### The requests -/

/-- What every request that a WRITE brings does to the table and the lock. -/
theorem policyNext_runRequest (i : Instr) (s : State) : PolicyNext s (runRequest i s) := by
  cases i with
  | roInsert role anchor body => exact .request (policyAnswer_insertEntry s anchor body) _ _ _
  | roChange role handle body => exact .request (policyAnswer_changeEntry s handle body) _ _ _
  | roMove role handle list anchor => exact .request (policyAnswer_moveEntry s handle list anchor) _ _ _
  | roDelete role handle => exact .request (policyAnswer_deleteEntry s handle) _ _ _
  | breakClear role brk => exact .request (policyAnswer_clearBreak s brk) _ _ _
  | airMode role mode => exact .request (policyAnswer_setMode s mode) _ _ _
  | airGo role => exact .request (policyAnswer_giveGo s) _ _ _
  | airEndSegment role => exact .request (policyAnswer_endAirSegment s) _ _ _
  | airHold role => exact .request (policyAnswer_holdAir s) _ _ _
  | airResume role => exact .request (policyAnswer_resumeAir s) _ _ _
  | airStep role => exact .request (policyAnswer_stepAir s) _ _ _
  | airHoldAtPoint role value => exact .request (policyAnswer_setHoldAtPoint s value) _ _ _
  | airStop role => exact .request (policyAnswer_stopAir s) _ _ _
  | airStart role => exact .request (policyAnswer_startAir s) _ _ _
  | airCueTo role handle => exact .request (policyAnswer_cueAirTo s handle) _ _ _
  | playerCue role player cart length => exact .request (policyAnswer_cuePlayer s player cart length) _ _ _
  | playerClear role player => exact .request (policyAnswer_clearPlayer s player) _ _ _
  | busFader role source value => exact .request (policyAnswer_setFader s source value) _ _ _
  | busTrim role source value => exact .request (policyAnswer_setTrim s source value) _ _ _
  | micSwitch role source value => exact .request (policyAnswer_switchMic s source value) _ _ _
  | lineAnswer role line =>
    simp only [runRequest, execLineAnswer]
    exact .request (.onLine (fun _ => .ite (.put (by simp) _) (.refused _)) line) _ _ _
  | lineAccept role line name topic priority =>
    exact .request (policyAnswer_acceptCaller s line name topic priority) _ _ _
  | lineReject role line => exact .request (policyAnswer_rejectCaller s line) _ _ _
  | lineRelease role line => exact .request (policyAnswer_releaseCaller s role line) _ _ _
  | lineTake role line => exact .request (policyAnswer_takeCaller s line) _ _ _
  | lineDrop role line => exact .request (policyAnswer_dropCaller s line) _ _ _
  | lineService role line value => exact .request (policyAnswer_serviceLine s line value) _ _ _
  | queueMove role line position => exact .request (policyAnswer_moveInQueue s line position) _ _ _
  | linePin role line => exact .request (policyAnswer_pinLine s line) _ _ _
  | lineNotes role line name topic => exact .request (policyAnswer_noteCaller s line name topic) _ _ _
  | classWrite role cls action deadline required =>
    exact .request (policyAnswer_writeClassEntry s cls action deadline required) _ _ _
  | complianceLock role => exact .request (policyAnswer_lockCompliance s) _ _ _
  | alertCarry role origin number => exact .request (policyAnswer_carryNamed s origin number) _ _ _
  | alertDismiss role origin number => exact .request (policyAnswer_dismissNamed s origin number) _ _ _
  | siteSet role param value => exact .request (policyAnswer_setSite s param value) _ _ _
  | configWriteTolerance role value =>
    simp only [runRequest, execConfigWriteTolerance]
    exact .request (.put (by simp) _) _ _ _
  | configWriteFillPlayer role value =>
    simp only [runRequest, execConfigWriteFillPlayer]
    refine .request ?_ _ _ _
    split
    · exact .refused _
    · exact .put (by simp) _
  | configWriteCueGrace role value | configWriteThreshold role value | configWriteDeadAirLimit role value
  | configWriteDuckDepth role value | configWriteHoldLimit role value | configWriteFoldBackLimit role value =>
    simp only [runRequest, execConfigWriteCueGrace, execConfigWriteThreshold, execConfigWriteDeadAirLimit,
      execConfigWriteDuckDepth, execConfigWriteHoldLimit, execConfigWriteFoldBackLimit]
    exact .request (.put (by rfl) _) _ _ _
  | configWriteCalibration role item value =>
    simp only [runRequest, execConfigWriteCalibration]
    refine .request ?_ _ _ _
    split
    · exact .put (by simp) _
    · exact .put (by simp) _
    · exact .refused _
  | clockSet role time => exact .request (policyAnswer_setStationTime s time) _ _ _
  | controllerReset role =>
    simp only [runRequest, execControllerReset]
    exact .request (.accepted (keepsPolicy_controllerReset s) _) _ _ _
  | eventsClear role pairs => exact .request (policyAnswer_clearEvents s pairs) _ _ _
  | eventsMask role mask => exact .request (policyAnswer_maskEvents s mask) _ _ _
  | roRead _ _ | roList _ _ _ | airStatus _ | playerRead _ _ | lookaheadRead _ _ | timingRead _ | busRead _
  | callerRead _ _ | queueRead _ | classRead _ _ | classProbe _ _ _ _ _ | alertRead _ _ _ | alertList _
  | carriageRead _ | siteRead _ | configRead _ | clockRead _ | ident _ | eventsRead _ =>
    simp only [runRequest, execRoRead, execRoList, execAirStatus, execPlayerRead, execLookaheadRead, execTimingRead,
      execBusRead, execCallerRead, execQueueRead, execClassRead, execClassProbe, execAlertRead, execAlertList,
      execCarriageRead, execSiteRead, execConfigRead, execClockRead, execIdent, execEventsRead]
    exact .readRequest _ _ _ _
  | _ => exact .same

theorem policyNext_portWrite (bytes : List Byte) (s : State) : PolicyNext s (portWrite bytes s) := by
  have hbad (st : Status) : PolicyNext s (.next (s.answerBad bytes st)) := by
    refine .of_next ?_
    unfold State.answerBad
    split <;> simp
  unfold portWrite
  refine .ite (.of_next (by simp)) ?_
  split
  · exact hbad _
  · exact hbad _
  · exact policyNext_runRequest _ s

theorem portRead_receiver (clocked : Nat) (s : State) : (portRead clocked s).receiver = s.receiver := by
  unfold portRead
  split <;> rfl

/-! ### Edges and timers -/

theorem keepsPolicy_takeSegue (s : State) : KeepsPolicy s s.takeSegue := by
  unfold State.takeSegue
  split
  · exact .same
  · dsimp only
    split
    · exact .ite ((keepsPolicy_takeHead _ _).after (by simp)) (.of_some (by simp))
    · exact .of_some (by simp)

theorem keepsPolicy_takeCutInstant (s : State) : KeepsPolicy s s.takeCutInstant := by
  unfold State.takeCutInstant
  split
  · exact keepsPolicy_takeCut s _
  · exact .same

theorem keepsPolicy_goEdge (s : State) : KeepsPolicy s (s.takeGo.map Prod.fst) := fun t ht => by
  obtain ⟨⟨u, acted⟩, hu, rfl⟩ := Option.map_eq_some_iff.mp ht
  exact State.takeGo_policy hu

theorem keepsPolicy_takeEnd (s : State) (p : Fin 4) : KeepsPolicy s (s.takeEnd p) :=
  .ite (keepsPolicy_endOnAir s _) (.ite (keepsPolicy_endOutgoing s) (.ite (.of_some (by simp)) .same))

/-! ### Every command, and the step -/

/-- What every command but the power-on reset does to the table and the lock. -/
theorem policyNext_exec (i : Instr) (hi : ∀ l, i ≠ .powerOnReset l) (s : State) : PolicyNext s (exec i s) := by
  by_cases hreq : i.request?.isSome = true
  · exact exec_of_request hreq s ▸ policyNext_runRequest i s
  cases i with
  | writeTransactionBad first bytes =>
    exact .ite (policyNext_portWrite bytes s) (.ite (.of_next (by simp [portRead_receiver])) .same)
  | portOverrun bytes => exact policyNext_portWrite bytes s
  | read clocked => exact .of_next (by simp [portRead_receiver])
  | powerOnReset levels => exact absurd rfl (hi levels)
  | goEdge => exact .ite .same (.finish ((keepsPolicy_goEdge _).after (by rfl)))
  | netAEdge => exact .ite .same (.finish (.after (.ite (keepsPolicy_startHead _) .same) (by rfl)))
  | netBEdge => exact .ite .same (.finish (.after (.ite (keepsPolicy_endOnAir _ _) .same) (by rfl)))
  | endInput player => exact .finish (keepsPolicy_takeEnd s player)
  | endTimer => exact .ite (.finish (keepsPolicy_endOnAir s _)) .same
  | seguePoint => exact .ite (.finish (keepsPolicy_takeSegue s)) .same
  | outgoingEnd => exact .ite (.finish (keepsPolicy_endOutgoing s)) .same
  | graceDeadline => exact .ite (.finish ((keepsPolicy_takeHead _ _).after (by simp))) .same
  | postInstant => exact .ite (.finish (keepsPolicy_takePost s)) .same
  | cutInstant => exact .ite (.finish (keepsPolicy_takeCutInstant s)) .same
  | cutCompletion player => exact .ite (.of_next (by simp)) .same
  | fillWithdrawalEnd player => exact .ite (.of_next (by simp)) .same
  | gainUpdate => exact .ite (.of_next (by simp)) .same
  | deadAirWindow => exact .ite (.of_next (by simp)) .same
  | periodicTimer => exact .ite (.of_next (by simp)) .same
  | samplePeriod lanes talkback => exact .of_next (by simp)
  | cueInputFall input => cases input <;> exact .of_next rfl
  | ringEvent line => exact .ite .same (.of_next (by simp))
  | ringFall line => exact .of_next (by simp)
  | loopEdge line level => exact .of_next (by simp)
  | loopDrop line => exact .ite (.finish (.ite ((keepsPolicy_clearCall _ line _).after (by simp)) .same)) .same
  | ringTimer line => exact .ite (.of_next (by simp)) .same
  | clearingTimer line => exact .ite (.of_next (by simp)) .same
  | holdTimer line => exact .ite (.of_next (by simp)) .same
  | issue frame => exact .finish ((keepsPolicy_takeIssue _ frame).after (by simp))
  | cancel origin number => exact .finish ((keepsPolicy_takeCancel _ origin number).after (by simp))
  | audioEnd => exact .finish ((keepsPolicy_takeAudio _ _).after (by simp))
  | audioFail => exact .finish ((keepsPolicy_takeAudio _ _).after (by simp))
  | alertFrameAbandoned bytes => exact .finish (.foldSteps keepsPolicy_alertByte s bytes)
  | alertFrameGap => exact .ite (.of_next (by simp)) .same
  | alertFrameSent => exact .of_next (by simp)
  | validFrom slot => exact .ite (.finish (keepsPolicy_makeEligible s slot _)) .same
  | expiry slot => exact .ite (.finish (keepsPolicy_retire s slot _)) .same
  | nextEligible slot => exact .ite (.finish (keepsPolicy_makeEligible s slot _)) .same
  | deadlineExpiry slot => exact .ite (.of_next (by simp)) .same
  | guardExpiry => exact .ite (.finish (keepsPolicy_endCarriage s _)) .same
  | ack sequence param value => exact .finish ((keepsPolicy_validFrame _ (by simp)).after (by simp))
  | nak sequence reason => exact .finish ((keepsPolicy_validFrame _ (by simp)).after (by simp))
  | reading sequence channel code => exact .finish ((keepsPolicy_validFrame _ (by simp)).after (by simp))
  | siteState active carrier audio fallback =>
    exact .finish ((keepsPolicy_validFrame _ (by simp)).after (by simp))
  | siteFrameAbandoned bytes => exact .finish (.foldSteps keepsPolicy_siteByte s bytes)
  | siteFrameGap => exact .ite (.of_next (by simp)) .same
  | siteFrameSent => exact .of_next (by simp)
  | keepTimer => exact .ite (.of_next (by simp)) .same
  | pollTimer => exact .ite (.of_next (by simp)) .same
  | ackTimeout sequence =>
    change PolicyNext s (execAckTimeout sequence s)
    unfold execAckTimeout
    split
    · exact .of_next (by simp)
    · exact .same
  | retryTimer param => exact .ite (.of_next (by simp)) .same
  | silenceTimerDegrade => exact .ite (.of_next rfl) .same
  | silenceTimerLoss => exact .ite (.of_next rfl) .same
  | changeoverTimer =>
    change PolicyNext s (execChangeoverTimer s)
    unfold execChangeoverTimer
    split
    · exact .of_next (by simp)
    · exact .same
  | readingStale channel => exact .ite (.of_next (by simp)) .same
  | _ => exact absurd rfl hreq

theorem State.tick_receiver (s : State) : s.tick.receiver = s.receiver := by
  unfold State.tick
  split <;> rfl

/-! ### The two properties (R139, R141) -/

/-- The lock is not cleared. -/
theorem PolicyStep.lock {s t : State} (h : PolicyStep s t) (hlock : s.receiver.lock = true) :
    t.receiver.lock = true := by
  cases h with
  | kept h => exact (State.policy_eq_iff.mp h).2.trans hlock
  | written c action deadline required h => exact (State.policy_eq_iff.mp h).2.trans hlock
  | locked h => exact congrArg Prod.snd h

/-- The lock's sweep reads as each required entry with its deadline as ceiling (R141). -/
theorem tableGet_lockClasses (t : List (Nat × ClassEntry)) (c : Nat) :
    tableGet ClassEntry.fresh (lockClasses t) c =
      if (tableGet ClassEntry.fresh t c).required then
        { tableGet ClassEntry.fresh t c with ceiling := some (tableGet ClassEntry.fresh t c).deadline }
      else tableGet ClassEntry.fresh t c := by
  induction t with
  | nil => rfl
  | cons p rest ih =>
    obtain ⟨k, e⟩ := p
    have hcons : lockClasses ((k, e) :: rest) =
        (k, if e.required then { e with ceiling := some e.deadline } else e) :: lockClasses rest := by
      simp only [lockClasses, List.map_cons]
      split <;> rfl
    rw [hcons]
    by_cases hk : k = c
    · simp [tableGet, hk]
    · simp only [tableGet, hk, if_false, ih]

/-- The class entries after the lock's sweep (R141). -/
theorem State.classEntry_locked {s t : State} (h : t.receiver.classes = lockClasses s.receiver.classes) (c : Nat) :
    t.classEntry c = if (s.classEntry c).required then
      { s.classEntry c with ceiling := some (s.classEntry c).deadline } else s.classEntry c := by
  rw [State.classEntry, h]
  exact tableGet_lockClasses s.receiver.classes c

/-- The floor of a required class is a mandatory action (R139, step 4). -/
theorem floorAction_required (a : ClassAction) :
    floorAction true a = .mandatoryNow ∨ floorAction true a = .mandatoryBreak := by
  cases a <;> simp [floorAction]

/-- A settled entry has the floor's action for its own required flag (R139). -/
theorem settleClass_action (lock : Bool) (e : ClassEntry) (action deadline required : Nat) :
    (settleClass lock e action deadline required).action =
      floorAction (settleClass lock e action deadline required).required (actionOf action) := by
  unfold settleClass
  dsimp only
  split
  · split <;> rfl
  · rfl

theorem PolicyStep.requiredIsMandatory {s t : State} (h : PolicyStep s t) (hs : requiredIsMandatory s) :
    requiredIsMandatory t := by
  intro d hd
  cases h with
  | kept h =>
    rw [State.classEntry_of_policy h] at hd ⊢
    exact hs d hd
  | written c action deadline required h =>
    rw [State.classEntry_of_policy h, State.classEntry_putClass] at hd ⊢
    split at hd
    · rw [if_pos ‹_›, settleClass_action, hd]
      exact floorAction_required _
    · rw [if_neg ‹_›]
      exact hs d hd
  | locked h =>
    rw [State.classEntry_locked (congrArg Prod.fst h)] at hd ⊢
    split at hd
    · rename_i hreq
      rw [if_pos hreq]
      exact hs d hreq
    · exact absurd hd ‹_›

/-- Settles O8: a step writes the class table by CLASS_WRITE, which floors the action of a required class, by the lock's
sweep, which changes ceilings alone, or by the power-on reset, after which no class is required. -/
theorem stepKeepsRequiredMandatory : Obligations.StepKeepsRequiredMandatory := by
  unfold Obligations.StepKeepsRequiredMandatory
  intro s t hs ht
  unfold step at ht
  split at ht
  · cases ht
    exact PolicyStep.requiredIsMandatory (.kept (by simp [State.tick_receiver])) hs
  · rename_i i rest _
    by_cases hreset : ∃ l, i = .powerOnReset l
    · obtain ⟨l, rfl⟩ := hreset
      rw [powerOnResetLeavesResetState] at ht
      cases ht
      intro c hc
      cases hc
    · exact ((policyNext_exec i (fun l hl => hreset ⟨l, hl⟩) _ t ht).of_before rfl).requiredIsMandatory hs

/-- Settles O9: CLASS_WRITE keeps the lock, COMPLIANCE_LOCK sets it, and every other command leaves it. -/
theorem complianceLockStaysSet : Obligations.ComplianceLockStaysSet := by
  unfold Obligations.ComplianceLockStaysSet
  exact fun i s t hi hlock ht => (policyNext_exec i hi s t ht).lock hlock

end Sys2Proof.Machine
end

section
/-! PROOFS. The class action table's writes (O46) and the alert table (O12, O47 to O50): the refusals of an alert that
is not known, the ISSUE of an alert, the power-on reset, retirement, and the instants of a record and of its schedule
entry. -/

namespace Sys2Proof.Machine

open Sys2Proof.Safety

/-! ### CLASS_WRITE with no record in the alert table (R139, R142) -/

/-- With no record in the table there is none to rank afresh (R143). -/
theorem State.rerankClass_empty {s : State} (h : ∀ k : Fin 8, s.alert? k = none) (c : Nat) :
    s.rerankClass c = some s := by
  have hstep (l : List (Fin 8)) : foldSteps
      (fun k t => if (t.alert? k).any (fun a => a.frame.cls = c) then t.rerank k else some t) l s = some s := by
    induction l with
    | nil => rfl
    | cons k rest ih => simp [foldSteps, h k, ih]
  exact hstep allSlots

/-- With no record in the table there is no deadline to expire (R155). -/
theorem State.expireMoved_empty {s : State} (h : ∀ k : Fin 8, s.alert? k = none) (c : Nat) :
    State.expireMoved c s = s :=
  List.foldl_fixed' (fun k => by simp [h k]) allSlots

/-- The state with a class entry written, unless it is held already (R139). -/
def State.classWritten (s : State) (c : Nat) (e : ClassEntry) : State :=
  if s.classEntry c = e then s else s.putClass c e

/-- With no record in the table a write of an entry writes it and nothing else. -/
theorem State.writeClass_empty {s : State} (h : ∀ k : Fin 8, s.alert? k = none) (c : Nat) (e : ClassEntry) :
    s.writeClass c e = some (s.classWritten c e) := by
  have hput (k : Fin 8) : (s.putClass c e).alert? k = none := h k
  simp only [State.writeClass, State.rerankClass_empty hput, ite_self, Option.map_some, State.expireMoved_empty hput,
    State.classWritten]
  split <;> rfl

/-- The entry stands either way, and the other entries and everything else but the class table are as they were. -/
theorem State.classWritten_spec (s : State) (c : Nat) (e : ClassEntry) :
    (s.classWritten c e).classEntry c = e ∧ (∀ d, d ≠ c → (s.classWritten c e).classEntry d = s.classEntry d) ∧
    (s.classWritten c e).receiver.lock = s.receiver.lock ∧
    s.classWritten c e = { s with receiver := (s.classWritten c e).receiver } := by
  unfold State.classWritten
  split
  · exact ⟨‹_›, fun _ _ => rfl, rfl, rfl⟩
  · exact ⟨(s.classEntry_putClass c c e).trans (if_pos rfl),
      fun d hd => (s.classEntry_putClass c d e).trans (if_neg hd), rfl, rfl⟩

/-- CLASS_WRITE by the engineer, with no record in the table: the settled entry stands, and the response answers. -/
theorem exec_classWrite_empty {s : State} (hp : portFree s) {c : Nat} (hc : c ≤ 127)
    (h : ∀ k : Fin 8, s.alert? k = none) (action deadline required : Nat) :
    ∃ t, exec (.classWrite .engineer c action deadline required) s = .next t ∧
      t.classEntry c = settleClass s.receiver.lock (s.classEntry c) action deadline required ∧
      (∀ d, d ≠ c → t.classEntry d = s.classEntry d) ∧ t.receiver.lock = s.receiver.lock ∧
      t = { s with receiver := t.receiver, port := t.port } := by
  obtain ⟨hentry, hothers, hlock, hframe⟩ :=
    s.classWritten_spec c (settleClass s.receiver.lock (s.classEntry c) action deadline required)
  have hwrite : writeClassEntry c action deadline required s = accepted (some (s.classWritten c
      (settleClass s.receiver.lock (s.classEntry c) action deadline required))) fun t => classB (t.classEntry c) := by
    simp only [writeClassEntry, classInRange, hc, decide_true, if_true, State.writeClass_empty h]
  refine ⟨_, request_owner (role := .engineer) hp rfl hwrite, hentry, hothers, hlock, ?_⟩
  rw [hframe]
  rfl

/-- The required flag of a settled entry is not cleared under the lock (R142). -/
theorem settleClass_required (e : ClassEntry) (action deadline required : Nat) :
    (settleClass true e action deadline required).required = (decide (required ≠ 0) || e.required) := by
  unfold settleClass
  dsimp only
  split
  · split <;> rfl
  · rfl

/-- Under the lock an entry with a ceiling keeps it, and keeps its deadline against one above the ceiling (R142). -/
theorem settleClass_ceiling {e : ClassEntry} {x : Nat} (hx : e.ceiling = some x) (action deadline required : Nat) :
    (settleClass true e action deadline required).ceiling = some x ∧
    (settleClass true e action deadline required).deadline =
      if x < min deadline 900 then e.deadline else min deadline 900 := by
  simp [settleClass, hx]

/-- Under the lock an entry without a ceiling takes the deadline, and as its ceiling too where it is required (R142). -/
theorem settleClass_noCeiling {e : ClassEntry} (hx : e.ceiling = none) (action deadline required : Nat) :
    (settleClass true e action deadline required).deadline = min deadline 900 ∧
    (settleClass true e action deadline required).ceiling =
      if (settleClass true e action deadline required).required then some (min deadline 900) else none := by
  simp [settleClass, hx]

/-- Settles O46: with no record in the alert table CLASS_WRITE stores the settled entry and nothing follows from it. -/
theorem classWrittenAndLocked : Obligations.ClassWrittenAndLocked := by
  unfold Obligations.ClassWrittenAndLocked
  intro s hp
  refine ⟨fun hlock => ⟨fun c action deadline required hc hempty => ?clear, ?locking⟩,
    fun hlock => ⟨fun c action deadline required hc hempty => ?locked, ?again⟩⟩
  case clear =>
    obtain ⟨t, ht, hentry, hothers, hkept, hframe⟩ := exec_classWrite_empty hp hc hempty action deadline required
    rw [hlock] at hentry hkept
    exact ⟨t, ht, by simpa [settleClass] using hentry, hothers, hkept, hframe⟩
  case locking =>
    exact ⟨_, request_owner (role := .engineer) hp rfl (if_neg (by simp [hlock])), rfl,
      State.classEntry_locked rfl, rfl⟩
  case locked =>
    obtain ⟨t, ht, hentry, hothers, hkept, hframe⟩ := exec_classWrite_empty hp hc hempty action deadline required
    rw [hlock] at hentry hkept
    refine ⟨t, ht, ?_, ?_, fun x hx => ?_, fun hx => ?_, hothers, hkept, hframe⟩
    all_goals rw [hentry]
    · exact settleClass_required _ _ _ _
    · exact settleClass_action _ _ _ _ _
    · exact settleClass_ceiling hx _ _ _
    · exact settleClass_noCeiling hx _ _ _
  case again => exact request_owner (role := .engineer) hp rfl (if_pos hlock)

/-! ### Operator requests for an alert that is not known (R144) -/

theorem State.namedAlert_badField {origin : Nat} (h : 63 < origin) (s : State) (number : Nat) :
    s.namedAlert origin number = .error .badField := if_pos h

theorem State.namedAlert_stale {s : State} {origin number : Nat} (h : origin ≤ 63)
    (hs : s.slotOf origin number = none) : s.namedAlert origin number = .error .stale := by
  simp [State.namedAlert, Nat.not_lt.mpr h, hs]

theorem State.namedAlert_known {s : State} {origin number : Nat} {k : Fin 8} {a : Alert} (h : origin ≤ 63)
    (hs : s.slotOf origin number = some k) (ha : s.alert? k = some a) : s.namedAlert origin number = .ok (k, a) := by
  simp [State.namedAlert, Nat.not_lt.mpr h, hs, ha]

/-- Each of the three requests answers the refusal that the naming of its alert gives. -/
theorem exec_unnamedAlert {s : State} (hp : portFree s) {role : Role} {origin number code : Nat} {i : Instr}
    (hi : (i, code) ∈ [(.alertCarry role origin number, 0x54), (.alertDismiss role origin number, 0x55),
      (.alertRead role origin number, 0x56)]) (hrole : role ∈ permittedRoles code) {st : Status}
    (hst : s.namedAlert origin number = .error st) :
    exec i s = .next (s.answer code { status := st, fields := [] }) := by
  simp only [List.mem_cons, Prod.mk.injEq, List.not_mem_nil, or_false] at hi
  obtain ⟨rfl, rfl⟩ | ⟨rfl, rfl⟩ | ⟨rfl, rfl⟩ := hi
  · exact request_owner hp (List.contains_iff_mem.mpr hrole) (show carryNamed origin number s = _ by
      simp only [carryNamed, hst]; rfl)
  · exact request_owner hp (List.contains_iff_mem.mpr hrole) (show dismissNamed origin number s = _ by
      simp only [dismissNamed, hst]; rfl)
  · exact request_owner (owner := fun t => some (t, answerAlert origin number t)) hp
      (List.contains_iff_mem.mpr hrole) (by simp only [answerAlert, hst]; rfl)

/-- Settles O47: the alert is named before anything else is looked at. -/
theorem unknownAlertRefused : Obligations.UnknownAlertRefused := by
  unfold Obligations.UnknownAlertRefused
  intro s role origin number i code hp hi hrole
  exact ⟨fun h => exec_unnamedAlert hp hi hrole (State.namedAlert_badField h s number),
    fun h hs => exec_unnamedAlert hp hi hrole (State.namedAlert_stale h hs)⟩

/-! ### The ISSUE of an alert (R132 to R135) -/

/-- An ISSUE taken with no frame open on the port. -/
theorem exec_issue_closed {s : State} (h : s.receiver.opened = none) (f : IssueFrame) :
    exec (.issue f) s = finish (s.takeIssue f) := by
  change execIssue f s = _
  rw [execIssue, State.closeAlert_none h]

/-- An ISSUE of a new alert in force, of a class that is not ignored, is stored in the empty slot (R133). -/
theorem State.takeIssue_new {s : State} {f : IssueFrame} {k : Fin 8} (hform : issueMalformed f = false)
    (hnew : s.slotOf f.origin f.number = none) (hclass : (s.classEntry f.cls).action ≠ .ignore)
    (hspan : f.validFrom < f.expires) (huntil : s.clock.station < f.expires) (hslot : s.emptySlot = some k) :
    s.takeIssue f = s.storeAlert k f := by
  have hlapsed : issueLapsed f s.clock.station = false := by
    simp [issueLapsed, Nat.not_le.mpr hspan, Nat.not_le.mpr huntil]
  simp [State.takeIssue, hform, hnew, State.newAlert, hclass, hlapsed, hslot]

/-- An ISSUE of a known alert (R135). -/
theorem State.takeIssue_known {s : State} {f : IssueFrame} {k : Fin 8} {a : Alert} (hform : issueMalformed f = false)
    (hknown : s.slotOf f.origin f.number = some k) (ha : s.alert? k = some a) : s.takeIssue f = s.knownAlert k a f := by
  simp [State.takeIssue, hform, hknown, ha]

/-- The record of a new alert (R133). -/
def State.issuedAlert (s : State) (f : IssueFrame) : Alert :=
  { frame := f, state := .pending, carried := 0, failed := 0, rank := s.rankFor f false, operatorCarry := false,
    storedAt := s.clock.mono, waitingSince := none, nextEligible := none, revisionOnAir := none }

/-- The state in which the record of a new alert is stored, answered and raised, its schedule entry clear (R133). -/
def State.issuePending (s : State) (k : Fin 8) (f : IssueFrame) : State :=
  (((s.putAlert k (some (s.issuedAlert f))).sendAlert (.receipt f.origin f.number f.revision .accepted)).raise
    .alertReceived (some (.alertReceived f.origin f.number (s.rankFor f false)))).putSched k SchedEntry.clear

/-- A new alert waits for its valid-from, or becomes ELIGIBLE at once (R133, step 5). -/
theorem State.storeAlert_eq (s : State) (k : Fin 8) (f : IssueFrame) :
    s.storeAlert k f = if f.validFrom ≤ s.clock.station then (s.issuePending k f).makeEligible k true
      else some (s.issuePending k f) := rfl

/-- Settles O48: a new alert is stored PENDING, and a revision not above the stored one is answered alone. -/
theorem issueStoredOrAnswered : Obligations.IssueStoredOrAnswered := by
  unfold Obligations.IssueStoredOrAnswered
  intro s f hform hopen
  rw [exec_issue_closed hopen]
  refine ⟨fun k hnew hclass hspan hahead hslot => ?stored, fun k a hknown ha => ?answered⟩
  case stored =>
    rw [State.takeIssue_new hform hnew hclass hspan (hahead.trans hspan) hslot, State.storeAlert_eq,
      if_neg (Nat.not_le.mpr hahead)]
    rfl
  case answered =>
    rw [State.takeIssue_known hform hknown ha]
    refine ⟨fun hsame => ?_, fun hold => ?_⟩
    · rw [State.knownAlert, if_pos hsame]; rfl
    · rw [State.knownAlert, if_neg hold.ne, if_pos hold]; rfl

/-! ### Records of rank 1 (R151, R152) -/

/-- A record of rank 1 that becomes ELIGIBLE waits for the operator (R152). -/
theorem State.makeEligible_rank1 {s : State} {k : Fin 8} {a : Alert} (ha : s.alert? k = some a) (hrank : a.rank = 1)
    (mayOffer : Bool) : s.makeEligible k mayOffer = some (s.enterEligible k a false) := by
  have hdue : (s.enterEligible k a false).deadlineDue k = false := by
    simp [State.deadlineDue, State.deadlineOf, hrank]
  simp [State.makeEligible, ha, State.actByWay, hdue, State.way?_enterEligible, wayOf, hrank]

/-! ### After the power-on reset (R149) -/

/-- A class at its power-on value ranks every alert 1 (R131, R138). -/
theorem State.rankFor_fresh {s : State} {f : IssueFrame} (h : s.classEntry f.cls = ClassEntry.fresh) :
    s.rankFor f false = 1 := by simp [State.rankFor, h, ClassEntry.fresh, rankOf, baseRank]

/-- With no alert known and no class written, an ISSUE of an alert in force is stored in slot 0, whether its valid-from
lies ahead or not. -/
theorem State.takeIssue_first {s : State} (htable : ∀ k : Fin 8, s.alert? k = none)
    (hclass : ∀ c, s.classEntry c = ClassEntry.fresh) {f : IssueFrame} (hform : issueMalformed f = false)
    (hspan : f.validFrom < f.expires) (huntil : s.clock.station < f.expires) :
    ∃ u, s.takeIssue f = some u ∧ (u.alert? 0).map Alert.frame = some f ∧ (∀ k : Fin 8, k ≠ 0 → u.alert? k = none) ∧
      u.receiver.outgoing = s.receiver.outgoing ++ [.receipt f.origin f.number f.revision .accepted] := by
  have hslots : s.slotOf f.origin f.number = none := by simp [State.slotOf, htable]
  have hempty : s.emptySlot = some 0 := by simp [State.emptySlot, htable, allSlots]
  have hrecord (k : Fin 8) : (s.issuePending 0 f).alert? k = if k = 0 then some (s.issuedAlert f) else none := by
    refine (State.alert?_putAlert s 0 k _).trans ?_
    rw [htable]
  have hothers (k : Fin 8) (hk : k ≠ 0) : (s.issuePending 0 f).alert? k = none := (hrecord k).trans (if_neg hk)
  rw [State.takeIssue_new hform hslots (by rw [hclass]; decide) hspan huntil hempty, State.storeAlert_eq]
  split
  · refine ⟨_, State.makeEligible_rank1 (hrecord 0) (State.rankFor_fresh (hclass _)) true, ?_, fun k hk => ?_, ?_⟩
    · rw [State.alert?_enterEligible, if_pos rfl]; rfl
    · rw [State.alert?_enterEligible, if_neg hk]; exact hothers k hk
    · rw [State.enterEligible_outgoing]; rfl
  · exact ⟨_, rfl, by rw [hrecord]; rfl, hothers, rfl⟩

/-- Settles O12: the state after the reset is known, and in it an ISSUE finds no alert and no class written. -/
theorem powerOnResetEmptiesAlertTable : Obligations.PowerOnResetEmptiesAlertTable := by
  unfold Obligations.PowerOnResetEmptiesAlertTable
  intro l s t ht
  obtain ⟨hreceiver, hclock⟩ : t.receiver = Receiver.reset ∧ t.clock.station = 0 := by
    rw [powerOnResetLeavesResetState] at ht
    cases ht
    exact ⟨rfl, rfl⟩
  have htable (k : Fin 8) : t.alert? k = none := by simp [State.alert?, hreceiver, Receiver.reset]
  have hclass (c : Nat) : t.classEntry c = ClassEntry.fresh := by
    simp [State.classEntry, hreceiver, Receiver.reset, tableGet]
  have hopen : t.receiver.opened = none := by rw [hreceiver]; rfl
  refine ⟨htable, hclass, by rw [hreceiver]; rfl, by rw [hreceiver]; rfl, by rw [hreceiver]; rfl, ?waiting,
    by rw [hreceiver]; rfl, hopen, fun f hform hspan => ?issue⟩
  case waiting => simp [State.holds, State.mandatoryWaiting, htable]
  case issue =>
    obtain ⟨u, hu, hstored, hothers, hout⟩ :=
      State.takeIssue_first htable hclass hform hspan (hclock ▸ Nat.zero_lt_of_lt hspan)
    exact ⟨u, by rw [exec_issue_closed hopen, hu]; rfl, hstored, hothers, by rw [hout, hreceiver]; rfl⟩

/-! ### Retirement (R136, R137, R146) -/

/-- Withdrawing a record's alert entry leaves the schedule entries of the other slots (R154). -/
theorem State.withdrawPlaced_others (s : State) {k j : Fin 8} (hj : j ≠ k) :
    (s.withdrawPlaced k).sched? j = s.sched? j := by
  unfold State.withdrawPlaced
  split
  · rfl
  · split
    · rw [State.sched?_putSched, if_neg hj]
      exact State.sched?_congr (by simp) j
    · rfl

/-- The state in which a record that was not ON_AIR has been retired (R137). -/
def State.retired (s : State) (k : Fin 8) (a : Alert) (reason : Retirement) : State :=
  { (s.clearEntry k).putAlert k none with receiver := { ((s.clearEntry k).putAlert k none).receiver with
      lastRetirement := some { origin := a.frame.origin, number := a.frame.number, revision := a.frame.revision,
                               reason } } }

theorem State.retire_offAir {s : State} {k : Fin 8} {a : Alert} (ha : s.alert? k = some a) (hair : a.state ≠ .onAir)
    (reason : Retirement) : s.retire k reason = some (s.retired k a reason) := by
  simp [State.retire, ha, hair, State.retired]

/-- What such a retirement has done, and what it has left (R137). -/
theorem State.retired_spec (s : State) (k : Fin 8) (a : Alert) (reason : Retirement) :
    Retired s (s.retired k a reason) k a reason ∧ (s.retired k a reason).receiver.outgoing = s.receiver.outgoing := by
  have halert (j : Fin 8) : (s.retired k a reason).alert? j = if j = k then none else s.alert? j :=
    (State.alert?_putAlert _ k j none).trans (by rw [State.alert?_congr (t := s.clearEntry k) (s := s) (by simp)])
  have hsched (j : Fin 8) :
      (s.retired k a reason).sched? j = if j = k then SchedEntry.clear else (s.withdrawPlaced k).sched? j :=
    State.sched?_putSched _ k j _
  refine ⟨⟨?alert, ?sched, rfl, fun j hj => ⟨?_, ?_⟩, ?_⟩, ?_⟩
  case alert => rw [halert, if_pos rfl]
  case sched => rw [hsched, if_pos rfl]
  · rw [halert, if_neg hj]
  · rw [hsched, if_neg hj, State.withdrawPlaced_others s hj]
  · simp [State.retired]
  · simp [State.retired]

/-- Settles O49: CANCEL, the expiry and ALERT_DISMISS come to the same retirement. -/
theorem alertRetired : Obligations.AlertRetired := by
  unfold Obligations.AlertRetired
  intro s k a ha hair
  refine ⟨fun origin number horigin hknown hopen => ?cancel, fun hexp => ?expiry,
    fun origin number hp horigin hknown hrank => ?dismiss⟩
  case cancel =>
    obtain ⟨hretired, hout⟩ := s.retired_spec k a .cancelled
    have htake : s.takeCancel origin number =
        some ((s.retired k a .cancelled).receipt origin number a.frame.revision .cancelled) := by
      simp [State.takeCancel, Nat.not_lt.mpr horigin, hknown, ha, State.retire_offAir ha hair]
    refine ⟨(s.retired k a .cancelled).receipt origin number a.frame.revision .cancelled, ?_, hretired,
      by rw [State.receipt_outgoing, hout]⟩
    change execCancel origin number s = _
    rw [execCancel, State.closeAlert_none hopen, htake]
    rfl
  case expiry =>
    have hdue : s.expiryDue k = true := by simp [State.expiryDue, ha, hexp]
    exact ⟨_, (if_pos hdue).trans (finish_next.mpr (State.retire_offAir ha hair .expired)), s.retired_spec k a .expired⟩
  case dismiss =>
    have hdismiss : dismissNamed origin number s = accepted (some (s.retired k a .dismissed)) fun _ => [] := by
      simp [dismissNamed, State.namedAlert_known horigin hknown ha, Nat.not_le.mpr hrank, hair,
        State.retire_offAir ha hair]
    exact ⟨_, request_owner (role := .presenter) hp rfl hdismiss, (s.retired_spec k a .dismissed).1⟩

/-! ### The instants of a record and of its schedule entry (R130, R145, R152, R155) -/

/-- A record of rank 1 that becomes ELIGIBLE has no deadline (R152). -/
theorem State.enterEligible_rank1 {s : State} {k : Fin 8} {a : Alert} (hrank : a.rank = 1) :
    s.enterEligible k a false = (s.putAlert k (some
      { a with state := .waiting, waitingSince := some s.clock.mono, nextEligible := none })).putSched k
        { eligibility := .eligible, placed := false, base := none, passed := false } := by
  simp [State.enterEligible, hrank]

/-- A rank notice of a record that is not ELIGIBLE changes nothing (R153). -/
theorem State.rankNotice_idle {s : State} {k : Fin 8} (h : (s.sched? k).eligibility ≠ .eligible) :
    s.rankNotice k = some s := by
  unfold State.rankNotice
  split
  · rfl
  · simp [h]

/-- During a carriage nothing is offered (R156). -/
theorem State.offer_carrying {s : State} {c : Carriage} (h : s.sched.carriage = some c) : s.offer = s := by
  simp [State.offer, h]

/-- A deadline that passes for an entry that is not placed sets deadline passed alone (R155). -/
theorem State.passDeadline_unplaced {s : State} {k : Fin 8} (h : (s.sched? k).placed = false) :
    s.passDeadline k = s.putSched k { s.sched? k with passed := true } := by
  unfold State.passDeadline State.withdrawPlaced
  split
  · rfl
  · simp [h]

/-- Settles O50: at its instants a rank-1 record becomes ELIGIBLE by way OPERATOR; the operator's carry and a deadline
during a carriage write their one record or entry. -/
theorem alertInstantsAndOperatorCarry : Obligations.AlertInstantsAndOperatorCarry := by
  unfold Obligations.AlertInstantsAndOperatorCarry
  intro s k a ha
  have heligible (hrank : a.rank = 1) := finish_next.mpr
    ((State.makeEligible_rank1 ha hrank true).trans (congrArg some (State.enterEligible_rank1 hrank)))
  refine ⟨fun hrank hstate hfrom => ?valid, fun x hrank hdeferred hnext hx => ?next,
    fun origin number hp horigin hknown hrank hidle => ?carry, fun base c hentry hrank hdue hcarriage => ?deadline⟩
  case valid =>
    have hdue : s.validDue k = true := by simp [State.validDue, ha, hstate, hfrom]
    exact (if_pos hdue).trans (heligible hrank)
  case next =>
    have hdue : s.eligibleDue k = true := by simp [State.eligibleDue, ha, hdeferred, hnext, hx]
    exact (if_pos hdue).trans (heligible hrank)
  case carry =>
    have hcarry : carryNamed origin number s = accepted (some (s.putAlert k (some
        { a with operatorCarry := true, rank := 2 }))) (slotB k) := by
      simp [carryNamed, State.namedAlert_known horigin hknown ha, State.carryAlert, hrank,
        State.rankNotice_idle (s := s.putAlert k _) hidle]
    refine (request_owner (role := .presenter) hp rfl hcarry).trans ?_
    simp [slotB]
  case deadline =>
    have hinstant : s.deadlineDue k = true := by simp [State.deadlineDue, State.deadlineOf, ha, hentry, hrank, hdue]
    have hpassed : s.expireDeadline k = s.putSched k { s.sched? k with passed := true } := by
      rw [State.expireDeadline, State.passDeadline_unplaced (by rw [hentry]),
        State.offer_carrying (s := s.putSched k _) hcarriage]
    refine (if_pos hinstant).trans ?_
    rw [hpassed, hentry]

end Sys2Proof.Machine
end

section
/-! PROOFS. The alert port (O52): the bytes of a decoder frame as they come, up to the byte that shows a fault, and the
frames sent as their bytes. -/

namespace Sys2Proof.Machine

open Sys2Proof.Safety

/-! ### Bytes received (R127, R199) -/

theorem foldSteps_append {α : Type} (f : α → State → Option State) (l l' : List α) (s : State) :
    foldSteps f (l ++ l') s = (foldSteps f l s).bind (foldSteps f l') := by
  induction l generalizing s with
  | nil => rfl
  | cons a rest ih =>
    simp only [List.cons_append, foldSteps, Option.bind_assoc]
    exact congrArg _ (funext ih)

/-- The state in which a frame's bytes so far have arrived at the present moment. -/
def State.receiving (s : State) (bytes : List Byte) : State :=
  s.putAlertOpen (some { bytes, lastAt := s.clock.mono })

theorem OpenFrame.not_gapped (bytes : List Byte) (now : Nat) :
    ({ bytes, lastAt := now } : OpenFrame).gapped now = false := by simp [OpenFrame.gapped]

/-- A byte that arrives at once and leaves the frame going on is kept. -/
theorem State.alertByte_more {s : State} {bytes : List Byte} {b : Byte} (h : alertProgress (bytes ++ [b]) = .more) :
    (s.receiving bytes).alertByte b = some (s.receiving (bytes ++ [b])) := by
  simp [State.alertByte, State.receiving, State.putAlertOpen, OpenFrame.not_gapped, h]

/-- A byte that arrives at once and shows a fault ends the frame. -/
theorem State.alertByte_abandoned {s : State} {bytes : List Byte} {b : Byte}
    (h : alertProgress (bytes ++ [b]) = .abandoned) : (s.receiving bytes).alertByte b = some s.abandonAlert := by
  simp [State.alertByte, State.receiving, State.putAlertOpen, OpenFrame.not_gapped, State.abandonAlert, h]

/-- Bytes that leave the frame going on are kept. -/
theorem State.alertBytes_more (s : State) (l bytes : List Byte)
    (h : ∀ p, p <+: l → alertProgress (bytes ++ p) = .more) :
    foldSteps State.alertByte l (s.receiving bytes) = some (s.receiving (bytes ++ l)) := by
  induction l generalizing bytes with
  | nil => simp [foldSteps]
  | cons b rest ih =>
    have hb := h [b] (by simp)
    have hrest := ih (bytes ++ [b]) fun p hp => by
      rw [List.append_assoc]
      exact h (b :: p) (List.cons_prefix_cons.mpr ⟨rfl, hp⟩)
    rw [foldSteps, State.alertByte_more hb]
    simpa using hrest

/-- A frame that goes on up to its last byte, and is faulty with it, is abandoned there and counted (log entry 10). -/
theorem exec_frameAbandoned {s : State} (hopen : s.receiver.opened = none) {l : List Byte} {b : Byte}
    (hmore : ∀ p, p <+: l → alertProgress (0xA7#8 :: p) = .more)
    (hlast : alertProgress (0xA7#8 :: (l ++ [b])) = .abandoned) :
    exec (.alertFrameAbandoned (0xA7#8 :: (l ++ [b]))) s = .next s.abandonAlert := by
  have hstart : s.alertByte 0xA7#8 = some (s.receiving [0xA7#8]) := by
    simp [State.alertByte, hopen, State.alertStart, State.receiving]
  change finish (foldSteps State.alertByte (0xA7#8 :: (l ++ [b])) s) = _
  rw [foldSteps, hstart, Option.bind_some, foldSteps_append, s.alertBytes_more l [0xA7#8] hmore, Option.bind_some,
    foldSteps, State.alertByte_abandoned hlast]
  rfl

/-! ### What the bytes come to (R127) -/

theorem alertProgress_badKind {kind : Byte} (h : alertLength kind.toNat = none) (start : Byte) (rest : List Byte) :
    alertProgress (start :: kind :: rest) = .abandoned := by simp [alertProgress, h]

theorem alertProgress_kind {kind : Byte} {n : Nat} (h : alertLength kind.toNat = some n) (start : Byte) :
    alertProgress [start, kind] = .more := by simp [alertProgress, h]

theorem alertProgress_badLength {kind len : Byte} {n : Nat} (h : alertLength kind.toNat = some n) (hlen : len.toNat ≠ n)
    (start : Byte) (body : List Byte) : alertProgress (start :: kind :: len :: body) = .abandoned := by
  simp [alertProgress, h, hlen]

theorem alertProgress_short {kind len : Byte} {n : Nat} (h : alertLength kind.toNat = some n) (hlen : len.toNat = n)
    {body : List Byte} (hbody : body.length < n + 2) (start : Byte) :
    alertProgress (start :: kind :: len :: body) = .more := by simp [alertProgress, h, hlen, hbody]

theorem alertProgress_badCheck {kind len : Byte} {payload check : List Byte}
    (h : alertLength kind.toNat = some payload.length) (hlen : len.toNat = payload.length) (hc : check.length = 2)
    (hcheck : beNat check ≠ crc (kind :: len :: payload)) (start : Byte) :
    alertProgress (start :: kind :: len :: (payload ++ check)) = .abandoned := by
  simp [alertProgress, h, hlen, hc, hcheck]

/-- Two bytes are those of the number they hold. -/
theorem be_beNat_two (b c : Byte) : be 2 (beNat [b, c]) = [b, c] := by
  have hb := b.isLt
  have hc := c.isLt
  simp only [be, beNat, List.foldl_cons, List.foldl_nil, List.cons.injEq, and_true]
  constructor
  · apply BitVec.eq_of_toNat_eq; simp; omega
  · apply BitVec.eq_of_toNat_eq; simp; omega

/-! ### Frames sent (R199, R204) -/

/-- A frame that is not the PLAY of the carriage in progress leaves the schedule. -/
theorem State.alertSent_notPlay {s : State} {f : AlertFrame} {rest : List AlertFrame}
    (h : s.receiver.outgoing = f :: rest) (hf : ∀ c : Carriage, c.playedBy f = false) :
    s.alertSent = { s with receiver := { s.receiver with outgoing := rest, lastSent := f.bytes } } := by
  simp [State.alertSent, h, hf]

/-- The number of a receipt's result is its place in the receipt table (R128). -/
theorem ReceiptResult.code_place {x : ReceiptResult} {i : Nat}
    (h : [ReceiptResult.accepted, .ignored, .expired, .full, .duplicate, .staleRevision, .malformed, .cancelled,
      .unknown][i]? = some x) : x.code = i + 1 := by
  obtain ⟨hi, -⟩ := List.getElem?_eq_some_iff.mp h
  simp only [List.length_cons, List.length_nil] at hi
  interval_cases i <;> cases h <;> rfl

/-- Settles O52: the bytes of a frame are kept until the one that shows its fault. -/
theorem alertPortFramesAbandonedAndSent : Obligations.AlertPortFramesAbandonedAndSent := by
  unfold Obligations.AlertPortFramesAbandonedAndSent
  intro s
  refine ⟨fun b hopen hkind => ?kind, fun kind len n hopen hkind hlen => ?length,
    fun kind len payload check hopen hkind hlen hc hcheck => ?check, fun f hf hgap => ?gap,
    fun rest c hout hcar => ?play, fun rest o n r x i hout hx => ?receipt, fun rest hout => ?stop⟩
  case kind =>
    exact exec_frameAbandoned hopen (l := []) (fun p hp => by rw [List.prefix_nil.mp hp]; rfl)
      (alertProgress_badKind hkind _ _)
  case length =>
    refine exec_frameAbandoned hopen (l := [kind]) (fun p hp => ?_) (alertProgress_badLength hkind hlen _ _)
    obtain rfl | ⟨t, rfl, ht⟩ := List.prefix_cons_iff.mp hp
    · rfl
    · rw [List.prefix_nil.mp ht]
      exact alertProgress_kind hkind _
  case check =>
    obtain ⟨c, d, rfl⟩ := List.length_eq_two.mp hc
    have hsplit : kind :: len :: (payload ++ [c, d]) = (kind :: len :: (payload ++ [c])) ++ [d] := by simp
    rw [hsplit]
    refine exec_frameAbandoned hopen (fun p hp => ?_) ?_
    · obtain rfl | ⟨t, rfl, ht⟩ := List.prefix_cons_iff.mp hp
      · rfl
      · obtain rfl | ⟨u, rfl, hu⟩ := List.prefix_cons_iff.mp ht
        · exact alertProgress_kind hkind _
        · refine alertProgress_short hkind hlen ?_ _
          have hle := hu.length_le
          simp only [List.length_append, List.length_singleton] at hle
          omega
    · rw [← hsplit]
      exact alertProgress_badCheck hkind hlen rfl (fun heq => hcheck (by rw [← heq, be_beNat_two])) _
  case gap =>
    have hdue : s.alertGapDue = true := by simp [State.alertGapDue, hf, OpenFrame.gapped, hgap]
    exact if_pos hdue
  case play =>
    change Host.Outcome.next s.alertSent = _
    simp [State.alertSent, hout, hcar, Carriage.playedBy, AlertFrame.bytes, AlertFrame.kind, AlertFrame.payload,
      sentFrame, counted, frameBytes, be]
  case receipt =>
    change Host.Outcome.next s.alertSent = _
    rw [State.alertSent_notPlay hout fun _ => rfl]
    simp [AlertFrame.bytes, AlertFrame.kind, AlertFrame.payload, sentFrame, counted, frameBytes,
      ReceiptResult.code_place hx, be]
  case stop =>
    change Host.Outcome.next s.alertSent = _
    rw [State.alertSent_notPlay hout fun _ => rfl]
    rfl

end Sys2Proof.Machine
end

section
/-! PROOFS. The rules of the site-link unit that its proofs share: what a write of the parameter records and a filling
of the in-flight table leave of the part. -/

namespace Sys2Proof.Machine

open Sys2Proof.Safety

/-! ### Writes of the parameter records (R170) -/

/-- The parameter records alone are written. -/
def WritesParams (s t : State) : Prop := t = { s with site := { s.site with params := t.site.params } }

theorem WritesParams.refl (s : State) : WritesParams s s := rfl

theorem WritesParams.trans {s t u : State} (h : WritesParams s t) (k : WritesParams t u) : WritesParams s u :=
  Eq.trans k (congrArg (fun x : State => { x with site := { x.site with params := u.site.params } }) h)

theorem WritesParams.putParam (s : State) (p : Param) (r : ParamRec) : WritesParams s (s.putParam p r) := rfl

theorem WritesParams.newDesired (s : State) (p : Param) (v : Nat) : WritesParams s (s.newDesired p v) := by
  unfold State.newDesired
  dsimp only
  split <;> rfl

theorem WritesParams.desire (s : State) (p : Param) (v : Nat) : WritesParams s (s.desire p v) := by
  unfold State.desire
  split
  · exact .refl s
  · exact .newDesired s p v

theorem WritesParams.retestPower (s : State) : WritesParams s s.retestPower := by
  unfold State.retestPower
  split <;> rfl

theorem WritesParams.actOnReport (s : State) (p : Param) : WritesParams s (s.actOnReport p) := by
  unfold State.actOnReport
  dsimp only
  split
  · split <;> rfl
  · split <;> rfl
  · split <;> rfl
  · split <;> rfl
  all_goals rfl

theorem WritesParams.reportParam (s : State) (p : Param) (v : Option Nat) : WritesParams s (s.reportParam p v) := by
  have hacted : WritesParams s ((s.putConfirmed p v).actOnReport p) :=
    (WritesParams.putParam s p _).trans (.actOnReport _ p)
  unfold State.reportParam
  dsimp only
  split
  · exact hacted.trans (.retestPower _)
  · exact hacted

theorem WritesParams.writeReport (s : State) (r : SiteReport) : WritesParams s (s.writeReport r) :=
  ((WritesParams.reportParam s .txSelect _).trans (.reportParam _ .carrier _)).trans (.reportParam _ .siteAudio _)

theorem WritesParams.inFlight {s t : State} (h : WritesParams s t) : t.site.inFlight = s.site.inFlight := by
  unfold WritesParams at h
  rw [h]

theorem State.param_actOnReport_ne (s : State) {p q : Param} (h : q ≠ p) : (s.actOnReport p).param q = s.param q := by
  unfold State.actOnReport
  dsimp only
  split
  · split <;> simp [h]
  · split <;> simp [h]
  · split <;> simp [h]
  · split <;> simp [h]
  all_goals rfl

theorem State.param_retestPower_ne (s : State) {q : Param} (h : q ≠ .power) : s.retestPower.param q = s.param q := by
  unfold State.retestPower
  split <;> simp [h]

/-! ### What a filling of the in-flight table writes (R173) -/

/-- The in-flight table, the outgoing queue with its counter, the due poll and the parameter records alone are
written. -/
def WritesFlight (s t : State) : Prop :=
  t = { s with site := { s.site with
    params := t.site.params, inFlight := t.site.inFlight, outgoing := t.site.outgoing, sequence := t.site.sequence
    duePoll := t.site.duePoll } }

theorem WritesFlight.refl (s : State) : WritesFlight s s := rfl

theorem WritesFlight.trans {s t u : State} (h : WritesFlight s t) (k : WritesFlight t u) : WritesFlight s u :=
  Eq.trans k (congrArg (fun x : State => { x with site := { x.site with
    params := u.site.params, inFlight := u.site.inFlight, outgoing := u.site.outgoing, sequence := u.site.sequence
    duePoll := u.site.duePoll } }) h)

theorem WritesFlight.of_params {s t : State} (h : WritesParams s t) : WritesFlight s t :=
  Eq.trans h (congrArg (fun x : State => { s with site := { s.site with
    params := t.site.params, inFlight := x.site.inFlight, outgoing := x.site.outgoing, sequence := x.site.sequence
    duePoll := x.site.duePoll } }) h).symm

/-- Such a write leaves every block but the site-link unit. -/
theorem WritesFlight.site {s t : State} (h : WritesFlight s t) : t = { s with site := t.site } :=
  Eq.trans h (congrArg (fun x : State => { s with site := x.site }) h).symm

theorem WritesFlight.site_eq {s t : State} (h : WritesFlight s t) :
    t.site = { s.site with
      params := t.site.params, inFlight := t.site.inFlight, outgoing := t.site.outgoing, sequence := t.site.sequence
      duePoll := t.site.duePoll } := by
  unfold WritesFlight at h
  exact congrArg State.site h

theorem WritesFlight.events {s t : State} (h : WritesFlight s t) : t.events = s.events := by
  rw [h.site]

/-- A filling sends DIRTY records and leaves every other. -/
def SendsDirty (s t : State) : Prop :=
  ∀ q, t.param q = s.param q ∨ (s.param q).state = .dirty ∧ t.param q = { s.param q with state := .sent }

theorem SendsDirty.refl (s : State) : SendsDirty s s := fun _ => .inl rfl

theorem SendsDirty.trans {s t u : State} (h : SendsDirty s t) (k : SendsDirty t u) : SendsDirty s u := fun q => by
  obtain hq | ⟨hdirty, hsent⟩ := h q
  · rw [← hq]
    exact k q
  · refine .inr ⟨hdirty, ?_⟩
    obtain kq | ⟨kdirty, -⟩ := k q
    · rw [kq, hsent]
    · rw [hsent] at kdirty
      cases kdirty

theorem State.sendSet_sendsDirty {s : State} {p : Param} (h : s.firstDirty = some p) (v : Nat) :
    SendsDirty s (s.sendSet p v) := fun q => by
  have hdirty : (s.param p).state = .dirty := by
    have hfound := List.find?_some h
    simp only [Bool.and_eq_true, decide_eq_true_eq] at hfound
    exact hfound.1
  have hsent : (s.sendSet p v).param q = if q = p then { s.param p with state := .sent } else s.param q :=
    State.param_putParam _ p q _
  rw [hsent]
  split
  · rename_i hq
    subst hq
    exact .inr ⟨hdirty, rfl⟩
  · exact .inl rfl

theorem State.fillTableFrom_rule (fuel : Nat) (s : State) :
    WritesFlight s (State.fillTableFrom fuel s) ∧ SendsDirty s (State.fillTableFrom fuel s) := by
  induction fuel generalizing s with
  | zero => exact ⟨.refl s, .refl s⟩
  | succ fuel ih =>
    unfold State.fillTableFrom
    split
    · split
      · rename_i p hp
        split
        · rename_i v _
          obtain ⟨hwrites, hsends⟩ := ih (s.sendSet p v)
          have hone : WritesFlight s (s.sendSet p v) := rfl
          exact ⟨hone.trans hwrites, (State.sendSet_sendsDirty hp v).trans hsends⟩
        · exact ⟨.refl s, .refl s⟩
      · split
        · rename_i c _
          obtain ⟨hwrites, hsends⟩ := ih (s.sendPoll c)
          have hone : WritesFlight s (s.sendPoll c) := rfl
          exact ⟨hone.trans hwrites, SendsDirty.trans (fun _ => .inl rfl) hsends⟩
        · exact ⟨.refl s, .refl s⟩
    · exact ⟨.refl s, .refl s⟩

theorem State.fillTable_writes (s : State) : WritesFlight s s.fillTable := (State.fillTableFrom_rule 4 s).1

theorem State.fillTable_sendsDirty (s : State) : SendsDirty s s.fillTable := (State.fillTableFrom_rule 4 s).2

/-- A filling leaves a record that is not DIRTY. -/
theorem State.fillTable_param {s : State} {q : Param} (h : (s.param q).state ≠ .dirty) :
    s.fillTable.param q = s.param q :=
  (s.fillTable_sendsDirty q).resolve_right fun hq => h hq.1

/-- No frame is sent while the link is LOST (R173). -/
theorem State.fillTable_lost {s : State} (h : s.site.link = .lost) : s.fillTable = s := by
  simp [State.fillTable, State.fillTableFrom, h]

end Sys2Proof.Machine
end

section
/-! PROOFS. The limits of the in-flight table (O6): no command of the part puts a fifth frame in flight or a second SET
for one parameter. The site-link unit fills its table one free entry at a time, and the rest of the part reaches it by
writing desired values alone. As for the class table, the operations are taken in the order in which they call one
another: `FlightKept` says that one keeps the limits, `KeepsFlight` says so of one that may not come to rest,
`FlightAnswer` and `FlightNext` of owners and of commands. -/

namespace Sys2Proof.Machine

open Sys2Proof.Safety

/-! ### The in-flight table (R173) -/

/-- What keeps the limits of the in-flight table. -/
def FlightKept (s t : State) : Prop := flightInLimit s → flightInLimit t

theorem FlightKept.refl (s : State) : FlightKept s s := id

theorem FlightKept.trans {s t u : State} (h : FlightKept s t) (k : FlightKept t u) : FlightKept s u := k ∘ h

/-- The limits are on the table alone. -/
theorem FlightKept.of_inFlight {s t : State} (h : t.site.inFlight = s.site.inFlight) : FlightKept s t := fun hs => by
  rwa [flightInLimit, h]

theorem FlightKept.of_site {s t : State} (h : t.site = s.site) : FlightKept s t := .of_inFlight (by rw [h])

/-- Fewer entries keep the limits. -/
theorem FlightKept.of_sublist {s t : State} (h : t.site.inFlight.Sublist s.site.inFlight) : FlightKept s t :=
  fun ⟨hlen, hset⟩ => ⟨h.length_le.trans hlen, fun p => h.countP_le.trans (hset p)⟩

theorem isSetFor_congr {e f : InFlight} (h : f.target = e.target) (p : Param) : isSetFor p f = isSetFor p e := by
  rw [isSetFor, h]
  rfl

/-- Entries rewritten with their targets keep the limits. -/
theorem FlightKept.of_map {s t : State} {f : InFlight → InFlight} (h : t.site.inFlight = s.site.inFlight.map f)
    (hf : ∀ e, (f e).target = e.target) : FlightKept s t := fun ⟨hlen, hset⟩ => by
  refine ⟨by rwa [h, List.length_map], fun p => ?_⟩
  have hsame : isSetFor p ∘ f = isSetFor p := funext fun e => isSetFor_congr (hf e) p
  rw [h, List.countP_map, hsame]
  exact hset p

/-- One entry more keeps the limits where the table has a free entry and no SET of the entry's parameter. -/
theorem FlightKept.of_entry {s t : State} {e : InFlight} (h : t.site.inFlight = s.site.inFlight ++ [e])
    (hfree : s.site.inFlight.length < 4) (hone : ∀ p, isSetFor p e = true → s.site.inFlight.countP (isSetFor p) = 0) :
    FlightKept s t := fun ⟨_, hset⟩ => by
  refine ⟨by simpa [h] using hfree, fun p => ?_⟩
  rw [h, List.countP_append, List.countP_singleton]
  split
  · rename_i he
    rw [hone p he]
  · exact hset p

/-- The table holds no SET of the parameter of the record that is sent next. -/
theorem State.countP_firstDirty {s : State} {p : Param} (h : s.firstDirty = some p) :
    s.site.inFlight.countP (isSetFor p) = 0 := by
  have hsome := List.find?_some h
  simp only [State.setInFlight, Bool.and_eq_true, Bool.not_eq_true', List.any_eq_false] at hsome
  exact List.countP_eq_zero.mpr hsome.2

theorem FlightKept.fillTableFrom (fuel : Nat) (s : State) : FlightKept s (State.fillTableFrom fuel s) := by
  induction fuel generalizing s with
  | zero => exact .refl s
  | succ fuel ih =>
    unfold State.fillTableFrom
    split
    · rename_i hfree
      split
      · rename_i p hp
        split
        · rename_i v _
          have hsent : FlightKept s (s.sendSet p v) := .of_entry rfl hfree.1 fun q hq => by
            obtain rfl : p = q := of_decide_eq_true hq
            exact State.countP_firstDirty hp
          exact hsent.trans (ih _)
        · exact .refl s
      · split
        · rename_i c _
          have hsent : FlightKept s (s.sendPoll c) := .of_entry rfl hfree.1 fun q hq => by cases hq
          exact hsent.trans (ih _)
        · exact .refl s
    · exact .refl s

theorem FlightKept.fillTable (s : State) : FlightKept s s.fillTable := .fillTableFrom 4 s

/-! ### The site-link unit's operations (chapter 9) -/

@[simp] theorem State.putParam_inFlight (s : State) (p : Param) (r : ParamRec) :
    (s.putParam p r).site.inFlight = s.site.inFlight := rfl

@[simp] theorem State.newDesired_inFlight (s : State) (p : Param) (v : Nat) :
    (s.newDesired p v).site.inFlight = s.site.inFlight := (WritesParams.newDesired s p v).inFlight

@[simp] theorem State.desire_inFlight (s : State) (p : Param) (v : Nat) :
    (s.desire p v).site.inFlight = s.site.inFlight := (WritesParams.desire s p v).inFlight

@[simp] theorem State.retestPower_inFlight (s : State) : s.retestPower.site.inFlight = s.site.inFlight :=
  (WritesParams.retestPower s).inFlight

@[simp] theorem State.actOnReport_inFlight (s : State) (p : Param) :
    (s.actOnReport p).site.inFlight = s.site.inFlight := (WritesParams.actOnReport s p).inFlight

@[simp] theorem State.putConfirmed_inFlight (s : State) (p : Param) (v : Option Nat) :
    (s.putConfirmed p v).site.inFlight = s.site.inFlight := rfl

@[simp] theorem State.resend_inFlight (s : State) (p : Param) : (s.resend p).site.inFlight = s.site.inFlight := rfl

@[simp] theorem State.siteRefused_inFlight (s : State) (p : Param) (reason : SiteRefusal) :
    (s.siteRefused p reason).site.inFlight = s.site.inFlight := rfl

@[simp] theorem State.takeApplied_inFlight (s : State) (p : Param) (applied : Nat) (power : Option (Nat × Int)) :
    (s.takeApplied p applied power).site.inFlight = s.site.inFlight := by cases power <;> rfl

@[simp] theorem State.settleAck_inFlight (s : State) (p : Param) (sent applied : Nat) (power : Option (Nat × Int)) :
    (s.settleAck p sent applied power).site.inFlight = s.site.inFlight := by
  unfold State.settleAck
  split
  · rfl
  · split <;> rfl

@[simp] theorem State.startChangeover_inFlight (s : State) (applied : Nat) :
    (s.startChangeover applied).site.inFlight = s.site.inFlight := by
  unfold State.startChangeover
  dsimp only
  split
  · split <;> rfl
  · split <;> rfl

@[simp] theorem State.foldBack_inFlight (s : State) : s.foldBack.site.inFlight = s.site.inFlight := by
  unfold State.foldBack
  dsimp only
  split
  · split <;> simp
  · simp

@[simp] theorem State.foldCheck_inFlight (s : State) : s.foldCheck.site.inFlight = s.site.inFlight := by
  unfold State.foldCheck
  split
  · rfl
  · rfl
  · split <;> simp

@[simp] theorem State.reportParam_inFlight (s : State) (p : Param) (v : Option Nat) :
    (s.reportParam p v).site.inFlight = s.site.inFlight := (WritesParams.reportParam s p v).inFlight

@[simp] theorem State.writeReport_inFlight (s : State) (r : SiteReport) :
    (s.writeReport r).site.inFlight = s.site.inFlight := (WritesParams.writeReport s r).inFlight

@[simp] theorem State.handleState_inFlight (s : State) (active carrier audio fallback : Nat) :
    (s.handleState active carrier audio fallback).site.inFlight = s.site.inFlight := by
  unfold State.handleState
  dsimp only
  split
  · rw [State.writeReport_inFlight]
  · split
    · rw [State.writeReport_inFlight]
    · rw [State.reportParam_inFlight]

theorem State.retryUnconfirmed_inFlight (s : State) : s.retryUnconfirmed.site.inFlight = s.site.inFlight := by
  unfold State.retryUnconfirmed
  exact foldl_frame (fun t : State => t.site.inFlight) (by intro t p; split <;> rfl) _ _

@[simp] theorem State.clearedBy_inFlight (s : State) (p : Param) : (s.clearedBy p).site.inFlight = s.site.inFlight := by
  cases p <;> rfl

@[simp] theorem State.siteStart_inFlight (s : State) (b : Byte) : (s.siteStart b).site.inFlight = s.site.inFlight := by
  unfold State.siteStart
  split <;> rfl

@[simp] theorem State.closeSite_inFlight (s : State) : s.closeSite.site.inFlight = s.site.inFlight := by
  unfold State.closeSite
  split
  · rfl
  · split <;> rfl

theorem FlightKept.dropInFlight (s : State) (sequence : Nat) : FlightKept s (s.dropInFlight sequence) :=
  .of_sublist List.filter_sublist

theorem FlightKept.handleAck (s : State) (sequence param value : Nat) :
    FlightKept s (s.handleAck sequence param value) := by
  unfold State.handleAck
  split
  · exact .refl s
  · split
    · exact .refl s
    · split
      · exact (FlightKept.dropInFlight s sequence).trans (.of_inFlight (by dsimp only; split <;> simp))
      · exact .refl s

theorem FlightKept.handleNak (s : State) (sequence reason : Nat) : FlightKept s (s.handleNak sequence reason) := by
  unfold State.handleNak
  split
  · exact .refl s
  · split
    · exact .dropInFlight s sequence
    · exact (FlightKept.dropInFlight s sequence).trans (.of_inFlight (by dsimp only; split <;> simp))

theorem FlightKept.handleReading (s : State) (sequence channel code : Nat) :
    FlightKept s (s.handleReading sequence channel code) := by
  unfold State.handleReading
  split
  · exact .refl s
  · split
    · exact .refl s
    · split
      · refine (FlightKept.dropInFlight s sequence).trans (.of_inFlight ?_)
        dsimp only
        split <;> simp [State.putReading]
      · exact .refl s

theorem FlightKept.failChangeover (s : State) (c : Changeover) : FlightKept s (s.failChangeover c) := by
  unfold State.failChangeover
  exact FlightKept.trans (.of_inFlight (by simp)) (.fillTable _)

theorem FlightKept.siteSent (s : State) : FlightKept s s.siteSent := by
  unfold State.siteSent
  split
  · exact .refl s
  · exact .of_map rfl fun e => by split <;> rfl

theorem FlightKept.sendAgain (s : State) (e : InFlight) : FlightKept s (s.sendAgain e) :=
  .of_map rfl fun x => by split <;> rfl

theorem FlightKept.giveUp (s : State) (e : InFlight) : FlightKept s (s.giveUp e) := by
  refine (FlightKept.dropInFlight s e.sequence).trans (.of_inFlight ?_)
  unfold State.giveUp
  dsimp only
  split
  · rfl
  · split <;> rfl

theorem FlightKept.ackTimeout (s : State) (e : InFlight) : FlightKept s (s.ackTimeout e) := by
  unfold State.ackTimeout
  split
  · exact .sendAgain s e
  · exact (FlightKept.giveUp s e).trans (.fillTable _)

theorem FlightKept.retry (s : State) (p : Param) : FlightKept s (s.retry p) := by
  unfold State.retry
  split
  · exact .of_inFlight rfl
  · exact FlightKept.trans (.of_inFlight (s.putParam_inFlight p _)) (.fillTable _)

theorem FlightKept.nextPoll (s : State) : FlightKept s s.nextPoll := by
  unfold State.nextPoll
  refine FlightKept.trans (.of_inFlight ?_) (.fillTable _)
  rfl

theorem FlightKept.setCalibration (s : State) (reserve : Bool) (v : Int) :
    FlightKept s (s.setCalibration reserve v) := by
  have hkept (t : State) (ht : t.site.inFlight = s.site.inFlight) :
      FlightKept s (if t.activeCal = s.activeCal then t else t.retestPower).fillTable :=
    FlightKept.trans (.of_inFlight (by split <;> simp [ht])) (.fillTable _)
  cases reserve
  · exact hkept { s with site := { s.site with calMain := v } } rfl
  · exact hkept { s with site := { s.site with calReserve := v } } rfl

/-- A write by the bus or the scheduler. -/
theorem FlightKept.writeDesired (s : State) (p : Param) (v : Nat) : FlightKept s (s.writeDesired p v) := by
  unfold State.writeDesired
  split
  · exact .refl s
  · exact (FlightKept.of_inFlight (s.newDesired_inFlight p v)).trans (.fillTable _)

/-- A controller reset empties the table (R186). -/
theorem FlightKept.resetSite (s : State) : FlightKept s s.resetSite := .of_sublist (List.nil_sublist _)

/-! ### The bus, the scheduler and the resets -/

theorem FlightKept.putMonitor (s : State) (m : Monitor) : FlightKept s (s.putMonitor m) := .of_site rfl

theorem FlightKept.escalate (s : State) (m : Monitor) (escalation : Nat) : FlightKept s (s.escalate m escalation) := by
  unfold State.escalate
  dsimp only
  split
  · exact .putMonitor s _
  · exact (FlightKept.putMonitor s _).trans (FlightKept.writeDesired _ .siteAudio 1)

theorem FlightKept.recover (s : State) (m : Monitor) : FlightKept s (s.recover m) := by
  have hdropped (x : Monitor) : FlightKept s (s.putMonitor x).dropDeadAir :=
    (FlightKept.putMonitor s x).trans (.of_site (by simp))
  unfold State.recover
  dsimp only
  split
  · exact (hdropped _).trans (FlightKept.writeDesired _ .siteAudio 0)
  · exact hdropped _

/-- The monitor reaches the site link by SITE_AUDIO alone (R99 to R101). -/
theorem FlightKept.judgeWindow (s : State) (m : Monitor) (quiet : Bool) : FlightKept s (s.judgeWindow m quiet) := by
  unfold State.judgeWindow
  split
  · exact .putMonitor s _
  · exact .putMonitor s _
  · split
    · exact .of_site (by simp)
    · exact .putMonitor s _
  · exact .putMonitor s _
  · split
    · exact .putMonitor s _
    · split
      · exact .escalate s m _
      · exact .putMonitor s _
  · split
    · exact .recover s m
    · exact .putMonitor s _
  · exact .putMonitor s _
  · split
    · exact .recover s m
    · exact .putMonitor s _

/-- The scheduler reaches the site link by ALERT_FLAG alone (R158). -/
theorem FlightKept.startCarriage (s : State) (k : Fin 8) (way : Way) : FlightKept s (s.startCarriage k way) := by
  cases ha : s.alert? k with
  | none => exact .of_site (by simp [State.startCarriage, ha])
  | some a =>
    rw [State.startCarriage_eq ha]
    have hbegun : FlightKept s (s.beginCarriage k a way) := .of_site rfl
    have hflag := FlightKept.writeDesired (s.beginCarriage k a way) .alertFlag 1
    exact (hbegun.trans hflag).trans (.of_site (by simp))

theorem FlightKept.offer (s : State) : FlightKept s s.offer := by
  unfold State.offer
  split
  · exact .refl s
  · split
    · exact .refl s
    · exact FlightKept.trans (.of_site (by split <;> simp)) (.startCarriage _ _ _)

theorem FlightKept.expireDeadline (s : State) (k : Fin 8) : FlightKept s (s.expireDeadline k) :=
  FlightKept.trans (.of_site (by simp)) (.offer (s.passDeadline k))

theorem FlightKept.expireMoved (c : Nat) (s : State) : FlightKept s (State.expireMoved c s) :=
  foldl_keeps (P := FlightKept s) (fun k t ht => by
    split
    · exact ht.trans (.expireDeadline t k)
    · exact ht) (.refl s)

theorem FlightKept.resetBlocks (s : State) : FlightKept s s.resetBlocks := by
  have hbefore : FlightKept s
      s.clearOccurrences.resetInterp.resetAir.resetTimer.resetBus.resetLines.resetReceiver.resetSched :=
    .of_site (by simp)
  unfold State.resetBlocks
  exact (hbefore.trans (.resetSite _)).trans
    ((FlightKept.of_inFlight (State.newDesired_inFlight _ .alertFlag 0)).trans (.fillTable _))

/-! ### Operations that may not come to rest -/

/-- Where an operation from a state comes to rest, the limits are kept. -/
def KeepsFlight (s : State) (r : Option State) : Prop := ∀ t, r = some t → FlightKept s t

section

variable {s s' : State} {a b r : Option State}

theorem KeepsFlight.of_kept {t : State} (h : FlightKept s t) : KeepsFlight s (some t) := fun _ ht =>
  Option.some.inj ht ▸ h

theorem KeepsFlight.of_some {t : State} (h : t.site = s.site) : KeepsFlight s (some t) := .of_kept (.of_site h)

theorem KeepsFlight.same : KeepsFlight s (some s) := .of_some rfl

theorem KeepsFlight.of_none : KeepsFlight s none := fun _ ht => by cases ht

theorem KeepsFlight.after_kept (h : KeepsFlight s' r) (hs : FlightKept s s') : KeepsFlight s r := fun t ht =>
  hs.trans (h t ht)

theorem KeepsFlight.after (h : KeepsFlight s' r) (hs : s'.site = s.site) : KeepsFlight s r := h.after_kept (.of_site hs)

theorem KeepsFlight.ite {c : Prop} [Decidable c] (ha : KeepsFlight s a) (hb : KeepsFlight s b) :
    KeepsFlight s (if c then a else b) := by split <;> assumption

theorem KeepsFlight.bind (h : KeepsFlight s r) {f : State → Option State} (hf : ∀ u, KeepsFlight u (f u)) :
    KeepsFlight s (r.bind f) := fun t ht => by
  obtain ⟨u, hu, hfu⟩ := Option.bind_eq_some_iff.mp ht
  exact (h u hu).trans (hf u t hfu)

theorem KeepsFlight.map_kept (h : KeepsFlight s r) {f : State → State} (hf : ∀ u, FlightKept u (f u)) :
    KeepsFlight s (r.map f) := fun t ht => by
  obtain ⟨u, hu, rfl⟩ := Option.map_eq_some_iff.mp ht
  exact (h u hu).trans (hf u)

theorem KeepsFlight.map (h : KeepsFlight s r) {f : State → State} (hf : ∀ u, (f u).site = u.site) :
    KeepsFlight s (r.map f) := h.map_kept fun u => .of_site (hf u)

theorem KeepsFlight.foldSteps {α : Type} {f : α → State → Option State} (hf : ∀ a u, KeepsFlight u (f a u)) (s : State)
    (l : List α) : KeepsFlight s (foldSteps f l s) := fun _ ht =>
  foldSteps_keeps (P := FlightKept s) (fun a u v hu hv => hu.trans (hf a u v hv)) (.refl s) ht

end

/-! ### The sequencer (chapter 3) -/

theorem State.startItem_site (s : State) (r : Resolved) (b : Body) : (s.startItem r b).1.site = s.site := by
  cases b with
  | audio kind cart segue item =>
    simp only [State.startItem]
    split
    · simp
    · split <;> simp
  | _ => simp [State.startItem]

theorem State.goGiven_site {s t : State} {m : TakeMode} {b : Body} (h : s.goGiven m b = some t) :
    t.site = s.site := by
  unfold State.goGiven at h
  split at h
  · cases h; rfl
  · split at h
    · cases h; rfl
    · cases h; rfl
    all_goals
      split at h
      · cases h; rfl
      · cases h

theorem keepsFlight_takeLoop (fuel : Nat) (m : TakeMode) (s : State) : KeepsFlight s (takeLoop fuel m s) := by
  induction fuel generalizing m s with
  | zero => exact .of_none
  | succ fuel ih =>
    unfold takeLoop
    split
    · exact .of_some (by simp)
    · rename_i r _
      dsimp only
      split
      · exact (ih m _).after (by simp)
      · split
        · exact .of_some (by simp)
        · split
          · exact .of_some (by simp)
          · exact (ih m _).after (by simp)
        · split
          · refine .of_kept (FlightKept.trans (.of_site ?_) (.startCarriage _ _ .break))
            simp
          · exact (ih m _).after (by simp)
        · rename_i b _
          refine .ite ((ih m _).after (by simp)) (.ite (.of_some (by simp)) (.ite (.of_some (by simp)) ?_))
          split
          · exact .of_some (by simp)
          · rename_i t hgo
            have hstarted : (t.startItem r b).1.site = s.site :=
              (t.startItem_site r b).trans (State.goGiven_site hgo)
            exact .ite (.of_some (by simp [hstarted])) ((ih _ _).after (by simp [hstarted]))

theorem keepsFlight_takeHead (s : State) (m : TakeMode) : KeepsFlight s (s.takeHead m) :=
  keepsFlight_takeLoop takeFuel m s

theorem keepsFlight_startHead (s : State) : KeepsFlight s s.startHead := by
  unfold State.startHead
  split
  · rename_i r _
    split
    · rename_i b _
      have hstarted := s.startItem_site r b
      generalize s.startItem r b = u at hstarted
      exact .ite (.of_some (by simp [hstarted])) ((keepsFlight_takeHead _ _).after (by simp [hstarted]))
    all_goals exact keepsFlight_takeHead s _
  · exact keepsFlight_takeHead s _

theorem keepsFlight_takeFromGo (s : State) : KeepsFlight s s.takeFromGo := by
  unfold State.takeFromGo
  split
  · split
    · split
      · rename_i t hgo
        exact (keepsFlight_startHead _).after (by simp [State.goGiven_site hgo])
      · exact .of_some (by simp)
    all_goals exact keepsFlight_takeHead s _
  · exact keepsFlight_takeHead s _

theorem keepsFlight_endOnAir (s : State) (e : Ending) : KeepsFlight s (s.endOnAir e) := by
  unfold State.endOnAir
  split
  · exact .same
  · exact (keepsFlight_takeHead _ _).after (by simp)

theorem keepsFlight_settleHead (before s : State) : KeepsFlight s (settleHead before s) := by
  unfold settleHead
  exact .ite (.ite .same ((keepsFlight_takeHead _ _).after (by simp))) .same

theorem keepsFlight_testLastCaller (s : State) : KeepsFlight s s.testLastCaller := by
  unfold State.testLastCaller
  split
  · unfold State.reportLastCaller
    split
    · exact .same
    · split
      · exact .ite (keepsFlight_endOnAir s _) .same
      · exact .same
  · exact .same

theorem keepsFlight_postCut (s : State) (w : Watch) : KeepsFlight s (s.postCut w) :=
  ((keepsFlight_startHead _).after (by simp)).map fun t => by simp

theorem keepsFlight_endOutgoing (s : State) : KeepsFlight s s.endOutgoing := by
  unfold State.endOutgoing
  split
  · exact .same
  · exact (keepsFlight_settleHead s _).after (by simp)

/-! ### Carriages (chapter 8) -/

theorem keepsFlight_placeRequest (s : State) (k : Fin 8) : KeepsFlight s (s.placeRequest k) := by
  unfold State.placeRequest
  split
  · exact .same
  · exact (keepsFlight_settleHead s _).after (by simp)

theorem keepsFlight_actByWay (s : State) (k : Fin 8) (mayOffer : Bool) : KeepsFlight s (s.actByWay k mayOffer) := by
  have hdue : (if s.deadlineDue k then s.passDeadline k else s).site = s.site := by split <;> simp
  unfold State.actByWay
  dsimp only
  split
  · cases mayOffer with
    | true => exact .of_kept ((FlightKept.of_site hdue).trans (.offer _))
    | false => exact .of_some hdue
  · exact (keepsFlight_placeRequest _ k).after hdue
  · exact .of_some hdue
  · exact .of_some hdue

theorem keepsFlight_makeEligible (s : State) (k : Fin 8) (mayOffer : Bool) :
    KeepsFlight s (s.makeEligible k mayOffer) := by
  unfold State.makeEligible
  split
  · exact .same
  · exact (keepsFlight_actByWay _ k mayOffer).after (by simp)

theorem keepsFlight_linkUp (s : State) : KeepsFlight s s.linkUp :=
  .foldSteps (fun k u => .ite (keepsFlight_makeEligible u k true) .same) s allSlots

theorem keepsFlight_rankNotice (s : State) (k : Fin 8) : KeepsFlight s (s.rankNotice k) := by
  unfold State.rankNotice
  split
  · exact .same
  · exact .ite .same (.ite ((keepsFlight_actByWay _ k true).after (by simp)) .same)

theorem keepsFlight_rerank (s : State) (k : Fin 8) : KeepsFlight s (s.rerank k) := by
  unfold State.rerank
  split
  · exact .same
  · exact .ite .same ((keepsFlight_rankNotice _ k).after (by simp))

theorem keepsFlight_giveBack (s : State) (p : Preemption) : KeepsFlight s (s.giveBack p) := by
  unfold State.giveBack
  split
  · exact .of_some (by simp)
  · split
    · exact .of_some (by simp)
    · exact .of_some (by simp)
    all_goals exact keepsFlight_takeHead s _

theorem keepsFlight_restoreByCut (s : State) (p : Preemption) (w : Watch) : KeepsFlight s (s.restoreByCut p w) := by
  unfold State.restoreByCut
  refine (keepsFlight_postCut _ w).after ?_
  split <;> simp

theorem keepsFlight_restoreAir (s : State) : KeepsFlight s s.restoreAir := by
  unfold State.restoreAir
  split
  · exact .same
  · rename_i p _
    refine KeepsFlight.map (.after (s' := { s with air := { s.air with preemption := none } }) ?_ (by simp))
      fun t => by simp
    split
    · exact .ite (keepsFlight_restoreByCut _ p _) ((keepsFlight_giveBack _ p).after (by simp))
    · exact keepsFlight_giveBack _ p

theorem keepsFlight_eligibleAgain (s : State) (k : Fin 8) (a : Alert) : KeepsFlight s (s.eligibleAgain k a) :=
  .ite (.of_some (by simp)) ((keepsFlight_makeEligible _ k false).after (by simp))

theorem keepsFlight_judge (s : State) (c : Carriage) (reason : EndReason) : KeepsFlight s (s.judge c reason) := by
  unfold State.judge
  split
  · exact .same
  · refine .ite (keepsFlight_eligibleAgain s _ _) ?_
    dsimp only
    split
    · exact .ite (.ite (keepsFlight_eligibleAgain s _ _) (.of_some (by simp)))
        (.ite (.of_some (by simp)) (.of_some (by simp)))
    · exact .ite (.of_some (by simp)) (.of_some (by simp))
    · exact .ite (.of_some (by simp)) (.of_some (by simp))
    · exact .same

theorem keepsFlight_breakEnd (s : State) : KeepsFlight s s.breakEnd := by
  unfold State.breakEnd
  split
  · exact .same
  · split
    · exact keepsFlight_endOnAir s _
    · refine .after (s' := s.endRecord .complete) ?_ (by simp)
      dsimp only
      split
      · exact .ite (keepsFlight_postCut _ _) ((keepsFlight_takeHead _ _).after (by simp))
      · exact keepsFlight_takeHead _ _

theorem keepsFlight_afterRun (s : State) : KeepsFlight s s.afterRun := by
  have hrestore : KeepsFlight s s.giveRestore := .ite ((keepsFlight_testLastCaller _).after (by simp)) .same
  refine .ite .same (hrestore.map_kept fun t => ?_)
  split
  · exact .refl t
  · exact .writeDesired t .alertFlag 0

theorem keepsFlight_followCarriage (s : State) (way : Way) : KeepsFlight s (s.followCarriage way) := by
  unfold State.followCarriage
  refine .ite (.bind ?_ keepsFlight_afterRun) (.of_kept (.offer s))
  split
  · exact keepsFlight_restoreAir s
  · exact keepsFlight_breakEnd s
  · exact keepsFlight_breakEnd s

theorem keepsFlight_endCarriage (s : State) (reason : EndReason) : KeepsFlight s (s.endCarriage reason) := by
  unfold State.endCarriage
  split
  · exact .same
  · rename_i c _
    refine .bind ?_ fun t => (keepsFlight_followCarriage _ c.way).after (by simp)
    have hclosed (n : Option CarriageNote) : { s.stopSent reason with
        sched := { (s.stopSent reason).sched with lastNote := n, carriage := none } }.site = s.site := by
      unfold State.stopSent
      split <;> rfl
    exact .ite (.of_some (hclosed _)) ((keepsFlight_judge _ c reason).after (hclosed _))

theorem keepsFlight_retire (s : State) (k : Fin 8) (reason : Retirement) : KeepsFlight s (s.retire k reason) := by
  unfold State.retire
  split
  · exact .same
  · exact .map (.ite (keepsFlight_endCarriage s _) (.of_some (by simp))) fun t => by simp

/-! ### The alert receiver (chapter 7) -/

theorem keepsFlight_storeAlert (s : State) (k : Fin 8) (f : IssueFrame) : KeepsFlight s (s.storeAlert k f) :=
  .ite ((keepsFlight_makeEligible _ k true).after (by simp)) (.of_some (by simp))

theorem keepsFlight_newAlert (s : State) (f : IssueFrame) : KeepsFlight s (s.newAlert f) := by
  unfold State.newAlert
  refine .ite (.of_some (by simp)) (.ite (.of_some (by simp)) ?_)
  split
  · exact keepsFlight_storeAlert s _ f
  · split
    · exact (keepsFlight_retire s _ _).bind fun t => keepsFlight_storeAlert t _ f
    · exact .of_some (by simp)

theorem keepsFlight_revise (s : State) (k : Fin 8) (a : Alert) (f : IssueFrame) : KeepsFlight s (s.revise k a f) :=
  .ite (.of_some (by simp)) (.ite ((keepsFlight_makeEligible _ k true).after (by simp)) (.of_some (by simp)))

theorem keepsFlight_knownAlert (s : State) (k : Fin 8) (a : Alert) (f : IssueFrame) :
    KeepsFlight s (s.knownAlert k a f) :=
  .ite (.of_some (by simp)) (.ite (.of_some (by simp))
    (.ite ((keepsFlight_retire s k _).map fun t => by simp) (keepsFlight_revise s k a f)))

theorem keepsFlight_takeIssue (s : State) (f : IssueFrame) : KeepsFlight s (s.takeIssue f) := by
  unfold State.takeIssue
  refine .ite (.of_some (by simp)) ?_
  split
  · exact keepsFlight_newAlert s f
  · split
    · exact keepsFlight_knownAlert s _ _ f
    · exact keepsFlight_newAlert s f

theorem keepsFlight_takeCancel (s : State) (origin number : Nat) : KeepsFlight s (s.takeCancel origin number) := by
  unfold State.takeCancel
  refine .ite (.of_some (by simp)) ?_
  split
  · exact .of_some (by simp)
  · split
    · exact (keepsFlight_retire s _ _).map fun t => by simp
    · exact .of_some (by simp)

theorem keepsFlight_takeAudio (s : State) (reason : EndReason) : KeepsFlight s (s.takeAudio reason) := by
  unfold State.takeAudio
  split
  · exact .ite (keepsFlight_endCarriage s reason) .same
  · exact .same

theorem keepsFlight_alertByte (b : Byte) (s : State) : KeepsFlight s (s.alertByte b) := by
  unfold State.alertByte
  split
  · exact .of_some (by simp)
  · refine .ite (.of_some (by simp)) ?_
    split
    · exact .of_some (by simp)
    · exact .of_some (by simp)
    · refine .after (s' := s.putAlertOpen none) ?_ (by simp)
      unfold State.takeAlertFrame
      split
      · exact keepsFlight_takeIssue _ _
      · exact keepsFlight_takeCancel _ _ _
      · exact keepsFlight_takeAudio _ _
      · exact keepsFlight_takeAudio _ _
      · exact .same
    · exact .of_some (by simp)

theorem keepsFlight_writeClass (s : State) (c : Nat) (e : ClassEntry) : KeepsFlight s (s.writeClass c e) := by
  have hranked : KeepsFlight s
      (if (s.classEntry c).action = e.action then some (s.putClass c e) else (s.putClass c e).rerankClass c) :=
    .ite (.of_some (by simp))
      ((KeepsFlight.foldSteps (fun k u => .ite (keepsFlight_rerank u k) .same) _ allSlots).after (by simp))
  unfold State.writeClass
  exact .ite .same (.ite hranked (hranked.map_kept (FlightKept.expireMoved c)))

/-! ### The site link (chapter 9) -/

theorem keepsFlight_validFrame (s : State) {handle : State → State} (hh : ∀ t, FlightKept t (handle t)) :
    KeepsFlight s (s.validFrame handle) := by
  have hhandled (x : Site) (hx : x.inFlight = s.site.inFlight) : FlightKept s (handle { s with site := x }) :=
    FlightKept.trans (t := { s with site := x }) (.of_inFlight hx) (hh _)
  unfold State.validFrame
  refine KeepsFlight.map_kept ?_ FlightKept.fillTable
  dsimp only
  split
  · exact .of_kept (hhandled _ rfl)
  · exact (keepsFlight_linkUp _).after_kept (hhandled _ rfl)
  · refine (keepsFlight_linkUp _).after_kept (FlightKept.trans ?_ (.of_inFlight (State.retryUnconfirmed_inFlight _)))
    exact hhandled _ rfl

theorem keepsFlight_siteByte (b : Byte) (s : State) : KeepsFlight s (s.siteByte b) := by
  unfold State.siteByte
  split
  · exact .of_kept (.of_inFlight (by simp))
  · refine .ite (.of_kept (.of_inFlight ((State.siteStart_inFlight _ b).trans rfl))) ?_
    split
    · exact .of_kept (.of_inFlight rfl)
    · exact .of_kept (.of_inFlight rfl)
    · refine .after_kept (s' := s.putSiteOpen none) ?_ (.of_inFlight rfl)
      unfold State.takeSiteFrame
      split
      · exact keepsFlight_validFrame _ fun t => .handleAck t _ _ _
      · exact keepsFlight_validFrame _ fun t => .handleNak t _ _
      · exact keepsFlight_validFrame _ fun t => .handleReading t _ _ _
      · exact keepsFlight_validFrame _ fun t => .of_inFlight (t.handleState_inFlight _ _ _ _)
      · exact .same
    · exact .of_kept (.of_inFlight rfl)

/-! ### The post watch, the clock and the controller reset -/

theorem keepsFlight_takeCut (s : State) (w : Watch) : KeepsFlight s (s.takeCut w) := by
  have hput (x : PostWatch) : KeepsFlight s (some (s.putWatch x)) := .of_some (by simp)
  unfold State.takeCut
  split
  · exact .ite (hput _) (.ite (keepsFlight_postCut s w) (hput _))
  · exact .ite (keepsFlight_postCut s w) (hput _)
  · exact .ite (keepsFlight_postCut s w) (hput _)
  all_goals exact hput _

theorem keepsFlight_takePost (s : State) : KeepsFlight s s.takePost := (keepsFlight_takeFromGo _).after (by simp)

theorem keepsFlight_watchClock (s : State) : KeepsFlight s s.watchClock := by
  unfold State.watchClock
  split
  · exact .same
  · exact .ite (keepsFlight_takeCut s _) (.ite (keepsFlight_takePost s) .same)

theorem keepsFlight_alertClock (k : Fin 8) (s : State) : KeepsFlight s (s.alertClock k) := by
  unfold State.alertClock
  split
  · exact .same
  · exact .ite (keepsFlight_retire s k _) (.ite (keepsFlight_makeEligible s k true) .same)

theorem keepsFlight_setClock (s : State) (time : Nat) : KeepsFlight s (s.setClock time) := by
  have hwatch : KeepsFlight s
      (State.watchClock { s with clock := { s.clock with station := time, unset := false } }) :=
    (keepsFlight_watchClock _).after rfl
  have hcomputed := hwatch.map (f := State.compute) fun t => by simp
  have halerts := hcomputed.bind fun t => .foldSteps keepsFlight_alertClock t allSlots
  exact halerts.bind fun t => .foldSteps (fun k u => .ite (keepsFlight_makeEligible u k true) .same) t allSlots

theorem keepsFlight_resumeAlert (s : State) (was : Option (Fin 8)) (passed : Bool) :
    KeepsFlight s (s.resumeAlert was passed) := by
  unfold State.resumeAlert
  split
  · exact .same
  · split
    · exact .same
    · exact .ite ((keepsFlight_actByWay _ _ false).after (by simp)) .same

theorem keepsFlight_controllerReset (s : State) : KeepsFlight s s.controllerReset := by
  have hrebuilt : FlightKept s s.resetBlocks.rebuild := (FlightKept.resetBlocks s).trans (.of_site (by simp))
  have hplaced := ((keepsFlight_resumeAlert _ s.onAirSlot s.carriedPassed).after_kept hrebuilt).bind fun t =>
    .foldSteps (f := State.placeAgain) (fun k u => .ite (keepsFlight_placeRequest u k) .same) t allSlots
  exact hplaced.map_kept FlightKept.offer

/-! ### Commands and owners -/

/-- An owner's answer keeps the limits. -/
def FlightAnswer (s : State) (r : Option (State × Reply)) : Prop := ∀ t y, r = some (t, y) → FlightKept s t

/-- A command that has a next state keeps the limits. -/
def FlightNext (s : State) (r : Result) : Prop := ∀ t, r = .next t → FlightKept s t

section

variable {s : State}

theorem FlightAnswer.accepted {r : Option State} (h : KeepsFlight s r) (f : State → List Byte) :
    FlightAnswer s (accepted r f) := fun t _ ht => h t (accepted_some ht).1

/-- An owner that leaves the site-link unit. -/
theorem FlightAnswer.put {t : State} (h : t.site = s.site) (f : State → List Byte) :
    FlightAnswer s (Machine.accepted (some t) f) := .accepted (.of_some h) f

theorem FlightAnswer.refused (st : Status) : FlightAnswer s (refused s st) := fun t _ ht => by cases ht; exact .refl s

theorem FlightAnswer.ite {c : Prop} [Decidable c] {a b : Option (State × Reply)} (ha : FlightAnswer s a)
    (hb : FlightAnswer s b) : FlightAnswer s (if c then a else b) := by split <;> assumption

theorem FlightAnswer.onLine {f : Fin 6 → Option (State × Reply)} (hf : ∀ l, FlightAnswer s (f l)) (line : Nat) :
    FlightAnswer s (onLine line s f) := by
  unfold Machine.onLine
  split
  · exact .refused _
  · exact hf _

theorem FlightNext.of_kept {t : State} (h : FlightKept s t) : FlightNext s (.next t) := fun _ ht => by
  cases ht; exact h

theorem FlightNext.of_next {t : State} (h : t.site = s.site) : FlightNext s (.next t) := .of_kept (.of_site h)

theorem FlightNext.same : FlightNext s (.next s) := .of_next rfl

theorem FlightNext.finish {r : Option State} (h : KeepsFlight s r) : FlightNext s (finish r) := fun t ht =>
  h t (finish_next.mp ht)

theorem FlightNext.ite {c : Prop} [Decidable c] {a b : Result} (ha : FlightNext s a) (hb : FlightNext s b) :
    FlightNext s (if c then a else b) := by split <;> assumption

/-- Every answer but the owner's leaves the site-link unit (R188, R189). -/
theorem FlightNext.request {owner : State → Option (State × Reply)} (ho : FlightAnswer s (owner s)) (code : Nat)
    (role : Role) (permitted : List Role) : FlightNext s (request code role permitted s owner) := fun t ht => by
  obtain ⟨-, rfl⟩ | ⟨-, -, rfl⟩ | ⟨-, -, u, r, hu, rfl⟩ := request_cases ht
  · exact .of_site rfl
  · exact .of_site rfl
  · exact (ho u r hu).trans (.of_site rfl)

theorem FlightNext.readRequest (owner : State → Reply) (code : Nat) (role : Role) (permitted : List Role) :
    FlightNext s (readRequest code role permitted s owner) :=
  .request (fun t y ht => by cases ht; exact .refl s) code role permitted

end

/-! ### The owners of the running-order, air and bus requests (chapters 1 to 3 and 5) -/

theorem keepsFlight_edited (s : State) (st : Store) (n : Notice) : KeepsFlight s (s.edited st n) :=
  (keepsFlight_settleHead s _).after (by simp)

theorem flightAnswer_insertEntry (s : State) (anchor : Nat) (e : RawEntry) :
    FlightAnswer s (insertEntry anchor e s) := by
  unfold insertEntry
  split
  · refine .ite (.refused _) (.ite (.refused _) (.ite (.refused _) ?_))
    split
    · exact .refused _
    · exact .accepted (keepsFlight_edited s _ _) _
  · exact .refused _

theorem flightAnswer_changeEntry (s : State) (n : Nat) (e : RawEntry) : FlightAnswer s (changeEntry n e s) := by
  unfold changeEntry
  split
  · exact .refused _
  · split
    · exact .refused _
    · exact .refused _
    · exact .ite (.refused _) (.ite (.refused _) (.accepted (keepsFlight_edited s _ _) _))

theorem flightAnswer_moveEntry (s : State) (n list anchor : Nat) : FlightAnswer s (moveEntry n list anchor s) := by
  have hlive (e : Entry) (l : ListId) : FlightAnswer s (moveLive n e l anchor s) :=
    .ite (.put rfl _) (.accepted (keepsFlight_edited s _ _) _)
  unfold moveEntry
  split
  · exact .refused _
  · refine .ite (.refused _) ?_
    split
    · exact .refused _
    · exact .refused _
    · exact .ite (.refused _) (.ite (.refused _) (.ite (.refused _) (hlive _ _)))

theorem flightAnswer_deleteEntry (s : State) (n : Nat) : FlightAnswer s (deleteEntry n s) := by
  unfold deleteEntry
  split
  · exact .refused _
  · exact .refused _
  · exact .ite (.refused _) (.accepted (keepsFlight_edited s _ _) _)

theorem flightAnswer_clearBreak (s : State) (b : Nat) : FlightAnswer s (clearBreak b s) := by
  unfold clearBreak
  split
  · exact .refused _
  · exact .ite (.refused _) (.ite (.put rfl _) (.accepted (keepsFlight_edited s _ _) _))

theorem flightAnswer_setMode (s : State) (mode : Nat) : FlightAnswer s (setMode mode s) := by
  unfold setMode
  split
  · exact .refused _
  · exact .put (by rfl) _

theorem FlightKept.takeGo {s t : State} {acted : Bool} (ht : s.takeGo = some (t, acted)) : FlightKept s t := by
  have hstart {u : State} (hu : u.site = s.site) (hs : u.startHead.map (·, true) = some (t, acted)) :
      FlightKept s t := by
    obtain ⟨v, hv, heq⟩ := Option.map_eq_some_iff.mp hs
    obtain ⟨rfl, -⟩ := Prod.mk.inj heq
    exact (FlightKept.of_site hu).trans (keepsFlight_startHead u v hv)
  unfold State.takeGo at ht
  split at ht
  · split at ht
    · cases ht; exact .of_site rfl
    · exact hstart rfl ht
  · exact hstart (by simp) ht
  · cases ht; exact .of_site rfl
  all_goals cases ht; exact .of_site rfl

theorem flightAnswer_giveGo (s : State) : FlightAnswer s (giveGo s) := fun t y ht => by
  obtain ⟨⟨u, acted⟩, hu, heq⟩ := Option.map_eq_some_iff.mp ht
  cases heq
  exact FlightKept.takeGo hu

theorem flightAnswer_endAirSegment (s : State) : FlightAnswer s (endAirSegment s) :=
  .ite (.accepted (keepsFlight_endOnAir s _) _) (.refused _)

theorem flightAnswer_holdAir (s : State) : FlightAnswer s (holdAir s) := by
  unfold holdAir
  split
  · exact .put (by simp) _
  · exact .put (by simp) _
  · exact .put (by simp) _
  · exact .put (by simp) _
  · exact .put rfl _
  · exact .refused _

theorem flightAnswer_resumeAir (s : State) : FlightAnswer s (resumeAir s) := by
  unfold resumeAir
  split
  · exact .put (by simp) _
  · exact .accepted (keepsFlight_takeHead s _) _
  all_goals exact .refused _

theorem flightAnswer_stepAir (s : State) : FlightAnswer s (stepAir s) := by
  unfold stepAir
  split
  · exact .accepted ((keepsFlight_takeHead _ _).after (by simp)) _
  all_goals exact .refused _

theorem flightAnswer_setHoldAtPoint (s : State) (value : Nat) : FlightAnswer s (setHoldAtPoint value s) := by
  unfold setHoldAtPoint
  split
  · exact .refused _
  · exact .put (by rfl) _

theorem flightAnswer_stopAir (s : State) : FlightAnswer s (stopAir s) :=
  .ite (.refused _) (.ite (.put rfl _) (.put (by simp) _))

theorem flightAnswer_startAir (s : State) : FlightAnswer s (startAir s) :=
  .ite (.refused _) (.ite (.refused _) (.ite (.accepted (keepsFlight_takeHead s _) _) (.refused _)))

theorem flightAnswer_cueAirTo (s : State) (n : Nat) : FlightAnswer s (cueAirTo n s) := by
  unfold cueAirTo
  split
  · exact .refused _
  · exact .refused _
  all_goals
    split
    · exact .refused _
    · exact .refused _
    · exact .accepted ((keepsFlight_settleHead s _).after (by simp)) _

theorem flightAnswer_cuePlayer (s : State) (player cart length : Nat) :
    FlightAnswer s (cuePlayer player cart length s) := by
  unfold cuePlayer
  split
  · exact .refused _
  · exact .ite (.refused _) (.ite (.refused _) (.put (by simp) _))

theorem flightAnswer_clearPlayer (s : State) (player : Nat) : FlightAnswer s (clearPlayer player s) := by
  unfold clearPlayer
  split
  · exact .refused _
  · exact .ite (.refused _) (.put (by simp) _)

theorem flightAnswer_setFader (s : State) (source : Nat) (value : Int) : FlightAnswer s (setFader source value s) := by
  unfold setFader
  split
  · exact .refused _
  · exact .put (by simp) _

theorem flightAnswer_setTrim (s : State) (source : Nat) (value : Int) : FlightAnswer s (setTrim source value s) := by
  unfold setTrim
  split
  · exact .refused _
  · exact .put (by simp) _

theorem flightAnswer_switchMic (s : State) (source value : Nat) : FlightAnswer s (switchMic source value s) := by
  unfold switchMic
  split
  · exact .put (by simp) _
  · exact .refused _

/-! ### The owners of the line requests (R109 to R118) -/

theorem flightAnswer_acceptCaller (s : State) (line : Nat) (name : List Byte) (topic priority : Nat) :
    FlightAnswer s (acceptCaller line name topic priority s) := by
  refine .onLine (fun l => ?_) line
  split
  · exact .refused _
  · exact .ite (.refused _) (.ite (.put (by simp) _) (.refused _))

theorem flightAnswer_rejectCaller (s : State) (line : Nat) : FlightAnswer s (rejectCaller line s) := by
  refine .onLine (fun l => ?_) line
  split
  · exact .put (by simp) _
  · exact .put (by simp) _
  · exact .put (by simp) _
  all_goals exact .refused _

theorem keepsFlight_clearCall (s : State) (l : Fin 6) (e : LastEnd) : KeepsFlight s (s.clearCall l e) :=
  .ite ((keepsFlight_testLastCaller _).after (by simp)) (.of_some (by simp))

theorem flightAnswer_releaseCaller (s : State) (role : Role) (line : Nat) :
    FlightAnswer s (releaseCaller role line s) := by
  have hclear (l : Fin 6) : FlightAnswer s (accepted (s.clearCall l .released) fun _ => []) :=
    .accepted (keepsFlight_clearCall s l _) _
  refine .onLine (fun l => ?_) line
  split
  · exact hclear l
  · exact hclear l
  · exact hclear l
  · exact .ite (.refused _) (hclear l)
  all_goals exact .refused _

theorem flightAnswer_takeCaller (s : State) (line : Nat) : FlightAnswer s (takeCaller line s) := by
  have htake (l : Fin 6) : FlightAnswer s (if s.lines.alertHold then refused s .wrongState
      else if 2 ≤ s.linesOnAir.length then refused s .full else accepted (some (s.enterOnAir l)) fun _ => []) :=
    .ite (.refused _) (.ite (.refused _) (.put (by simp) _))
  refine .onLine (fun l => ?_) line
  split
  · exact .put rfl _
  · exact htake l
  · exact htake l
  all_goals exact .refused _

theorem flightAnswer_dropCaller (s : State) (line : Nat) : FlightAnswer s (dropCaller line s) :=
  .onLine (fun _ => .ite (.accepted ((keepsFlight_testLastCaller _).after (by simp)) _) (.refused _)) line

theorem flightAnswer_serviceLine (s : State) (line value : Nat) : FlightAnswer s (serviceLine line value s) := by
  refine .onLine (fun l => ?_) line
  split
  · exact .refused _
  · exact .put (by simp) _
  · exact .put (by simp) _
  · exact .put rfl _
  · exact .put rfl _
  · exact .refused _

theorem flightAnswer_moveInQueue (s : State) (line position : Nat) : FlightAnswer s (moveInQueue line position s) :=
  .onLine (fun _ => .ite (.refused _) (.ite (.refused _) (.ite (.refused _) (.put (by rfl) _)))) line

theorem flightAnswer_pinLine (s : State) (line : Nat) : FlightAnswer s (pinLine line s) :=
  .onLine (fun _ => .ite (.put (by simp) _) (.refused _)) line

theorem flightAnswer_noteCaller (s : State) (line : Nat) (name : List Byte) (topic : Nat) :
    FlightAnswer s (noteCaller line name topic s) := by
  refine .onLine (fun l => ?_) line
  split
  · exact .refused _
  · refine .ite (.refused _) ?_
    split
    · exact .put (by simp) _
    · exact .put (by simp) _
    · exact .put (by simp) _
    all_goals exact .refused _

/-! ### The owners of the alert, site and part requests (chapters 7, 9 and 10) -/

theorem flightAnswer_writeClassEntry (s : State) (c action deadline required : Nat) :
    FlightAnswer s (writeClassEntry c action deadline required s) :=
  .ite (.accepted (keepsFlight_writeClass s c _) _) (.refused _)

theorem flightAnswer_lockCompliance (s : State) : FlightAnswer s (lockCompliance s) :=
  .ite (.put rfl _) (.put (by rfl) _)

theorem flightAnswer_carryNamed (s : State) (origin number : Nat) : FlightAnswer s (carryNamed origin number s) := by
  unfold carryNamed
  split
  · exact .refused _
  · exact .accepted (.ite ((keepsFlight_rankNotice _ _).after (by simp)) .same) _

theorem flightAnswer_dismissNamed (s : State) (origin number : Nat) :
    FlightAnswer s (dismissNamed origin number s) := by
  unfold dismissNamed
  split
  · exact .refused _
  · exact .ite (.refused _) (.ite (.refused _) (.accepted (keepsFlight_retire s _ _) _))

theorem flightAnswer_setSite (s : State) (param value : Nat) : FlightAnswer s (setSite param value s) := by
  have hset (p : Param) (v : Nat) : FlightKept s ((s.newDesired p v).clearedBy p).fillTable :=
    FlightKept.trans (.of_inFlight (by simp)) (.fillTable _)
  unfold setSite
  split
  · exact .refused _
  · split
    · exact .refused _
    · exact .accepted (.of_kept (hset _ _)) _

theorem flightAnswer_setStationTime (s : State) (time : Nat) : FlightAnswer s (setStationTime time s) :=
  .ite (.refused _) (.accepted (keepsFlight_setClock s time) _)

theorem flightAnswer_clearEvents (s : State) (pairs : List (Nat × Nat)) : FlightAnswer s (clearEvents pairs s) :=
  .ite (.put (foldl_site (fun s p => by simp) pairs s) _) (.refused _)

theorem flightAnswer_maskEvents (s : State) (mask : Vector Byte 24) : FlightAnswer s (maskEvents mask s) :=
  .put (by rfl) _

/-! ### The requests -/

/-- Every request that a WRITE brings keeps the limits. -/
theorem flightNext_runRequest (i : Instr) (s : State) : FlightNext s (runRequest i s) := by
  cases i with
  | roInsert role anchor body => exact .request (flightAnswer_insertEntry s anchor body) _ _ _
  | roChange role handle body => exact .request (flightAnswer_changeEntry s handle body) _ _ _
  | roMove role handle list anchor => exact .request (flightAnswer_moveEntry s handle list anchor) _ _ _
  | roDelete role handle => exact .request (flightAnswer_deleteEntry s handle) _ _ _
  | breakClear role brk => exact .request (flightAnswer_clearBreak s brk) _ _ _
  | airMode role mode => exact .request (flightAnswer_setMode s mode) _ _ _
  | airGo role => exact .request (flightAnswer_giveGo s) _ _ _
  | airEndSegment role => exact .request (flightAnswer_endAirSegment s) _ _ _
  | airHold role => exact .request (flightAnswer_holdAir s) _ _ _
  | airResume role => exact .request (flightAnswer_resumeAir s) _ _ _
  | airStep role => exact .request (flightAnswer_stepAir s) _ _ _
  | airHoldAtPoint role value => exact .request (flightAnswer_setHoldAtPoint s value) _ _ _
  | airStop role => exact .request (flightAnswer_stopAir s) _ _ _
  | airStart role => exact .request (flightAnswer_startAir s) _ _ _
  | airCueTo role handle => exact .request (flightAnswer_cueAirTo s handle) _ _ _
  | playerCue role player cart length => exact .request (flightAnswer_cuePlayer s player cart length) _ _ _
  | playerClear role player => exact .request (flightAnswer_clearPlayer s player) _ _ _
  | busFader role source value => exact .request (flightAnswer_setFader s source value) _ _ _
  | busTrim role source value => exact .request (flightAnswer_setTrim s source value) _ _ _
  | micSwitch role source value => exact .request (flightAnswer_switchMic s source value) _ _ _
  | lineAnswer role line =>
    simp only [runRequest, execLineAnswer]
    exact .request (.onLine (fun _ => .ite (.put (by simp) _) (.refused _)) line) _ _ _
  | lineAccept role line name topic priority =>
    exact .request (flightAnswer_acceptCaller s line name topic priority) _ _ _
  | lineReject role line => exact .request (flightAnswer_rejectCaller s line) _ _ _
  | lineRelease role line => exact .request (flightAnswer_releaseCaller s role line) _ _ _
  | lineTake role line => exact .request (flightAnswer_takeCaller s line) _ _ _
  | lineDrop role line => exact .request (flightAnswer_dropCaller s line) _ _ _
  | lineService role line value => exact .request (flightAnswer_serviceLine s line value) _ _ _
  | queueMove role line position => exact .request (flightAnswer_moveInQueue s line position) _ _ _
  | linePin role line => exact .request (flightAnswer_pinLine s line) _ _ _
  | lineNotes role line name topic => exact .request (flightAnswer_noteCaller s line name topic) _ _ _
  | classWrite role cls action deadline required =>
    exact .request (flightAnswer_writeClassEntry s cls action deadline required) _ _ _
  | complianceLock role => exact .request (flightAnswer_lockCompliance s) _ _ _
  | alertCarry role origin number => exact .request (flightAnswer_carryNamed s origin number) _ _ _
  | alertDismiss role origin number => exact .request (flightAnswer_dismissNamed s origin number) _ _ _
  | siteSet role param value => exact .request (flightAnswer_setSite s param value) _ _ _
  | configWriteTolerance role value =>
    simp only [runRequest, execConfigWriteTolerance]
    exact .request (.put (by simp) _) _ _ _
  | configWriteFillPlayer role value =>
    simp only [runRequest, execConfigWriteFillPlayer]
    refine .request ?_ _ _ _
    split
    · exact .refused _
    · exact .put (by simp) _
  | configWriteCueGrace role value | configWriteThreshold role value | configWriteDeadAirLimit role value
  | configWriteDuckDepth role value | configWriteHoldLimit role value =>
    simp only [runRequest, execConfigWriteCueGrace, execConfigWriteThreshold, execConfigWriteDeadAirLimit,
      execConfigWriteDuckDepth, execConfigWriteHoldLimit]
    exact .request (.put (by rfl) _) _ _ _
  | configWriteFoldBackLimit role value =>
    simp only [runRequest, execConfigWriteFoldBackLimit]
    exact .request (.accepted (.of_kept (.of_inFlight (by rfl))) _) _ _ _
  | configWriteCalibration role item value =>
    simp only [runRequest, execConfigWriteCalibration]
    refine .request ?_ _ _ _
    split
    · exact .accepted (.of_kept (.setCalibration s false _)) _
    · exact .accepted (.of_kept (.setCalibration s true _)) _
    · exact .refused _
  | clockSet role time => exact .request (flightAnswer_setStationTime s time) _ _ _
  | controllerReset role =>
    simp only [runRequest, execControllerReset]
    exact .request (.accepted (keepsFlight_controllerReset s) _) _ _ _
  | eventsClear role pairs => exact .request (flightAnswer_clearEvents s pairs) _ _ _
  | eventsMask role mask => exact .request (flightAnswer_maskEvents s mask) _ _ _
  | roRead _ _ | roList _ _ _ | airStatus _ | playerRead _ _ | lookaheadRead _ _ | timingRead _ | busRead _
  | callerRead _ _ | queueRead _ | classRead _ _ | classProbe _ _ _ _ _ | alertRead _ _ _ | alertList _
  | carriageRead _ | siteRead _ | configRead _ | clockRead _ | ident _ | eventsRead _ =>
    simp only [runRequest, execRoRead, execRoList, execAirStatus, execPlayerRead, execLookaheadRead, execTimingRead,
      execBusRead, execCallerRead, execQueueRead, execClassRead, execClassProbe, execAlertRead, execAlertList,
      execCarriageRead, execSiteRead, execConfigRead, execClockRead, execIdent, execEventsRead]
    exact .readRequest _ _ _ _
  | _ => exact .same

theorem flightNext_portWrite (bytes : List Byte) (s : State) : FlightNext s (portWrite bytes s) := by
  have hbad (st : Status) : FlightNext s (.next (s.answerBad bytes st)) := by
    refine .of_next ?_
    unfold State.answerBad
    split <;> simp
  unfold portWrite
  refine .ite (.of_next (by simp)) ?_
  split
  · exact hbad _
  · exact hbad _
  · exact flightNext_runRequest _ s

theorem portRead_site (clocked : Nat) (s : State) : (portRead clocked s).site = s.site := by
  unfold portRead
  split <;> rfl

/-! ### Edges and timers -/

theorem keepsFlight_takeSegue (s : State) : KeepsFlight s s.takeSegue := by
  unfold State.takeSegue
  split
  · exact .same
  · dsimp only
    split
    · exact .ite ((keepsFlight_takeHead _ _).after (by simp)) (.of_some (by simp))
    · exact .of_some (by simp)

theorem keepsFlight_takeCutInstant (s : State) : KeepsFlight s s.takeCutInstant := by
  unfold State.takeCutInstant
  split
  · exact keepsFlight_takeCut s _
  · exact .same

theorem keepsFlight_goEdge (s : State) : KeepsFlight s (s.takeGo.map Prod.fst) := fun t ht => by
  obtain ⟨⟨u, acted⟩, hu, rfl⟩ := Option.map_eq_some_iff.mp ht
  exact FlightKept.takeGo hu

theorem keepsFlight_takeEnd (s : State) (p : Fin 4) : KeepsFlight s (s.takeEnd p) :=
  .ite (keepsFlight_endOnAir s _) (.ite (keepsFlight_endOutgoing s) (.ite (.of_some (by simp)) .same))

/-! ### Every command, and the step -/

/-- Every command but the power-on reset keeps the limits. -/
theorem flightNext_exec (i : Instr) (hi : ∀ l, i ≠ .powerOnReset l) (s : State) : FlightNext s (exec i s) := by
  by_cases hreq : i.request?.isSome = true
  · exact exec_of_request hreq s ▸ flightNext_runRequest i s
  cases i with
  | writeTransactionBad first bytes =>
    exact .ite (flightNext_portWrite bytes s) (.ite (.of_next (by simp [portRead_site])) .same)
  | portOverrun bytes => exact flightNext_portWrite bytes s
  | read clocked => exact .of_next (by simp [portRead_site])
  | powerOnReset levels => exact absurd rfl (hi levels)
  | goEdge => exact .ite .same (.finish ((keepsFlight_goEdge _).after (by rfl)))
  | netAEdge => exact .ite .same (.finish (.after (.ite (keepsFlight_startHead _) .same) (by rfl)))
  | netBEdge => exact .ite .same (.finish (.after (.ite (keepsFlight_endOnAir _ _) .same) (by rfl)))
  | endInput player => exact .finish (keepsFlight_takeEnd s player)
  | endTimer => exact .ite (.finish (keepsFlight_endOnAir s _)) .same
  | seguePoint => exact .ite (.finish (keepsFlight_takeSegue s)) .same
  | outgoingEnd => exact .ite (.finish (keepsFlight_endOutgoing s)) .same
  | graceDeadline => exact .ite (.finish ((keepsFlight_takeHead _ _).after (by simp))) .same
  | postInstant => exact .ite (.finish (keepsFlight_takePost s)) .same
  | cutInstant => exact .ite (.finish (keepsFlight_takeCutInstant s)) .same
  | cutCompletion player => exact .ite (.of_next (by simp)) .same
  | fillWithdrawalEnd player => exact .ite (.of_next (by simp)) .same
  | gainUpdate => exact .ite (.of_next (by simp)) .same
  | deadAirWindow => exact .ite (.of_kept (.judgeWindow s _ _)) .same
  | periodicTimer => exact .ite (.of_next (by simp)) .same
  | samplePeriod lanes talkback => exact .of_next (by simp)
  | cueInputFall input => cases input <;> exact .of_next rfl
  | ringEvent line => exact .ite .same (.of_next (by simp))
  | ringFall line => exact .of_next (by simp)
  | loopEdge line level => exact .of_next (by simp)
  | loopDrop line => exact .ite (.finish (.ite ((keepsFlight_clearCall _ line _).after (by simp)) .same)) .same
  | ringTimer line => exact .ite (.of_next (by simp)) .same
  | clearingTimer line => exact .ite (.of_next (by simp)) .same
  | holdTimer line => exact .ite (.of_next (by simp)) .same
  | issue frame => exact .finish ((keepsFlight_takeIssue _ frame).after (by simp))
  | cancel origin number => exact .finish ((keepsFlight_takeCancel _ origin number).after (by simp))
  | audioEnd => exact .finish ((keepsFlight_takeAudio _ _).after (by simp))
  | audioFail => exact .finish ((keepsFlight_takeAudio _ _).after (by simp))
  | alertFrameAbandoned bytes => exact .finish (.foldSteps keepsFlight_alertByte s bytes)
  | alertFrameGap => exact .ite (.of_next (by simp)) .same
  | alertFrameSent => exact .of_next (by simp)
  | validFrom slot => exact .ite (.finish (keepsFlight_makeEligible s slot _)) .same
  | expiry slot => exact .ite (.finish (keepsFlight_retire s slot _)) .same
  | nextEligible slot => exact .ite (.finish (keepsFlight_makeEligible s slot _)) .same
  | deadlineExpiry slot => exact .ite (.of_kept (.expireDeadline s slot)) .same
  | guardExpiry => exact .ite (.finish (keepsFlight_endCarriage s _)) .same
  | ack sequence param value =>
    exact .finish ((keepsFlight_validFrame _ fun t => .handleAck t _ _ _).after_kept (.of_inFlight (by simp)))
  | nak sequence reason =>
    exact .finish ((keepsFlight_validFrame _ fun t => .handleNak t _ _).after_kept (.of_inFlight (by simp)))
  | reading sequence channel code =>
    exact .finish ((keepsFlight_validFrame _ fun t => .handleReading t _ _ _).after_kept (.of_inFlight (by simp)))
  | siteState active carrier audio fallback =>
    exact .finish ((keepsFlight_validFrame _ fun t => .of_inFlight (by simp)).after_kept (.of_inFlight (by simp)))
  | siteFrameAbandoned bytes => exact .finish (.foldSteps keepsFlight_siteByte s bytes)
  | siteFrameGap => exact .ite (.of_kept (.of_inFlight rfl)) .same
  | siteFrameSent => exact .of_kept (.siteSent s)
  | keepTimer => exact .ite (.of_kept (.of_inFlight rfl)) .same
  | pollTimer => exact .ite (.of_kept (.nextPoll s)) .same
  | ackTimeout sequence =>
    change FlightNext s (execAckTimeout sequence s)
    unfold execAckTimeout
    split
    · exact .of_kept (.ackTimeout s _)
    · exact .same
  | retryTimer param => exact .ite (.of_kept (.retry s param)) .same
  | silenceTimerDegrade => exact .ite (.of_kept (.of_inFlight rfl)) .same
  | silenceTimerLoss => exact .ite (.of_kept (.of_inFlight rfl)) .same
  | changeoverTimer =>
    change FlightNext s (execChangeoverTimer s)
    unfold execChangeoverTimer
    split
    · exact .of_kept (.failChangeover s _)
    · exact .same
  | readingStale channel => exact .ite (.of_kept (.of_inFlight rfl)) .same
  | _ => exact absurd rfl hreq

theorem State.tick_site (s : State) : s.tick.site = s.site := by
  unfold State.tick
  split <;> rfl

/-- Settles O6: the table is filled only into free entries and never with a second SET for a parameter, every other
command leaves entries out or rewrites them with their targets, and a power-on reset empties the table. -/
theorem stepKeepsFlightLimit : Obligations.StepKeepsFlightLimit := by
  unfold Obligations.StepKeepsFlightLimit
  intro s t hs ht
  unfold step at ht
  split at ht
  · cases ht
    exact FlightKept.of_site s.tick_site hs
  · rename_i i rest _
    by_cases hreset : ∃ l, i = .powerOnReset l
    · obtain ⟨l, rfl⟩ := hreset
      rw [powerOnResetLeavesResetState] at ht
      obtain rfl := Host.Outcome.next.inj ht
      exact ⟨Nat.zero_le _, fun p => Nat.zero_le _⟩
    · exact flightNext_exec i (fun l hl => hreset ⟨l, hl⟩) _ t ht hs

end Sys2Proof.Machine
end

section
/-! PROOFS. The site link in time: the sequence number of a new frame (O55), the acknowledgement timeouts and the retry
timer (O57), the silence timers, the changeover timer and the readings' age (O58). -/

namespace Sys2Proof.Machine

open Sys2Proof.Safety

/-! ### Sequence numbers (R169) -/

theorem freeSequence_lt (inFlight : List InFlight) (k : Nat) {n : Nat} (h : n < 256) :
    freeSequence inFlight k n < 256 := by
  induction k generalizing n with
  | zero => exact h
  | succ k ih =>
    unfold freeSequence
    split
    · exact ih (Nat.mod_lt _ (by decide))
    · exact h

/-- Where the number found is held, so are all the numbers tried before it. -/
theorem freeSequence_held {inFlight : List InFlight} {k n : Nat} (hn : n < 256)
    (h : freeSequence inFlight k n ∈ inFlight.map InFlight.sequence) :
    ∀ i ≤ k, (n + i) % 256 ∈ inFlight.map InFlight.sequence := by
  induction k generalizing n with
  | zero =>
    intro i hi
    obtain rfl : i = 0 := Nat.le_zero.mp hi
    rwa [Nat.add_zero, Nat.mod_eq_of_lt hn]
  | succ k ih =>
    unfold freeSequence at h
    split at h
    · rename_i hheld
      intro i hi
      cases i with
      | zero =>
        rw [Nat.add_zero, Nat.mod_eq_of_lt hn]
        simpa using hheld
      | succ i =>
        have hstep : (n + (i + 1)) % 256 = ((n + 1) % 256 + i) % 256 := by omega
        rw [hstep]
        exact ih (Nat.mod_lt _ (by decide)) h i (Nat.le_of_succ_le_succ hi)
    · rename_i hfree
      exact absurd (by simpa using h) hfree

/-- Settles O55: if the number found were held, four numbers in a row would be, which three entries cannot hold. -/
theorem nextSequenceIsFree : Obligations.NextSequenceIsFree := by
  unfold Obligations.NextSequenceIsFree
  refine fun s hn hfree => ⟨freeSequence_lt _ _ hn, fun e he heq => ?_⟩
  have hheld := freeSequence_held hn (heq ▸ List.mem_map_of_mem he : s.nextSequence ∈ _)
  have hnodup : ((List.range 4).map fun i => (s.site.sequence + i) % 256).Nodup :=
    List.nodup_range.map_on fun i hi j hj hij => by
      rw [List.mem_range] at hi hj
      omega
  have hle := (List.subperm_of_subset hnodup fun m hm => by
    obtain ⟨i, hi, rfl⟩ := List.mem_map.mp hm
    exact hheld i (List.mem_range.mp hi).le).length_le
  simp only [List.length_map, List.length_range] at hle
  omega

/-! ### Timeouts and retries (R176) -/

/-- The acknowledgement timeout of an entry in flight. -/
theorem exec_ackTimeout {s : State} {n x : Nat} {e : InFlight} (he : s.inFlight? n = some e) (hx : e.sentAt = some x)
    (hdue : x + 400 ≤ s.clock.mono) : exec (.ackTimeout n) s = .next (s.ackTimeout e) := by
  have htimed : s.timedOut? n = some e := by simp [State.timedOut?, he, InFlight.timedOut, hx, hdue]
  change execAckTimeout n s = _
  simp only [execAckTimeout, htimed]

/-- A SET given up whose value is still desired (R176). -/
theorem State.giveUp_desired {s : State} {e : InFlight} {p : Param} {v : Nat} {w : Option (Nat × Int)}
    (ht : e.target = .set p v w) (hv : (s.param p).desired = some v) :
    s.giveUp e = ((s.dropInFlight e.sequence).raise .setUnconfirmed (some (.setUnconfirmed p))).putParam p
      { s.param p with state := .unconfirmed, retryAt := some (s.clock.mono + 30000) } := by
  simp only [State.giveUp, ht]
  exact if_pos hv

/-- The retry timer's expiry. -/
theorem exec_retryTimer {s : State} {p : Param} {x : Nat} (hstate : (s.param p).state = .unconfirmed)
    (hx : (s.param p).retryAt = some x) (hdue : x ≤ s.clock.mono) : exec (.retryTimer p) s = .next (s.retry p) :=
  if_pos (by simp [State.retryDue, hstate, hx, reached, hdue])

/-- Settles O57: a SET given up leaves its record UNCONFIRMED, which a filling leaves; the retry timer makes it DIRTY,
and the filling then sends it or not. -/
theorem timeoutsAndRetries : Obligations.TimeoutsAndRetries := by
  unfold Obligations.TimeoutsAndRetries
  refine fun s => ⟨fun n e x he hx hdue => ⟨fun htries => ?again, fun p v w htries ht hv => ?given⟩,
    fun p x hstate hx hdue => ⟨fun hlost => ?waits, fun hlink => ?dirty⟩⟩
  case again =>
    rw [exec_ackTimeout he hx hdue, State.ackTimeout, if_pos htries]
    rfl
  case given =>
    have hgiven : s.ackTimeout e = (s.giveUp e).fillTable := if_neg (by omega)
    have hparam : (s.giveUp e).fillTable.param p =
        { s.param p with state := .unconfirmed, retryAt := some (s.clock.mono + 30000) } := by
      have hrec : (s.giveUp e).param p =
          { s.param p with state := .unconfirmed, retryAt := some (s.clock.mono + 30000) } := by
        simp [State.giveUp_desired ht hv]
      rw [State.fillTable_param (by simp [hrec]), hrec]
    have hraised : (s.giveUp e).fillTable.occurrence .setUnconfirmed =
        (s.giveUp e).occurrence .setUnconfirmed := State.occurrence_congr (by simp) _
    refine ⟨_, (exec_ackTimeout he hx hdue).trans (congrArg _ hgiven), by rw [hparam], by rw [hparam], ?_⟩
    rw [hraised, State.giveUp_desired ht hv, State.occurrence_congr (State.putParam_events _ p _),
      State.occurrence_raise, if_pos rfl]
  case waits => exact (exec_retryTimer hstate hx hdue).trans (congrArg _ (if_pos hlost))
  case dirty =>
    let t := s.putParam p { s.param p with state := .dirty, retryAt := none }
    have hrec : t.param p = { s.param p with state := .dirty, retryAt := none } := by simp [t]
    have hwrites : WritesFlight s t.fillTable := WritesFlight.trans (t := t) rfl t.fillTable_writes
    refine ⟨t.fillTable, (exec_retryTimer hstate hx hdue).trans (congrArg _ (if_neg hlink)), ?_, ?_,
      hwrites.site⟩
    all_goals
      obtain hkept | ⟨-, hsent⟩ := t.fillTable_sendsDirty p
      · simp [hkept, hrec]
      · simp [hsent, hrec]

/-! ### Supervision and ageing (R178, R180, R182) -/

/-- The first part of a changeover's failure: it is over and its occurrence raised (R180). -/
def State.changeoverOver (s : State) (c : Changeover) : State :=
  { s with site := { s.site with changeover := none } }.raise .changeoverFailed (some (.changeoverFailed c.target))

/-- A changeover that fails is over and then writes records alone, TX_SELECT's with the refusal (R180). -/
theorem State.failChangeover_rule (s : State) (c : Changeover) :
    WritesFlight (s.changeoverOver c) (s.failChangeover c) ∧
    ((s.failChangeover c).param .txSelect).state = .refused ∧
    ((s.failChangeover c).param .txSelect).refusal = some .changeover ∧
    ((s.failChangeover c).param .txSelect).retryAt = none := by
  let t := s.changeoverOver c
  let last := if c.seen then s.site.report else none
  let r : ParamRec := { t.param .txSelect with
    state := .refused, refusal := some .changeover, retryAt := none, confirmed := last.bind SiteReport.active }
  let u := (t.putParam .txSelect r).putConfirmed .carrier (last.map fun x => if x.carrierUp then 1 else 0)
  have hwrites : WritesParams t (u.actOnReport .carrier).retestPower :=
    (WritesParams.trans (t := u) rfl (.actOnReport u .carrier)).trans (.retestPower _)
  have hrec : (u.actOnReport .carrier).retestPower.param .txSelect = r := by
    rw [State.param_retestPower_ne _ (by decide), State.param_actOnReport_ne _ (by decide)]
    simp [u, State.putConfirmed]
  have hfailed : s.failChangeover c = (u.actOnReport .carrier).retestPower.fillTable := rfl
  have hkept : (s.failChangeover c).param .txSelect = r := by
    rw [hfailed, State.fillTable_param (by simp [hrec, r]), hrec]
  rw [hkept]
  exact ⟨(WritesFlight.of_params hwrites).trans (State.fillTable_writes _), rfl, rfl, rfl⟩

/-- Settles O58: each timer's expiry is one write; a failed changeover's refusal stands in TX_SELECT's record after the
table is filled. -/
theorem linkSupervisionAndAgeing : Obligations.LinkSupervisionAndAgeing := by
  unfold Obligations.LinkSupervisionAndAgeing
  refine fun s => ⟨fun x hx => ⟨fun hlink hdue => ?degrade, fun hlink hdue => ?loss⟩, fun c hc hdue => ?changeover,
    fun c x hstate hx hdue => ?stale⟩
  case degrade => exact if_pos ⟨hlink, by simp [State.silentFor, hx, reached, hdue]⟩
  case loss => exact if_pos ⟨hlink, by simp [State.silentFor, hx, reached, hdue]⟩
  case changeover =>
    have hfound : s.changeoverDue? = some c := by simp [State.changeoverDue?, hc, hdue]
    have hexec : exec .changeoverTimer s = .next (s.failChangeover c) := by
      change execChangeoverTimer s = _
      simp only [execChangeoverTimer, hfound]
    obtain ⟨hwrites, hstate, hrefusal, hretry⟩ := s.failChangeover_rule c
    have hevents : (s.failChangeover c).events = (s.changeoverOver c).events := hwrites.events
    have hover : (s.failChangeover c).site.changeover = none := by
      rw [hwrites.site_eq]
      rfl
    refine ⟨_, hexec, hover, hstate, hrefusal, hretry, ?_, ?_⟩
    · rw [State.occurrence_congr hevents, State.changeoverOver, State.occurrence_raise, if_pos rfl]
    · exact hwrites.site.trans
        (congrArg (fun e => { s with site := (s.failChangeover c).site, events := e }) hevents.symm)
  case stale =>
    have hstale : s.staleDue c = true := by
      simp only [State.staleDue, hstate, hx, Option.map_some, reached, decide_true, Bool.true_and, decide_eq_true_eq]
      omega
    exact if_pos hstale

end Sys2Proof.Machine
end

section
/-! PROOFS. The frames from the site (O54): a frame taken with the link UP is handled and the table filled, and what
each kind's handling writes. -/

namespace Sys2Proof.Machine

open Sys2Proof.Safety

/-! ### A frame taken with the link UP (R168, R178) -/

/-- The state in which a valid frame is handled: the silence timer runs afresh and the link is UP. -/
def State.onFrame (s : State) : State :=
  { s with site := { s.site with silenceFrom := some s.clock.mono, lastValidAt := some s.clock.mono, link := .up } }

/-- A frame taken with the link UP and no bytes of another received is handled, and the table is filled. -/
theorem finish_validFrame_up {s : State} (hup : s.site.link = .up) (hopen : s.site.opened = none)
    (handle : State → State) : finish (s.closeSite.validFrame handle) = .next (handle s.onFrame).fillTable := by
  simp [State.closeSite, hopen, State.validFrame, hup, State.onFrame, finish]

/-- A handling that writes the site-link unit and the occurrences alone, and neither the link nor the silence timer. -/
structure SiteHandled (s t : State) : Prop where
  rest : t = { s with site := t.site, events := t.events }
  link : t.site.link = s.site.link
  silence : t.site.silenceFrom = s.site.silenceFrom

theorem SiteHandled.trans {s t u : State} (h : SiteHandled s t) (k : SiteHandled t u) : SiteHandled s u where
  rest := k.rest.trans (congrArg (fun x : State => { x with site := u.site, events := u.events }) h.rest)
  link := k.link.trans h.link
  silence := k.silence.trans h.silence

theorem SiteHandled.of_params {s t : State} (h : WritesParams s t) : SiteHandled s t :=
  have hflight := WritesFlight.of_params h
  { rest := hflight.site.trans (congrArg (fun e => { s with site := t.site, events := e }) hflight.events.symm)
    link := by rw [hflight.site_eq]
    silence := by rw [hflight.site_eq] }

/-- After such a handling and the filling the frame has been taken. -/
theorem SiteHandled.frameTaken {s u : State} (h : SiteHandled s.onFrame u) : FrameTaken s u.fillTable := by
  have hsite := u.fillTable_writes.site_eq
  refine ⟨?_, ?_, ?_⟩
  · rw [hsite]
    exact h.link
  · rw [hsite]
    exact h.silence
  · rw [u.fillTable_writes.site, h.rest]
    exact ⟨rfl, rfl, rfl, rfl, rfl, rfl, rfl, rfl, rfl, rfl, rfl, rfl⟩

/-! ### ACK and NAK (R174, R175) -/

/-- An ACK with the value sent of a parameter whose value is no drive code: the value is confirmed and the record leaves
SENT by the match. -/
theorem State.handleAck_equal {s : State} {n param v : Nat} {p : Param} {e : InFlight} (he : s.inFlight? n = some e)
    (ht : e.target = .set p v none) (hparam : readParam param = some p) (htx : p ≠ .txSelect)
    (hvalid : validValue p v = true) :
    s.handleAck n param v = ((s.dropInFlight n).putConfirmed p (some v)).resend p := by
  simp [State.handleAck, he, ht, hparam, htx, State.takeApplied, hvalid, State.settleAck, appliedEqual]

/-- A record whose confirmed value has become the one desired is SETTLED by the match (R170). -/
theorem State.resend_settled {s : State} {p : Param} {v : Nat} (hpower : p ≠ .power)
    (hdesired : (s.param p).desired = some v) (hconfirmed : (s.param p).confirmed = some v) :
    (s.resend p).param p = { s.param p with state := .settled } := by
  simp [State.resend, State.siteMatches, hdesired, hpower, hconfirmed]

/-- A NAK of a SET whose value is still desired. -/
theorem State.handleNak_desired {s : State} {n reason v : Nat} {p : Param} {e : InFlight} {w : Option (Nat × Int)}
    (he : s.inFlight? n = some e) (ht : e.target = .set p v w) (hv : (s.param p).desired = some v) :
    s.handleNak n reason = ((s.dropInFlight n).siteRefused p (nakReason reason)).putParam p
      { s.param p with refusal := some (nakReason reason), state := .refused } := by
  have hrec : ((s.dropInFlight n).siteRefused p (nakReason reason)).param p =
      { s.param p with refusal := some (nakReason reason) } := by
    simp only [State.siteRefused, State.param_raise, State.param_putParam, if_true]
    rfl
  simp only [State.handleNak, he, ht, hrec, hv, if_true]

/-! ### Fold-back (R183) -/

/-- The fold-back test's part of the unit, and the occurrences, are written. -/
theorem SiteHandled.fold (s : State) (active : Bool) (strikes : Nat) :
    SiteHandled s { s with site := { s.site with foldActive := active, strikes } } := ⟨rfl, rfl, rfl⟩

/-- The state in which the unit folds back: the flag is set and the strikes are counted afresh. -/
def State.folding (s : State) : State := { s with site := { s.site with foldActive := true, strikes := 0 } }

/-- Folding back writes one desired value and raises FOLDBACK: POWER's half, or CARRIER OFF. -/
theorem State.foldBack_cases (s : State) :
    (∃ v, (s.param .power).desired = some v ∧ 10 < v ∧
      s.foldBack = (s.folding.desire .power (max 10 (v / 2))).raise .foldback
        (some (.foldback (some (max 10 (v / 2)))))) ∨
    ((∀ v, (s.param .power).desired = some v → v ≤ 10) ∧
      s.foldBack = (s.folding.desire .carrier 0).raise .foldback (some (.foldback none))) := by
  cases hv : (s.param .power).desired with
  | none =>
    refine .inr ⟨fun v h => (by cases h), ?_⟩
    simp only [State.foldBack, hv]
    rfl
  | some v =>
    have heq : s.foldBack = if 10 < v then
        (s.folding.desire .power (max 10 (v / 2))).raise .foldback (some (.foldback (some (max 10 (v / 2)))))
        else (s.folding.desire .carrier 0).raise .foldback (some (.foldback none)) := by
      simp only [State.foldBack, hv, Nat.max_comm 10]
      rfl
    by_cases h : 10 < v
    · exact .inl ⟨v, rfl, h, heq.trans (if_pos h)⟩
    · exact .inr ⟨fun x hx => by cases hx; omega, heq.trans (if_neg h)⟩

theorem SiteHandled.raise (s : State) (o : Occurrence) (d : Option Detail) : SiteHandled s (s.raise o d) :=
  ⟨rfl, rfl, rfl⟩

theorem SiteHandled.foldBack (s : State) : SiteHandled s s.foldBack := by
  have hdesired (p : Param) (v : Nat) (d : Option Detail) :
      SiteHandled s ((s.folding.desire p v).raise .foldback d) :=
    ((SiteHandled.fold s true 0).trans (.of_params (.desire _ p v))).trans (.raise _ _ _)
  obtain ⟨v, -, -, heq⟩ | ⟨-, heq⟩ := s.foldBack_cases
  · exact heq ▸ hdesired _ _ _
  · exact heq ▸ hdesired _ _ _

theorem SiteHandled.foldCheck (s : State) : SiteHandled s s.foldCheck := by
  unfold State.foldCheck
  split
  · exact ⟨rfl, rfl, rfl⟩
  · exact .fold s s.site.foldActive 0
  · split
    · exact .fold s s.site.foldActive 1
    · exact .foldBack s

/-- The desired value and the fold-back's flag after folding back, or after any such write. -/
theorem State.desire_rule (s : State) (p : Param) (v : Nat) :
    ((s.desire p v).param p).desired = some v ∧
    (∀ q, q ≠ p → ((s.desire p v).param q).desired = (s.param q).desired) ∧
    (s.desire p v).site.foldActive = s.site.foldActive ∧ (s.desire p v).site.strikes = s.site.strikes := by
  have hsite := (WritesFlight.of_params (WritesParams.desire s p v)).site_eq
  refine ⟨?_, fun q hq => ?_, by rw [hsite], by rw [hsite]⟩
  · unfold State.desire
    split
    · assumption
    · exact (s.param_newDesired p p v).1.trans (if_pos rfl)
  · unfold State.desire
    split
    · rfl
    · exact (s.param_newDesired p q v).1.trans (if_neg hq)

/-! ### READING (R181 to R183) -/

/-- A reading as it is taken: its entry has left the table, and its record is VALID from now. -/
def State.takeReading (s : State) (n : Nat) (c : Fin 8) (code : Nat) : State :=
  (s.dropInFlight n).putReading c
    { state := .valid, value := some (readingValue c code), takenAt := some s.clock.mono }

theorem State.handleReading_poll {s : State} {n code : Nat} {e : InFlight} {c : Fin 8} (he : s.inFlight? n = some e)
    (ht : e.target = .poll c) :
    s.handleReading n (c.val + 1) code =
      if c.val ≤ 1 then (s.takeReading n c code).foldCheck else s.takeReading n c code := by
  simp only [State.handleReading, he, ht, readIndex_succ, if_true]
  rfl

/-- Folding back writes no reading. -/
theorem State.foldCheck_readings (s : State) : s.foldCheck.site.readings = s.site.readings := by
  have hdesired (p : Param) (v : Nat) : (s.folding.desire p v).site.readings = s.site.readings := by
    rw [(WritesFlight.of_params (WritesParams.desire s.folding p v)).site_eq]
    rfl
  unfold State.foldCheck
  split
  · rfl
  · rfl
  · split
    · rfl
    · obtain ⟨v, -, -, heq⟩ | ⟨-, heq⟩ := s.foldBack_cases
      · rw [heq]
        exact hdesired _ _
      · rw [heq]
        exact hdesired _ _

theorem SiteHandled.handleReading {s : State} {n code : Nat} {e : InFlight} {c : Fin 8} (he : s.inFlight? n = some e)
    (ht : e.target = .poll c) : SiteHandled s (s.handleReading n (c.val + 1) code) := by
  have htaken : SiteHandled s (s.takeReading n c code) := ⟨rfl, rfl, rfl⟩
  rw [State.handleReading_poll he ht]
  split
  · exact htaken.trans (.foldCheck _)
  · exact htaken

theorem State.handleReading_reading {s : State} {n code : Nat} {e : InFlight} {c : Fin 8} (he : s.inFlight? n = some e)
    (ht : e.target = .poll c) :
    (s.handleReading n (c.val + 1) code).site.readings[c] =
      { state := .valid, value := some (readingValue c code), takenAt := some s.clock.mono } := by
  have hsame : (s.handleReading n (c.val + 1) code).site.readings = (s.takeReading n c code).site.readings := by
    rw [State.handleReading_poll he ht]
    split
    · exact State.foldCheck_readings _
    · rfl
  simp only [hsame, State.takeReading, State.putReading]
  exact Vector.getElem_set_self c.isLt

/-- The fold-back test at a reading of REFL_POWER with a reading of FWD_POWER of the last 2,000 ms (R183). -/
theorem State.foldTest_reflected {s : State} {n code x : Nat} {fwd : Int}
    (hfwd : s.site.readings[(0 : Fin 8)] = { state := .valid, value := some fwd, takenAt := some x })
    (hx : x ≤ s.clock.mono) (hnow : s.clock.mono ≤ x + 2000) :
    (s.takeReading n 1 code).foldTest =
      some (decide (fwd * s.site.foldLimit < (code * 125 / 65535 : Nat) * 100)) := by
  have hzero : (s.takeReading n 1 code).site.readings[(0 : Fin 8)] =
      { state := .valid, value := some fwd, takenAt := some x } := by
    rw [← hfwd]
    exact Vector.getElem_set_ne (by decide) (by decide) (by decide)
  have hone : (s.takeReading n 1 code).site.readings[(1 : Fin 8)] =
      { state := .valid, value := some (code * 125 / 65535 : Nat), takenAt := some s.clock.mono } :=
    Vector.getElem_set_self (by decide)
  have hlimit : (s.takeReading n 1 code).site.foldLimit = s.site.foldLimit := rfl
  simp only [State.foldTest, hzero, hone, hlimit]
  rw [if_pos (by omega)]

theorem State.foldCheck_false {s : State} (h : s.foldTest = some false) :
    s.foldCheck = { s with site := { s.site with strikes := 0 } } := by simp only [State.foldCheck, h]

theorem State.foldCheck_first {s : State} (h : s.foldTest = some true) (hs : s.site.strikes = 0) :
    s.foldCheck = { s with site := { s.site with strikes := 1 } } := by simp only [State.foldCheck, h, hs, if_true]

theorem State.foldCheck_second {s : State} (h : s.foldTest = some true) (hs : s.site.strikes = 1) :
    s.foldCheck = s.foldBack := by simp only [State.foldCheck, h, hs, Nat.one_ne_zero, if_false]

/-- What a state has after the unit has folded back: POWER's half desired, or CARRIER OFF, and the occurrence with its
detail. -/
theorem State.foldBack_filled (s : State) :
    s.foldBack.fillTable.site.strikes = 0 ∧ s.foldBack.fillTable.site.foldActive = true ∧
    (s.foldBack.fillTable.occurrence .foldback).count = countUp 255 (s.occurrence .foldback).count ∧
    (∀ v, (s.param .power).desired = some v → 10 < v →
      (s.foldBack.fillTable.param .power).desired = some (max 10 (v / 2)) ∧
      (s.foldBack.fillTable.param .carrier).desired = (s.param .carrier).desired ∧
      (s.foldBack.fillTable.occurrence .foldback).detail = some (.foldback (some (max 10 (v / 2))))) ∧
    ((∀ v, (s.param .power).desired = some v → v ≤ 10) →
      (s.foldBack.fillTable.param .power).desired = (s.param .power).desired ∧
      (s.foldBack.fillTable.param .carrier).desired = some 0 ∧
      (s.foldBack.fillTable.occurrence .foldback).detail = some (.foldback none)) := by
  obtain ⟨hvalues, hactive, hstrikes⟩ := s.foldBack.fillTable_sameValues
  have hdesired (q : Param) := (hvalues q).1
  have hoccurrence := State.occurrence_congr s.foldBack.fillTable_writes.events .foldback
  have hraised (p : Param) (v : Nat) (d : Option Detail) :
      ((s.folding.desire p v).raise .foldback d).occurrence .foldback =
        { count := countUp 255 (s.occurrence .foldback).count, detail := d } := by
    rw [State.occurrence_raise, if_pos rfl, State.occurrence_congr (WritesFlight.of_params (.desire _ p v)).events]
    rfl
  rw [hactive, hstrikes, hoccurrence, hdesired, hdesired]
  obtain ⟨w, hw, hten, heq⟩ | ⟨hten, heq⟩ := s.foldBack_cases
  · obtain ⟨hpower, hothers, hfold, hzero⟩ := s.folding.desire_rule .power (max 10 (w / 2))
    rw [heq, hraised]
    refine ⟨hzero, hfold, rfl, fun v hv _ => ?_, fun hle => absurd (hle w hw) (by omega)⟩
    obtain rfl : v = w := Option.some.inj (hv.symm.trans hw)
    exact ⟨hpower, hothers .carrier (by decide), rfl⟩
  · obtain ⟨hcarrier, hothers, hfold, hzero⟩ := s.folding.desire_rule .carrier 0
    rw [heq, hraised]
    exact ⟨hzero, hfold, rfl, fun v hv hlt => absurd (hten v hv) (by omega),
      fun _ => ⟨hothers .power (by decide), hcarrier, rfl⟩⟩

/-! ### STATE (R177) -/

/-- A confirmed value written from the site's own report stays as it was written. -/
theorem State.reportParam_confirmed (s : State) (p q : Param) (v : Option Nat) :
    ((s.reportParam p v).param q).confirmed = if q = p then v else (s.param q).confirmed := by
  have hretest (t : State) : (t.retestPower.param q).confirmed = (t.param q).confirmed := by
    unfold State.retestPower
    split
    · rw [State.param_putParam]
      split
      · rename_i h
        rw [h]
      · rfl
    · rfl
  have hacted (t : State) : ((t.actOnReport p).param q).confirmed = (t.param q).confirmed := by
    by_cases h : q = p
    · subst h
      unfold State.actOnReport
      dsimp only
      split
      · split <;> simp
      · split <;> simp
      · split <;> simp
      · split <;> simp
      all_goals rfl
    · rw [State.param_actOnReport_ne t h]
  have hput : ((s.putConfirmed p v).param q).confirmed = if q = p then v else (s.param q).confirmed := by
    rw [State.putConfirmed, State.param_putParam]
    split <;> rfl
  unfold State.reportParam
  dsimp only
  split
  · rw [hretest, hacted, hput]
  · rw [hacted, hput]

/-- A report as a STATE frame brings it (R177, R206). -/
def State.reportOf (s : State) (active carrier audio fallback : Nat) : SiteReport :=
  { active := twoValued active, carrierUp := decide (carrier ≠ 0), audio := twoValued audio,
    fallback := decide (fallback ≠ 0), takenAt := s.clock.mono }

/-- The state with a report kept. -/
def State.keepReport (s : State) (r : SiteReport) : State :=
  { s with site := { s.site with report := some r, reportSinceReset := true } }

/-- A STATE frame with no changeover in progress. -/
theorem State.handleState_idle {s : State} (h : s.site.changeover = none) (active carrier audio fallback : Nat) :
    s.handleState active carrier audio fallback =
      (s.keepReport (s.reportOf active carrier audio fallback)).writeReport
        (s.reportOf active carrier audio fallback) := by
  unfold State.handleState State.keepReport State.reportOf
  simp only [h]

theorem State.writeReport_carrier (s : State) (r : SiteReport) :
    ((s.writeReport r).param .carrier).confirmed = some (if r.carrierUp then 1 else 0) := by
  simp [State.writeReport, State.reportParam_confirmed]

/-- Settles O54: each frame is handled in the state in which the link is UP and the silence timer afresh; its record or
reading stands as it was written when the table is filled. -/
theorem siteFramesHandled : Obligations.SiteFramesHandled := by
  unfold Obligations.SiteFramesHandled
  refine fun s hup hopen => ⟨fun n param p v e he ht hparam hpower htx hvalid hv => ?ack,
    fun n reason p v e he ht hreason hv => ?nak, fun n code e c he ht => ?reading,
    fun n code e fwd x he ht hfwd hx hnow => ?reflected, fun active carrier audio fallback hidle => ?state⟩
  case ack =>
    let u := (s.onFrame.dropInFlight n).putConfirmed p (some v)
    have hhandled : s.onFrame.handleAck n param v = u.resend p :=
      State.handleAck_equal he ht hparam htx hvalid
    have hrec : (u.resend p).param p = { s.param p with confirmed := some v, state := .settled } := by
      have hu : u.param p = { s.param p with confirmed := some v } := by
        simp only [u, State.putConfirmed, State.param_putParam, if_true]
        rfl
      rw [State.resend_settled hpower (by rw [hu]; exact hv) (by rw [hu]), hu]
    have hfilled := State.fillTable_param (s := u.resend p) (q := p) (by rw [hrec]; simp)
    refine ⟨(u.resend p).fillTable, (finish_validFrame_up hup hopen _).trans (by rw [hhandled]), ?_, ?_,
      SiteHandled.frameTaken ⟨rfl, rfl, rfl⟩⟩
    · rw [hfilled, hrec]
    · rw [hfilled, hrec]
  case nak =>
    let u := (s.onFrame.dropInFlight n).siteRefused p (nakReason reason)
    let r : ParamRec := { s.param p with refusal := some (nakReason reason), state := .refused }
    have hhandled : s.onFrame.handleNak n reason = u.putParam p r := State.handleNak_desired he ht hv
    have hrec : (u.putParam p r).param p = r := by simp
    have hfilled := State.fillTable_param (s := u.putParam p r) (q := p) (by rw [hrec]; simp [r])
    have hcount : (u.putParam p r).fillTable.occurrence .siteRefused =
        ((s.onFrame.dropInFlight n).siteRefused p (nakReason reason)).occurrence .siteRefused :=
      State.occurrence_congr (WritesFlight.trans (t := u.putParam p r) rfl (State.fillTable_writes _)).events _
    refine ⟨(u.putParam p r).fillTable, (finish_validFrame_up hup hopen _).trans (by rw [hhandled]), ?_, ?_, ?_,
      SiteHandled.frameTaken ⟨rfl, rfl, rfl⟩⟩
    · rw [hfilled, hrec]
    · rw [hfilled, hrec]
      obtain rfl | rfl := hreason <;> rfl
    · rw [hcount, State.siteRefused, State.occurrence_raise, if_pos rfl]
      rfl
  case reading =>
    have hhandled : SiteHandled s.onFrame (s.onFrame.handleReading n (c.val + 1) code) := .handleReading he ht
    refine ⟨_, finish_validFrame_up hup hopen _, ?_, hhandled.frameTaken⟩
    rw [(State.fillTable_writes _).site_eq]
    exact State.handleReading_reading he ht
  case reflected =>
    let u := s.onFrame.takeReading n 1 code
    have hhandled : s.onFrame.handleReading n 2 code = u.foldCheck :=
      (State.handleReading_poll (s := s.onFrame) (c := 1) he ht).trans (if_pos (by decide))
    have htest : u.foldTest = some (decide (fwd * s.site.foldLimit < (code * 125 / 65535 : Nat) * 100)) :=
      State.foldTest_reflected hfwd hx hnow
    have hstrikes (k : Nat) : SameValues { u with site := { u.site with strikes := k } }
        { u with site := { u.site with strikes := k } }.fillTable := State.fillTable_sameValues _
    refine ⟨u.foldCheck.fillTable, (finish_validFrame_up hup hopen _).trans (by rw [hhandled]),
      SiteHandled.frameTaken (SiteHandled.trans (t := u) ⟨rfl, rfl, rfl⟩ (.foldCheck u)), fun hle => ?_,
      fun hlt hzero => ?_, fun hlt hone => ?_⟩
    · rw [State.foldCheck_false (htest.trans (by rw [decide_eq_false (by omega)]))]
      exact ⟨(hstrikes 0).2.2, (hstrikes 0).2.1⟩
    · rw [State.foldCheck_first (htest.trans (by rw [decide_eq_true hlt])) hzero]
      exact ⟨(hstrikes 1).2.2, (hstrikes 1).2.1⟩
    · rw [State.foldCheck_second (htest.trans (by rw [decide_eq_true hlt])) hone]
      exact u.foldBack_filled
  case state =>
    let r := s.onFrame.reportOf active carrier audio fallback
    let u := (s.onFrame.keepReport r).writeReport r
    have hquiet : s.onFrame.site.changeover = none := hidle
    have hhandled : s.onFrame.handleState active carrier audio fallback = u := by
      rw [State.handleState_idle hquiet]
    have hwrites : WritesFlight (s.onFrame.keepReport r) u := .of_params (.writeReport _ r)
    have hfilled := hwrites.trans u.fillTable_writes
    have hcarrier : (u.fillTable.param .carrier).confirmed = some (if r.carrierUp then 1 else 0) :=
      ((u.fillTable_sameValues).1 .carrier).2.trans (State.writeReport_carrier _ r)
    refine ⟨u.fillTable, (finish_validFrame_up hup hopen _).trans (by rw [hhandled]), ?_, ?_, ?_,
      SiteHandled.frameTaken (SiteHandled.trans (t := s.onFrame.keepReport r) ⟨rfl, rfl, rfl⟩
        (.of_params (.writeReport _ r)))⟩
    · rw [hfilled.site_eq]
      rfl
    · rw [hcarrier]
      simp [r, State.reportOf]
    · rw [hfilled.site_eq]
      rfl

end Sys2Proof.Machine
end

section
/-! PROOFS. The site port (O56): the bytes of a site frame as they come, up to the byte that shows a fault, the frames
sent as their bytes, and the KEEP and POLL timers. -/

namespace Sys2Proof.Machine

open Sys2Proof.Safety

/-! ### Bytes received (R168, R199) -/

/-- The state in which a site frame's bytes so far have arrived at the present moment. -/
def State.receivingSite (s : State) (bytes : List Byte) : State :=
  s.putSiteOpen (some { bytes, lastAt := s.clock.mono })

/-- A byte that arrives at once and leaves the frame going on is kept. -/
theorem State.siteByte_more {s : State} {bytes : List Byte} {b : Byte} (h : siteProgress (bytes ++ [b]) = .more) :
    (s.receivingSite bytes).siteByte b = some (s.receivingSite (bytes ++ [b])) := by
  simp [State.siteByte, State.receivingSite, State.putSiteOpen, OpenFrame.not_gapped, h]

/-- A byte that arrives at once and shows a fault ends the frame. -/
theorem State.siteByte_abandoned {s : State} {bytes : List Byte} {b : Byte}
    (h : siteProgress (bytes ++ [b]) = .abandoned) : (s.receivingSite bytes).siteByte b = some s.abandonSite := by
  simp [State.siteByte, State.receivingSite, State.putSiteOpen, OpenFrame.not_gapped, State.abandonSite, h]

/-- Bytes that leave the frame going on are kept. -/
theorem State.siteBytes_more (s : State) (l bytes : List Byte)
    (h : ∀ p, p <+: l → siteProgress (bytes ++ p) = .more) :
    foldSteps State.siteByte l (s.receivingSite bytes) = some (s.receivingSite (bytes ++ l)) := by
  induction l generalizing bytes with
  | nil => simp [foldSteps]
  | cons b rest ih =>
    have hb := h [b] (by simp)
    have hrest := ih (bytes ++ [b]) fun p hp => by
      rw [List.append_assoc]
      exact h (b :: p) (List.cons_prefix_cons.mpr ⟨rfl, hp⟩)
    rw [foldSteps, State.siteByte_more hb]
    simpa using hrest

/-- A frame that goes on up to its last byte, and is faulty with it, is abandoned there and counted (log entry 10). -/
theorem exec_siteAbandoned {s : State} (hopen : s.site.opened = none) {l : List Byte} {b : Byte}
    (hmore : ∀ p, p <+: l → siteProgress (0xC3#8 :: p) = .more)
    (hlast : siteProgress (0xC3#8 :: (l ++ [b])) = .abandoned) :
    exec (.siteFrameAbandoned (0xC3#8 :: (l ++ [b]))) s = .next s.abandonSite := by
  have hstart : s.siteByte 0xC3#8 = some (s.receivingSite [0xC3#8]) := by
    simp [State.siteByte, hopen, State.siteStart, State.receivingSite]
  change finish (foldSteps State.siteByte (0xC3#8 :: (l ++ [b])) s) = _
  rw [foldSteps, hstart, Option.bind_some, foldSteps_append, s.siteBytes_more l [0xC3#8] hmore, Option.bind_some,
    foldSteps, State.siteByte_abandoned hlast]
  rfl

/-! ### What the bytes come to (R168) -/

theorem siteProgress_badKind {kind : Byte} (h : siteLength kind.toNat = none) (start : Byte) (rest : List Byte) :
    siteProgress (start :: kind :: rest) = .abandoned := by simp [siteProgress, h]

theorem siteProgress_header {kind : Byte} {n : Nat} (h : siteLength kind.toNat = some n) {seq : Byte} {p : List Byte}
    (hp : p <+: [kind, seq]) (start : Byte) : siteProgress (start :: p) = .more := by
  obtain rfl | ⟨t, rfl, ht⟩ := List.prefix_cons_iff.mp hp
  · rfl
  · obtain rfl | ⟨u, rfl, hu⟩ := List.prefix_cons_iff.mp ht
    · simp [siteProgress, h]
    · rw [List.prefix_nil.mp hu]
      simp [siteProgress, h]

theorem siteProgress_badLength {kind len : Byte} {n : Nat} (h : siteLength kind.toNat = some n) (hlen : len.toNat ≠ n)
    (start seq : Byte) (body : List Byte) : siteProgress (start :: kind :: seq :: len :: body) = .abandoned := by
  simp [siteProgress, h, hlen]

theorem siteProgress_short {kind len : Byte} {n : Nat} (h : siteLength kind.toNat = some n) (hlen : len.toNat = n)
    {body : List Byte} (hbody : body.length < n + 2) (start seq : Byte) :
    siteProgress (start :: kind :: seq :: len :: body) = .more := by simp [siteProgress, h, hlen, hbody]

/-- A frame goes on until the last byte of its check. -/
theorem siteProgress_prefix {kind seq len : Byte} {n : Nat} (h : siteLength kind.toNat = some n) (hlen : len.toNat = n)
    {body p : List Byte} (hbody : body.length < n + 2) (hp : p <+: kind :: seq :: len :: body) (start : Byte) :
    siteProgress (start :: p) = .more := by
  obtain rfl | ⟨t, rfl, ht⟩ := List.prefix_cons_iff.mp hp
  · rfl
  · obtain rfl | ⟨u, rfl, hu⟩ := List.prefix_cons_iff.mp ht
    · exact siteProgress_header h (seq := seq) (by simp) start
    · obtain rfl | ⟨v, rfl, hv⟩ := List.prefix_cons_iff.mp hu
      · exact siteProgress_header h (seq := seq) (by simp) start
      · exact siteProgress_short h hlen (hv.length_le.trans_lt hbody) start seq

theorem siteProgress_badCheck {kind seq len : Byte} {payload check : List Byte}
    (h : siteLength kind.toNat = some payload.length) (hlen : len.toNat = payload.length) (hc : check.length = 2)
    (hcheck : beNat check ≠ crc (kind :: seq :: len :: payload)) (start : Byte) :
    siteProgress (start :: kind :: seq :: len :: (payload ++ check)) = .abandoned := by
  simp [siteProgress, h, hlen, hc, hcheck]

/-! ### Frames sent (R169, R173, R205) -/

/-- The frame at the head of the outgoing queue leaves it as its bytes. -/
theorem State.siteSent_head {s : State} {f : SiteFrame} {rest : List SiteFrame} (h : s.site.outgoing = f :: rest) :
    s.siteSent = { s with site := { s.site with
      outgoing := rest
      lastSent := f.bytes
      inFlight := s.site.inFlight.map fun e =>
        if f.answered ∧ e.sequence = f.sequence ∧ e.sentAt = none then { e with sentAt := some s.clock.mono }
        else e } } := by
  simp only [State.siteSent, h]

/-- The bytes of a SET (R205). -/
theorem SiteFrame.bytes_set (n v : Nat) (p : Param) : (SiteFrame.set n p v).bytes =
    frameBytes 0xC3#8 ([0x11#8] ++ be 1 n ++ [3#8] ++ be 1 ((paramIndex p).val + 1) ++ be 2 v) := by
  simp [SiteFrame.bytes, SiteFrame.kind, SiteFrame.sequence, SiteFrame.payload, sentFrame, counted, frameBytes, be]

/-- The bytes of a POLL (R205). -/
theorem SiteFrame.bytes_poll (n : Nat) (c : Fin 8) : (SiteFrame.poll n c).bytes =
    frameBytes 0xC3#8 ([0x12#8] ++ be 1 n ++ [1#8] ++ be 1 (c.val + 1)) := by
  simp [SiteFrame.bytes, SiteFrame.kind, SiteFrame.sequence, SiteFrame.payload, sentFrame, counted, frameBytes, be]

/-- The bytes of a KEEP (R205). -/
theorem SiteFrame.bytes_keep (n : Nat) (on present : Bool) : (SiteFrame.keep n on present).bytes =
    frameBytes 0xC3#8 ([0x13#8] ++ be 1 n ++ [2#8, if on then 1#8 else 0#8, if present then 1#8 else 0#8]) := by
  cases on <;> cases present <;>
    simp [SiteFrame.bytes, SiteFrame.kind, SiteFrame.sequence, SiteFrame.payload, sentFrame, counted, frameBytes, be]

/-- A parameter's number on the link is its place in parameter order (R170, R205). -/
theorem paramIndex_place {p : Param} {i : Nat}
    (h : [Param.carrier, .power, .txSelect, .siteAudio, .alertFlag, .modLimit][i]? = some p) :
    (paramIndex p).val = i := by
  obtain ⟨hi, -⟩ := List.getElem?_eq_some_iff.mp h
  simp only [List.length_cons, List.length_nil] at hi
  interval_cases i <;> cases h <;> rfl

/-- Settles O56: the bytes of a frame are kept until the one that shows its fault; a frame sent is its bytes, and the
filling after a channel has become due writes neither the channel nor the timer. -/
theorem sitePortFramesAndPolls : Obligations.SitePortFramesAndPolls := by
  unfold Obligations.SitePortFramesAndPolls
  intro s
  refine ⟨fun b hopen hkind => ?kind, fun kind seq len n hopen hkind hlen => ?length,
    fun kind seq len payload check hopen hkind hlen hc hcheck => ?check, fun f hf hgap => ?gap,
    fun n c rest hout => ?poll, fun n p v rest i hout hi => ?set, fun n on present rest hout => ?keep,
    fun hdue => ?keepTimer, fun hdue => ?pollTimer⟩
  case kind =>
    exact exec_siteAbandoned hopen (l := []) (fun p hp => by rw [List.prefix_nil.mp hp]; rfl)
      (siteProgress_badKind hkind _ _)
  case length =>
    exact exec_siteAbandoned hopen (l := [kind, seq]) (fun p hp => siteProgress_header hkind hp _)
      (siteProgress_badLength hkind hlen _ _ _)
  case check =>
    obtain ⟨c, d, rfl⟩ := List.length_eq_two.mp hc
    have hsplit : kind :: seq :: len :: (payload ++ [c, d]) = (kind :: seq :: len :: (payload ++ [c])) ++ [d] := by simp
    rw [hsplit]
    refine exec_siteAbandoned hopen (fun p hp => ?_) ?_
    · exact siteProgress_prefix hkind hlen (by simp) hp _
    · rw [← hsplit]
      exact siteProgress_badCheck hkind hlen rfl (fun heq => hcheck (by rw [← heq, be_beNat_two])) _
  case gap =>
    have hdue : s.siteGapDue = true := by simp [State.siteGapDue, hf, OpenFrame.gapped, hgap]
    exact if_pos hdue
  case poll =>
    refine ⟨s.siteSent, rfl, ?_, ?_⟩
    · rw [State.siteSent_head hout, SiteFrame.bytes_poll]
    · rw [State.siteSent_head hout]
      simp [SiteFrame.answered, SiteFrame.sequence]
  case set =>
    refine ⟨s.siteSent, rfl, ?_, ?_⟩
    · rw [State.siteSent_head hout, SiteFrame.bytes_set, paramIndex_place hi]
    · rw [State.siteSent_head hout]
      simp [SiteFrame.answered, SiteFrame.sequence]
  case keep =>
    change Host.Outcome.next s.siteSent = _
    simp [State.siteSent_head hout, SiteFrame.bytes_keep, SiteFrame.answered]
  case keepTimer => exact if_pos hdue
  case pollTimer =>
    let u : State := { s with site := { s.site with
      lastChannel := some s.site.nextChannel, duePoll := some s.site.nextChannel, pollAt := s.clock.mono + 500 } }
    have hwrites := u.fillTable_writes
    have hchannel : u.fillTable.site.lastChannel = some s.site.nextChannel := by rw [hwrites.site_eq]
    refine ⟨u.fillTable, if_pos hdue, hchannel.trans rfl, by rw [hwrites.site_eq], hwrites.site, fun hlost => ?_⟩
    rw [State.fillTable_lost (s := u) hlost]

end Sys2Proof.Machine
end

section
/-! PROOFS. The range of station time and the ranges of the counts (O3, O4): what each operation does to the counts of
the occurrences and to the two discard counts. An occurrence is counted by its raising alone, and a discard by the
abandoning of a frame alone. -/

namespace Sys2Proof.Machine

open Sys2Proof.Safety

/-! ### The counts of the occurrences (R194) -/

/-- The count of every occurrence's record is 0..255. -/
def Events.inRange (e : Events) : Prop := ∀ o : Occurrence, (e.records[occurrenceIndex o]).count ≤ 255

theorem countsInRange_iff {s : State} :
    countsInRange s ↔ s.events.inRange ∧ s.receiver.discards ≤ 65535 ∧ s.site.discards ≤ 65535 := Iff.rfl

@[simp] theorem State.raise_inRange {s : State} (h : s.events.inRange) (o : Occurrence) (d : Option Detail) :
    (s.raise o d).events.inRange := fun p => State.raise_count_le s o p d (h p)

/-! The operations that raise an occurrence on their way, or clear some. -/

section

variable {s : State}

@[simp] theorem State.keepDrops_inRange (h : s.events.inRange) (entries : List Resolved) :
    (s.keepDrops entries).events.inRange := by
  unfold State.keepDrops
  dsimp only
  split
  · exact h
  · exact State.raise_inRange h _ _

@[simp] theorem State.compute_inRange (h : s.events.inRange) : s.compute.events.inRange := by simp [State.compute, h]

@[simp] theorem State.tryPlace_inRange (h : s.events.inRange) : s.tryPlace.events.inRange := by
  unfold State.tryPlace
  split
  · exact h
  · split
    · exact h
    · dsimp only
      split
      · exact h
      · exact State.compute_inRange h

@[simp] theorem State.reportFaults_inRange (h : s.events.inRange) (l : List (Nat × WalkFault)) :
    (State.reportFaults l s).events.inRange := by
  induction l generalizing s with
  | nil => exact h
  | cons p rest ih => exact ih (State.raise_inRange h _ _)

@[simp] theorem State.refill_inRange (h : s.events.inRange) : s.refill.events.inRange := by
  unfold State.refill
  dsimp only
  split <;> simp [h]

@[simp] theorem State.releaseHead_inRange (h : s.events.inRange) (mayPlace : Bool) :
    (s.releaseHead mayPlace).events.inRange := by
  unfold State.releaseHead
  split
  · exact h
  · have hrefill {t : State} (ht : t.events = s.events) : t.refill.events.inRange := State.refill_inRange (ht ▸ h)
    cases mayPlace
    · exact State.compute_inRange (hrefill rfl)
    · exact State.compute_inRange (State.tryPlace_inRange (hrefill rfl))

@[simp] theorem State.rebuild_inRange (h : s.events.inRange) : s.rebuild.events.inRange := by
  refine State.compute_inRange ?_
  simp [h]

@[simp] theorem State.takeNotice_inRange (h : s.events.inRange) (n : Notice) : (s.takeNotice n).events.inRange := by
  unfold State.takeNotice
  dsimp only
  split
  · exact State.rebuild_inRange h
  · exact h

@[simp] theorem State.reportEnding_inRange (h : s.events.inRange) (n : Nat) (e : Ending) :
    (s.reportEnding n e).events.inRange := by
  unfold State.reportEnding
  split
  · exact h
  · split
    · refine State.takeNotice_inRange ?_ _
      exact h
    · exact h

@[simp] theorem State.withdraw_inRange (h : s.events.inRange) (origin number : Nat) :
    (s.withdraw origin number).events.inRange := by
  unfold State.withdraw
  split
  · exact h
  · refine State.compute_inRange ?_
    rw [State.advanceSeq_events]
    refine State.tryPlace_inRange (State.refill_inRange ?_)
    exact h

@[simp] theorem State.dropStaleHead_inRange (h : s.events.inRange) (n : Nat) :
    (s.dropStaleHead n).events.inRange := by
  refine State.rebuild_inRange (State.reportFaults_inRange ?_ _)
  exact h

@[simp] theorem State.cueTo_inRange (h : s.events.inRange) (n : Nat) (l : ListId) : (s.cueTo n l).events.inRange :=
  State.rebuild_inRange h

@[simp] theorem State.startSegment_inRange (h : s.events.inRange) (n : Nat) (part : PhonePart) :
    (s.startSegment n part).events.inRange := by
  unfold State.startSegment
  dsimp only
  split
  · exact State.raise_inRange (by simpa using h) _ _
  · simpa using h

@[simp] theorem State.siteRefused_inRange (h : s.events.inRange) (p : Param) (reason : SiteRefusal) :
    (s.siteRefused p reason).events.inRange := State.raise_inRange h _ _

@[simp] theorem State.settleAck_inRange (h : s.events.inRange) (p : Param) (sent applied : Nat)
    (power : Option (Nat × Int)) : (s.settleAck p sent applied power).events.inRange := by
  unfold State.settleAck
  split
  · exact h
  · split
    · exact State.siteRefused_inRange h _ _
    · exact h

@[simp] theorem State.entryStarted_inRange (h : s.events.inRange) : s.entryStarted.events.inRange :=
  State.compute_inRange (State.raise_inRange h _ _)

@[simp] theorem State.bindPlayer_inRange (h : s.events.inRange) (o : OnAir) (p : Fin 4) :
    (s.bindPlayer o p).events.inRange := by
  unfold State.bindPlayer
  split
  · exact State.entryStarted_inRange h
  all_goals exact h

@[simp] theorem State.startPlain_inRange (h : s.events.inRange) (timed : Bool) :
    (s.startPlain timed).events.inRange := by
  unfold State.startPlain
  split
  · exact h
  · exact State.entryStarted_inRange h

@[simp] theorem State.releaseWith_inRange (h : s.events.inRange) (e : Option Ending) (mayPlace : Bool) :
    (s.releaseWith e mayPlace).events.inRange := by
  unfold State.releaseWith
  split
  · exact h
  · rename_i r _
    cases e with
    | none => simp [h]
    | some x =>
      let t : State := { s with air := { s.air with lastEnding := some (r.source.handle, x) } }
      have hended : ((t.releaseHead mayPlace).reportEnding r.source.handle x).events.inRange :=
        State.reportEnding_inRange (State.releaseHead_inRange (s := t) h mayPlace) _ _
      dsimp only
      split
      · exact State.compute_inRange (State.raise_inRange hended _ _)
      · exact State.compute_inRange hended

@[simp] theorem State.endRecord_inRange (h : s.events.inRange) (e : Ending) : (s.endRecord e).events.inRange :=
  State.releaseWith_inRange h _ _

@[simp] theorem State.cutOutgoing_inRange (h : s.events.inRange) : s.cutOutgoing.events.inRange := by
  unfold State.cutOutgoing
  split
  · exact h
  · refine State.compute_inRange (State.raise_inRange (State.reportEnding_inRange ?_ _ _) _ _)
    simpa using h

@[simp] theorem State.cutOnAir_inRange (h : s.events.inRange) (mayPlace : Bool) :
    (s.cutOnAir mayPlace).events.inRange := by
  unfold State.cutOnAir
  split
  · exact h
  · simp [h]

@[simp] theorem State.missed_inRange (h : s.events.inRange) : s.missed.events.inRange := by simp [State.missed, h]

@[simp] theorem State.startItem_inRange (h : s.events.inRange) (r : Resolved) (b : Body) :
    (s.startItem r b).1.events.inRange := by
  cases b with
  | audio kind cart segue item =>
    simp only [State.startItem]
    split
    · simp [h]
    · split <;> simp [h]
  | _ => simp [State.startItem, h]

@[simp] theorem State.offerCues_inRange (h : s.events.inRange) : s.offerCues.events.inRange := by
  unfold State.offerCues
  split
  · exact h
  · split
    · split
      · exact State.bindPlayer_inRange h _ _
      · exact h
    · exact h

@[simp] theorem State.releaseBefore_inRange (n : Nat) (w : Watch) (h : s.events.inRange) :
    (State.releaseBefore n w s).events.inRange := by
  induction n generalizing s with
  | zero => exact h
  | succ n ih =>
    unfold State.releaseBefore
    split
    · exact h
    · split
      · split
        · exact h
        · exact ih (State.releaseWith_inRange h _ _)
      · exact ih (State.releaseWith_inRange h _ _)
      · exact ih (State.releaseWith_inRange (s := s.unplace _) h _ _)
      · exact h

@[simp] theorem State.yieldAir_inRange (h : s.events.inRange) : s.yieldAir.events.inRange := by
  unfold State.yieldAir
  split
  · exact h
  · split <;> simp [h]

@[simp] theorem State.preempt_inRange (h : s.events.inRange) : s.preempt.events.inRange := by
  refine State.compute_inRange ?_
  simp [h]

@[simp] theorem State.startCarriage_inRange (h : s.events.inRange) (k : Fin 8) (way : Way) :
    (s.startCarriage k way).events.inRange := by
  unfold State.startCarriage
  split
  · exact h
  · simp [h]

@[simp] theorem State.offer_inRange (h : s.events.inRange) : s.offer.events.inRange := by
  unfold State.offer
  split
  · exact h
  · split
    · exact h
    · split <;> simp [h]

@[simp] theorem State.withdrawPlaced_inRange (h : s.events.inRange) (k : Fin 8) :
    (s.withdrawPlaced k).events.inRange := by
  unfold State.withdrawPlaced
  split
  · exact h
  · split <;> simp [h]

@[simp] theorem State.passDeadline_inRange (h : s.events.inRange) (k : Fin 8) : (s.passDeadline k).events.inRange :=
  State.withdrawPlaced_inRange (s := s.putSched k _) h k

@[simp] theorem State.expireDeadline_inRange (h : s.events.inRange) (k : Fin 8) :
    (s.expireDeadline k).events.inRange := State.offer_inRange (State.passDeadline_inRange h k)

@[simp] theorem State.clearEntry_inRange (h : s.events.inRange) (k : Fin 8) : (s.clearEntry k).events.inRange :=
  State.withdrawPlaced_inRange h k

@[simp] theorem State.foldBack_inRange (h : s.events.inRange) : s.foldBack.events.inRange := by
  unfold State.foldBack
  dsimp only
  split
  · split <;> simp [h]
  · simp [h]

@[simp] theorem State.foldCheck_inRange (h : s.events.inRange) : s.foldCheck.events.inRange := by
  unfold State.foldCheck
  split
  · exact h
  · exact h
  · split
    · exact h
    · exact State.foldBack_inRange h

@[simp] theorem State.stopEntry_inRange (h : s.events.inRange) : s.stopEntry.events.inRange := by
  unfold State.stopEntry
  split
  · exact h
  · split <;> simp [h]

@[simp] theorem State.stopAll_inRange (h : s.events.inRange) : s.stopAll.events.inRange := by
  have hcut := State.cutOutgoing_inRange (s := (s.stopEntry.putOnAir none).unhold) (State.stopEntry_inRange h)
  refine State.compute_inRange ?_
  simpa only [State.enterState_frame] using hcut

@[simp] theorem State.cuePlayer_inRange (h : s.events.inRange) (p : Fin 4) (cue : Cue) :
    (s.cuePlayer p cue).events.inRange := by
  refine State.offerCues_inRange ?_
  split <;> simpa using h

@[simp] theorem State.setFill_inRange (h : s.events.inRange) (new : Option (Fin 4)) :
    (s.setFill new).events.inRange := by
  unfold State.setFill
  split
  · split <;> simp [h]
  · simp [h]

@[simp] theorem State.ringEvent_inRange (h : s.events.inRange) (l : Fin 6) : (s.ringEvent l).events.inRange := by
  unfold State.ringEvent
  dsimp only
  split
  · exact State.raise_inRange h _ _
  all_goals exact h

@[simp] theorem State.endWithdrawal_inRange (h : s.events.inRange) (p : Fin 4) :
    (s.endWithdrawal p).events.inRange := by
  unfold State.endWithdrawal
  split
  · refine State.offerCues_inRange ?_
    split <;> simpa using h
  all_goals exact h

/-- A clearing lowers a count (R196). -/
theorem OccRecord.cleared_count_le (r : OccRecord) (k : Nat) : (r.cleared k).count ≤ r.count := by
  unfold OccRecord.cleared
  split
  · exact Nat.zero_le _
  · exact Nat.sub_le _ _

theorem State.occurrence_put (s : State) (o p : Occurrence) (r : OccRecord) :
    State.occurrence { s with events := { s.events with records := s.events.records.set (occurrenceIndex o) r } } p =
      if p = o then r else s.occurrence p := by
  split
  · rename_i h
    simp [State.occurrence, h]
  · rename_i h
    have hi : (occurrenceIndex o).val ≠ (occurrenceIndex p).val := fun e =>
      h (occurrenceIndex_injective (Fin.ext e.symm))
    simp [State.occurrence, Vector.getElem_set_ne, hi]

@[simp] theorem State.clearPair_inRange (h : s.events.inRange) (p : Nat × Nat) : (s.clearPair p).events.inRange := by
  unfold State.clearPair
  split
  · exact h
  · rename_i o _
    intro q
    refine (congrArg OccRecord.count (s.occurrence_put o q _)).trans_le ?_
    split
    · exact (OccRecord.cleared_count_le _ _).trans (h o)
    · exact h q

theorem State.clearOccurrences_inRange (s : State) : s.clearOccurrences.events.inRange := fun o => by
  simp [State.clearOccurrences]

end

/-! ### The two discard counts (R127, R168) -/

section

variable (s : State)

@[simp] theorem State.putAlert_discards (k : Fin 8) (a : Option Alert) :
    (s.putAlert k a).receiver.discards = s.receiver.discards := rfl

@[simp] theorem State.sendAlert_discards (f : AlertFrame) :
    (s.sendAlert f).receiver.discards = s.receiver.discards := rfl

@[simp] theorem State.receipt_discards (origin number revision : Nat) (r : ReceiptResult) :
    (s.receipt origin number revision r).receiver.discards = s.receiver.discards := rfl

@[simp] theorem State.putClass_discards (c : Nat) (e : ClassEntry) :
    (s.putClass c e).receiver.discards = s.receiver.discards := rfl

@[simp] theorem State.putAlertOpen_discards (f : Option OpenFrame) :
    (s.putAlertOpen f).receiver.discards = s.receiver.discards := rfl

@[simp] theorem State.enterEligible_discards (k : Fin 8) (a : Alert) (p : Bool) :
    (s.enterEligible k a p).receiver.discards = s.receiver.discards := rfl

@[simp] theorem State.waitAgain_discards (k : Fin 8) (a : Alert) (e : Eligibility) (next : Option Nat) :
    (s.waitAgain k a e next).receiver.discards = s.receiver.discards := by
  unfold State.waitAgain
  split <;> simp

@[simp] theorem State.alertStart_discards (b : Byte) : (s.alertStart b).receiver.discards = s.receiver.discards := by
  unfold State.alertStart
  split <;> simp

@[simp] theorem State.alertSent_discards : s.alertSent.receiver.discards = s.receiver.discards := by
  unfold State.alertSent
  split <;> rfl

@[simp] theorem State.startCarriage_discards (k : Fin 8) (way : Way) :
    (s.startCarriage k way).receiver.discards = s.receiver.discards := by
  unfold State.startCarriage
  split <;> simp

@[simp] theorem State.offer_discards : s.offer.receiver.discards = s.receiver.discards := by
  unfold State.offer
  split
  · rfl
  · split
    · rfl
    · split <;> simp

@[simp] theorem State.expireDeadline_discards (k : Fin 8) :
    (s.expireDeadline k).receiver.discards = s.receiver.discards := by simp [State.expireDeadline]

theorem State.resetAlert_discards (k : Fin 8) : (s.resetAlert k).receiver.discards = s.receiver.discards := by
  unfold State.resetAlert
  split
  · rfl
  · split <;> simp

@[simp] theorem State.resetReceiver_discards : s.resetReceiver.receiver.discards = s.receiver.discards := by
  have hfold := foldl_frame (fun t : State => t.receiver.discards) State.resetAlert_discards allSlots
  unfold State.resetReceiver
  dsimp only
  rw [hfold]
  split <;> rfl

end

/-- What a filling of the in-flight table, or a write of the parameter records, leaves of the site-link unit. -/
theorem WritesFlight.discards {s t : State} (h : WritesFlight s t) : t.site.discards = s.site.discards := by
  rw [h.site_eq]

theorem WritesParams.discards {s t : State} (h : WritesParams s t) : t.site.discards = s.site.discards :=
  (WritesFlight.of_params h).discards

section

variable (s : State)

@[simp] theorem State.putParam_discards (p : Param) (r : ParamRec) :
    (s.putParam p r).site.discards = s.site.discards := rfl

@[simp] theorem State.fillTable_discards : s.fillTable.site.discards = s.site.discards := s.fillTable_writes.discards

@[simp] theorem State.newDesired_discards (p : Param) (v : Nat) :
    (s.newDesired p v).site.discards = s.site.discards := (WritesParams.newDesired s p v).discards

@[simp] theorem State.desire_discards (p : Param) (v : Nat) : (s.desire p v).site.discards = s.site.discards :=
  (WritesParams.desire s p v).discards

@[simp] theorem State.writeDesired_discards (p : Param) (v : Nat) :
    (s.writeDesired p v).site.discards = s.site.discards := by
  unfold State.writeDesired
  split <;> simp

@[simp] theorem State.startCarriage_siteDiscards (k : Fin 8) (way : Way) :
    (s.startCarriage k way).site.discards = s.site.discards := by
  unfold State.startCarriage
  split <;> simp

@[simp] theorem State.offer_siteDiscards : s.offer.site.discards = s.site.discards := by
  unfold State.offer
  split
  · rfl
  · split
    · rfl
    · split <;> simp

@[simp] theorem State.expireDeadline_siteDiscards (k : Fin 8) :
    (s.expireDeadline k).site.discards = s.site.discards := by simp [State.expireDeadline]

@[simp] theorem State.retestPower_discards : s.retestPower.site.discards = s.site.discards :=
  (WritesParams.retestPower s).discards

@[simp] theorem State.actOnReport_discards (p : Param) : (s.actOnReport p).site.discards = s.site.discards :=
  (WritesParams.actOnReport s p).discards

@[simp] theorem State.reportParam_discards (p : Param) (v : Option Nat) :
    (s.reportParam p v).site.discards = s.site.discards := (WritesParams.reportParam s p v).discards

@[simp] theorem State.writeReport_discards (r : SiteReport) : (s.writeReport r).site.discards = s.site.discards :=
  (WritesParams.writeReport s r).discards

@[simp] theorem State.putConfirmed_discards (p : Param) (v : Option Nat) :
    (s.putConfirmed p v).site.discards = s.site.discards := rfl

@[simp] theorem State.resend_discards (p : Param) : (s.resend p).site.discards = s.site.discards := rfl

@[simp] theorem State.siteRefused_discards (p : Param) (reason : SiteRefusal) :
    (s.siteRefused p reason).site.discards = s.site.discards := rfl

@[simp] theorem State.dropInFlight_discards (n : Nat) : (s.dropInFlight n).site.discards = s.site.discards := rfl

@[simp] theorem State.putReading_discards (c : Fin 8) (r : Reading) :
    (s.putReading c r).site.discards = s.site.discards := rfl

@[simp] theorem State.putSiteOpen_discards (f : Option OpenFrame) :
    (s.putSiteOpen f).site.discards = s.site.discards := rfl

@[simp] theorem State.sendAgain_discards (e : InFlight) : (s.sendAgain e).site.discards = s.site.discards := rfl

@[simp] theorem State.sendKeep_discards : s.sendKeep.site.discards = s.site.discards := rfl

@[simp] theorem State.clearedBy_discards (p : Param) : (s.clearedBy p).site.discards = s.site.discards := by
  cases p <;> rfl

@[simp] theorem State.takeApplied_discards (p : Param) (applied : Nat) (power : Option (Nat × Int)) :
    (s.takeApplied p applied power).site.discards = s.site.discards := by cases power <;> rfl

@[simp] theorem State.settleAck_discards (p : Param) (sent applied : Nat) (power : Option (Nat × Int)) :
    (s.settleAck p sent applied power).site.discards = s.site.discards := by
  unfold State.settleAck
  split
  · rfl
  · split <;> rfl

@[simp] theorem State.startChangeover_discards (applied : Nat) :
    (s.startChangeover applied).site.discards = s.site.discards := by
  unfold State.startChangeover
  dsimp only
  split
  · split <;> rfl
  · split <;> rfl

@[simp] theorem State.foldBack_discards : s.foldBack.site.discards = s.site.discards := by
  unfold State.foldBack
  dsimp only
  split
  · split <;> simp
  · simp

@[simp] theorem State.foldCheck_discards : s.foldCheck.site.discards = s.site.discards := by
  unfold State.foldCheck
  split
  · rfl
  · rfl
  · split <;> simp

@[simp] theorem State.siteStart_discards (b : Byte) : (s.siteStart b).site.discards = s.site.discards := by
  unfold State.siteStart
  split <;> rfl

@[simp] theorem State.siteSent_discards : s.siteSent.site.discards = s.site.discards := by
  unfold State.siteSent
  split <;> rfl

@[simp] theorem State.setCalibration_discards (reserve : Bool) (v : Int) :
    (s.setCalibration reserve v).site.discards = s.site.discards := by
  have hput (t : State) (ht : t.site.discards = s.site.discards) :
      (if t.activeCal = s.activeCal then t else t.retestPower).fillTable.site.discards = s.site.discards := by
    rw [State.fillTable_discards]
    split <;> simp [ht]
  cases reserve
  · exact hput { s with site := { s.site with calMain := v } } rfl
  · exact hput { s with site := { s.site with calReserve := v } } rfl

theorem State.retryUnconfirmed_discards : s.retryUnconfirmed.site.discards = s.site.discards := by
  unfold State.retryUnconfirmed
  exact foldl_frame (fun t : State => t.site.discards) (by intro t p; split <;> rfl) _ _

end

end Sys2Proof.Machine
end

section
/-! PROOFS. Every step keeps the range of station time and the ranges of the counts (O3, O4), in one pass over the
operations in the order in which they call one another, as for the other invariants: `RangesKept` says that one keeps
both properties, `KeepsRanges` says so of one that may not come to rest, `RangesAnswer` and `RangesNext` of owners and
of commands. -/

namespace Sys2Proof.Machine

open Sys2Proof.Safety

/-! ### What keeps the ranges -/

/-- What leaves the clock and the two discard counts, and keeps the counts of the occurrences in range. -/
@[simp] def RangeFrame (s t : State) : Prop :=
  t.clock = s.clock ∧ (s.events.inRange → t.events.inRange) ∧ t.receiver.discards = s.receiver.discards ∧
  t.site.discards = s.site.discards

theorem RangeFrame.refl (s : State) : RangeFrame s s := ⟨rfl, id, rfl, rfl⟩

theorem RangeFrame.trans {s t u : State} (h : RangeFrame s t) (k : RangeFrame t u) : RangeFrame s u := by
  obtain ⟨hclock, hevents, halert, hsite⟩ := h
  obtain ⟨kclock, kevents, kalert, ksite⟩ := k
  exact ⟨kclock.trans hclock, kevents ∘ hevents, kalert.trans halert, ksite.trans hsite⟩

theorem RangeFrame.raised {s t : State} (h : RangeFrame s t) (o : Occurrence) (d : Option Detail) :
    RangeFrame s (t.raise o d) := h.trans (by simp +contextual)

/-- What keeps station time in its range and the counts in theirs. -/
def RangesKept (s t : State) : Prop :=
  (stationInRange s → stationInRange t) ∧ (countsInRange s → countsInRange t)

theorem RangesKept.refl (s : State) : RangesKept s s := ⟨id, id⟩

theorem RangesKept.trans {s t u : State} (h : RangesKept s t) (k : RangesKept t u) : RangesKept s u :=
  ⟨k.1 ∘ h.1, k.2 ∘ h.2⟩

theorem RangesKept.of_frame {s t : State} (h : RangeFrame s t) : RangesKept s t := by
  obtain ⟨hclock, hevents, halert, hsite⟩ := h
  refine ⟨fun hs => by rwa [stationInRange, hclock], fun hs => ?_⟩
  rw [countsInRange_iff] at hs ⊢
  rw [halert, hsite]
  exact hs.imp_left hevents

/-- A frame abandoned is counted up to 65,535 (R127). -/
theorem RangesKept.abandonAlert (s : State) : RangesKept s s.abandonAlert :=
  ⟨id, fun ⟨hevents, _, hsite⟩ => ⟨hevents, countUp_le _ _, hsite⟩⟩

/-- A site frame abandoned is counted up to 65,535 (R168). -/
theorem RangesKept.abandonSite (s : State) : RangesKept s s.abandonSite :=
  ⟨id, fun ⟨hevents, halert, _⟩ => ⟨hevents, halert, countUp_le _ _⟩⟩

/-! ### The operations of the scheduler, the bus and the site-link unit -/

theorem RangeFrame.compute (s : State) : RangeFrame s s.compute := by simp +contextual

theorem RangeFrame.offerCues (s : State) : RangeFrame s s.offerCues := by simp +contextual

theorem RangeFrame.tryPlace (s : State) : RangeFrame s s.tryPlace := by simp +contextual

theorem RangeFrame.releaseWith (s : State) (e : Option Ending) (mayPlace : Bool) :
    RangeFrame s (s.releaseWith e mayPlace) := by simp +contextual

theorem RangeFrame.clearEntry (s : State) (k : Fin 8) : RangeFrame s (s.clearEntry k) := by simp +contextual

theorem RangeFrame.putSched (s : State) (k : Fin 8) (e : SchedEntry) : RangeFrame s (s.putSched k e) := by simp

theorem RangeFrame.nextPoll (s : State) : RangeFrame s s.nextPoll := by simp [State.nextPoll]

theorem RangeFrame.overrun (s : State) (c : Option Byte) : RangeFrame s (s.overrun c) := .raised (.refl s) _ _

theorem RangeFrame.setTolerance (s : State) (v : Nat) : RangeFrame s (s.setTolerance v) :=
  ⟨by simp, fun h => State.compute_inRange (by simpa using h), by simp, by simp⟩

theorem RangesKept.raise (s : State) (o : Occurrence) (d : Option Detail) : RangesKept s (s.raise o d) :=
  .of_frame (by simp +contextual)

theorem RangesKept.fillTable (s : State) : RangesKept s s.fillTable := .of_frame (by simp)

theorem RangesKept.writeDesired (s : State) (p : Param) (v : Nat) : RangesKept s (s.writeDesired p v) :=
  .of_frame (by simp)

theorem RangesKept.startCarriage (s : State) (k : Fin 8) (way : Way) : RangesKept s (s.startCarriage k way) :=
  .of_frame (by simp +contextual)

theorem RangesKept.offer (s : State) : RangesKept s s.offer := .of_frame (by simp +contextual)

theorem RangesKept.expireDeadline (s : State) (k : Fin 8) : RangesKept s (s.expireDeadline k) :=
  .of_frame (by simp +contextual)

theorem RangesKept.expireMoved (c : Nat) (s : State) : RangesKept s (State.expireMoved c s) :=
  foldl_keeps (P := RangesKept s) (fun k t ht => by
    split
    · exact ht.trans (.expireDeadline t k)
    · exact ht) (.refl s)

theorem RangesKept.closeAlert (s : State) : RangesKept s s.closeAlert := by
  unfold State.closeAlert
  split
  · exact .refl s
  · split
    · exact .abandonAlert s
    · exact .of_frame (by simp)

theorem RangesKept.closeSite (s : State) : RangesKept s s.closeSite := by
  unfold State.closeSite
  split
  · exact .refl s
  · split
    · exact .abandonSite s
    · exact .of_frame (by simp)

theorem RangesKept.settleAck (s : State) (p : Param) (sent applied : Nat) (power : Option (Nat × Int)) :
    RangesKept s (s.settleAck p sent applied power) := .of_frame (by simp +contextual)

theorem RangesKept.siteRefused (s : State) (p : Param) (reason : SiteRefusal) :
    RangesKept s (s.siteRefused p reason) := .of_frame (by simp +contextual)

theorem RangesKept.foldCheck (s : State) : RangesKept s s.foldCheck := .of_frame (by simp +contextual)

theorem RangesKept.handleAck (s : State) (sequence param value : Nat) :
    RangesKept s (s.handleAck sequence param value) := by
  have hsettled (p : Param) (sent : Nat) (power : Option (Nat × Int)) :
      RangesKept s (((s.dropInFlight sequence).takeApplied p value power).settleAck p sent value power) :=
    RangesKept.trans (.of_frame (by simp)) (.settleAck _ p sent value power)
  unfold State.handleAck
  split
  · exact .refl s
  · split
    · exact .refl s
    · split
      · rename_i p sent power _ _
        refine RangesKept.trans (hsettled p sent power) (.of_frame ?_)
        dsimp only
        split <;> simp
      · exact .refl s

theorem RangesKept.handleNak (s : State) (sequence reason : Nat) : RangesKept s (s.handleNak sequence reason) := by
  have hrefused (p : Param) (r : SiteRefusal) : RangesKept s ((s.dropInFlight sequence).siteRefused p r) :=
    RangesKept.trans (.of_frame (by simp)) (.siteRefused _ p r)
  unfold State.handleNak
  split
  · exact .refl s
  · split
    · exact .of_frame (by simp)
    · rename_i p sent power _
      refine RangesKept.trans (hrefused p (nakReason reason)) (.of_frame ?_)
      dsimp only
      split <;> simp

theorem RangesKept.handleReading (s : State) (sequence channel code : Nat) :
    RangesKept s (s.handleReading sequence channel code) := by
  have hread (c : Fin 8) (r : Reading) : RangesKept s ((s.dropInFlight sequence).putReading c r) :=
    .of_frame (by simp)
  unfold State.handleReading
  split
  · exact .refl s
  · split
    · exact .refl s
    · split
      · dsimp only
        split
        · exact (hread _ _).trans (.foldCheck _)
        · exact hread _ _
      · exact .refl s

theorem RangesKept.handleState (s : State) (active carrier audio fallback : Nat) :
    RangesKept s (s.handleState active carrier audio fallback) := by
  unfold State.handleState
  dsimp only
  split
  · exact .of_frame (by simp)
  · split <;> exact .of_frame (by simp)

theorem RangesKept.failChangeover (s : State) (c : Changeover) : RangesKept s (s.failChangeover c) := by
  have hraised : RangesKept s ({ s with site := { s.site with changeover := none } }.raise .changeoverFailed
      (some (.changeoverFailed c.target))) := RangesKept.trans (.of_frame (by simp)) (.raise _ _ _)
  refine hraised.trans (.of_frame ?_)
  simp [State.failChangeover]

theorem RangesKept.giveUp (s : State) (e : InFlight) : RangesKept s (s.giveUp e) := by
  have hraised (p : Param) : RangesKept s ((s.dropInFlight e.sequence).raise .setUnconfirmed
      (some (.setUnconfirmed p))) := RangesKept.trans (.of_frame (by simp)) (.raise _ _ _)
  unfold State.giveUp
  dsimp only
  split
  · exact .of_frame (by simp)
  · rename_i p _ _ _
    refine (hraised p).trans (.of_frame ?_)
    split <;> simp

theorem RangesKept.ackTimeout (s : State) (e : InFlight) : RangesKept s (s.ackTimeout e) := by
  unfold State.ackTimeout
  split
  · exact .of_frame (by simp)
  · exact (RangesKept.giveUp s e).trans (.fillTable _)

theorem RangesKept.retry (s : State) (p : Param) : RangesKept s (s.retry p) := by
  unfold State.retry
  split <;> exact .of_frame (by simp)

theorem RangesKept.escalate (s : State) (m : Monitor) (escalation : Nat) : RangesKept s (s.escalate m escalation) := by
  unfold State.escalate
  dsimp only
  split
  · exact .of_frame (by simp)
  · exact RangesKept.trans (.of_frame (by simp)) (.writeDesired _ .siteAudio 1)

theorem RangesKept.recover (s : State) (m : Monitor) : RangesKept s (s.recover m) := by
  have hdropped (x : Monitor) : RangesKept s (s.putMonitor x).dropDeadAir := .of_frame (by simp)
  unfold State.recover
  dsimp only
  split
  · exact RangesKept.trans (.of_frame (by simp)) (.writeDesired _ .siteAudio 0)
  · exact hdropped _

theorem RangesKept.judgeWindow (s : State) (m : Monitor) (quiet : Bool) : RangesKept s (s.judgeWindow m quiet) := by
  have hput (x : Monitor) : RangesKept s (s.putMonitor x) := .of_frame (by simp)
  unfold State.judgeWindow
  split
  · exact hput _
  · exact hput _
  · split
    · exact .of_frame (by simp)
    · exact hput _
  · exact hput _
  · split
    · exact hput _
    · split
      · exact .escalate s m _
      · exact hput _
  · split
    · exact .recover s m
    · exact hput _
  · exact hput _
  · split
    · exact .recover s m
    · exact hput _

/-- A controller reset clears every occurrence, so that each count is 0 (R193). -/
theorem RangesKept.resetBlocks (s : State) : RangesKept s s.resetBlocks :=
  .of_frame ⟨by simp [State.resetBlocks], fun _ => by
    simpa [State.resetBlocks] using s.clearOccurrences_inRange, by simp [State.resetBlocks], by
    simp [State.resetBlocks, State.resetSite]⟩

/-! ### Operations that may not come to rest -/

/-- Where an operation from a state comes to rest, the ranges are kept. -/
def KeepsRanges (s : State) (r : Option State) : Prop := ∀ t, r = some t → RangesKept s t

section

variable {s s' : State} {a b r : Option State}

theorem KeepsRanges.of_kept {t : State} (h : RangesKept s t) : KeepsRanges s (some t) := fun _ ht =>
  Option.some.inj ht ▸ h

theorem KeepsRanges.of_some {t : State} (h : RangeFrame s t) : KeepsRanges s (some t) := .of_kept (.of_frame h)

theorem KeepsRanges.same : KeepsRanges s (some s) := .of_some (by simp)

theorem KeepsRanges.of_none : KeepsRanges s none := fun _ ht => by cases ht

theorem KeepsRanges.after_kept (h : KeepsRanges s' r) (hs : RangesKept s s') : KeepsRanges s r := fun t ht =>
  hs.trans (h t ht)

theorem KeepsRanges.after (h : KeepsRanges s' r) (hs : RangeFrame s s') : KeepsRanges s r := h.after_kept (.of_frame hs)

theorem KeepsRanges.ite {c : Prop} [Decidable c] (ha : KeepsRanges s a) (hb : KeepsRanges s b) :
    KeepsRanges s (if c then a else b) := by split <;> assumption

theorem KeepsRanges.bind (h : KeepsRanges s r) {f : State → Option State} (hf : ∀ u, KeepsRanges u (f u)) :
    KeepsRanges s (r.bind f) := fun t ht => by
  obtain ⟨u, hu, hfu⟩ := Option.bind_eq_some_iff.mp ht
  exact (h u hu).trans (hf u t hfu)

theorem KeepsRanges.map_kept (h : KeepsRanges s r) {f : State → State} (hf : ∀ u, RangesKept u (f u)) :
    KeepsRanges s (r.map f) := fun t ht => by
  obtain ⟨u, hu, rfl⟩ := Option.map_eq_some_iff.mp ht
  exact (h u hu).trans (hf u)

theorem KeepsRanges.map (h : KeepsRanges s r) {f : State → State} (hf : ∀ u, RangeFrame u (f u)) :
    KeepsRanges s (r.map f) := h.map_kept fun u => .of_frame (hf u)

theorem KeepsRanges.foldSteps {α : Type} {f : α → State → Option State} (hf : ∀ a u, KeepsRanges u (f a u))
    (s : State) (l : List α) : KeepsRanges s (foldSteps f l s) := fun _ ht =>
  foldSteps_keeps (P := RangesKept s) (fun a u v hu hv => hu.trans (hf a u v hv)) (.refl s) ht

end

/-! ### The sequencer (chapter 3) -/

theorem RangeFrame.startItem (s : State) (r : Resolved) (b : Body) : RangeFrame s (s.startItem r b).1 := by
  refine ⟨?_, fun h => State.startItem_inRange h r b, ?_, ?_⟩
  all_goals
    cases b with
    | audio kind cart segue item =>
      simp only [State.startItem]
      split
      · simp
      · split <;> simp
    | _ => simp [State.startItem]

theorem RangeFrame.goGiven {s t : State} {m : TakeMode} {b : Body} (h : s.goGiven m b = some t) :
    RangeFrame s t := by
  have hlatch : RangeFrame s { s with air := { s.air with goLatch := false } } := by simp
  unfold State.goGiven at h
  split at h
  · cases h; exact .refl s
  · split at h
    · cases h; exact .refl s
    · cases h; exact .refl s
    all_goals
      split at h
      · cases h; exact hlatch
      · cases h

theorem keepsRanges_takeLoop (fuel : Nat) (m : TakeMode) (s : State) : KeepsRanges s (takeLoop fuel m s) := by
  induction fuel generalizing m s with
  | zero => exact .of_none
  | succ fuel ih =>
    unfold takeLoop
    split
    · exact .of_some (by simp)
    · rename_i r _
      dsimp only
      split
      · exact (ih m _).after (by simp +contextual)
      · split
        · exact .of_some (by simp)
        · split
          · exact .of_some (by simp +contextual)
          · exact (ih m _).after (by simp +contextual)
        · split
          · refine .of_kept (RangesKept.trans (.of_frame ?_) (.startCarriage _ _ .break))
            simp
          · exact (ih m _).after (by simp +contextual)
        · rename_i b _
          refine .ite ((ih m _).after (by simp +contextual))
            (.ite (.of_some (by simp)) (.ite (.of_some (by simp)) ?_))
          split
          · exact .of_some (by simp)
          · rename_i t hgo
            have hstarted : RangeFrame s (t.startItem r b).1 := (RangeFrame.goGiven hgo).trans (.startItem t r b)
            exact .ite (.of_some hstarted) ((ih _ _).after (hstarted.trans (by simp +contextual)))

theorem keepsRanges_takeHead (s : State) (m : TakeMode) : KeepsRanges s (s.takeHead m) :=
  keepsRanges_takeLoop takeFuel m s

theorem keepsRanges_startHead (s : State) : KeepsRanges s s.startHead := by
  unfold State.startHead
  split
  · rename_i r _
    split
    · rename_i b _
      have hstarted := RangeFrame.startItem s r b
      generalize s.startItem r b = u at hstarted
      exact .ite (.of_some hstarted) ((keepsRanges_takeHead _ _).after (hstarted.trans (by simp +contextual)))
    all_goals exact keepsRanges_takeHead s _
  · exact keepsRanges_takeHead s _

theorem keepsRanges_takeFromGo (s : State) : KeepsRanges s s.takeFromGo := by
  unfold State.takeFromGo
  split
  · split
    · split
      · rename_i t hgo
        exact (keepsRanges_startHead _).after (RangeFrame.goGiven hgo)
      · exact .of_some (by simp)
    all_goals exact keepsRanges_takeHead s _
  · exact keepsRanges_takeHead s _

theorem keepsRanges_endOnAir (s : State) (e : Ending) : KeepsRanges s (s.endOnAir e) := by
  unfold State.endOnAir
  split
  · exact .same
  · exact (keepsRanges_takeHead _ _).after (by simp +contextual)

theorem keepsRanges_settleHead (before s : State) : KeepsRanges s (settleHead before s) := by
  unfold settleHead
  exact .ite (.ite .same ((keepsRanges_takeHead _ _).after (by simp))) .same

theorem keepsRanges_testLastCaller (s : State) : KeepsRanges s s.testLastCaller := by
  unfold State.testLastCaller
  split
  · unfold State.reportLastCaller
    split
    · exact .same
    · split
      · exact .ite (keepsRanges_endOnAir s _) .same
      · exact .same
  · exact .same

theorem keepsRanges_postCut (s : State) (w : Watch) : KeepsRanges s (s.postCut w) := by
  have hcut : RangeFrame s (s.cutOnAir false).cutOutgoing.dropPostWait := by simp +contextual
  have hreleased (n : Nat) (u : State) : RangeFrame u (State.releaseBefore n w u) := by simp +contextual
  have hdisarmed (u : State) : RangeFrame u (u.putWatch .disarmed) := by simp
  refine ((keepsRanges_startHead _).after ?_).map RangeFrame.tryPlace
  exact RangeFrame.trans (.raised (hcut.trans (hreleased _ _)) _ _) (hdisarmed _)

theorem keepsRanges_endOutgoing (s : State) : KeepsRanges s s.endOutgoing := by
  unfold State.endOutgoing
  split
  · exact .same
  · rename_i o _
    let t := s.endPlayer o.player
    have hended : RangeFrame s
        (State.reportEnding { t with air := { t.air with outgoing := none, lastEnding := some (o.handle, .complete) } }
          o.handle .complete) := by
      refine ⟨by simp [t], fun h => State.reportEnding_inRange ?_ _ _, by simp [t], by simp [t]⟩
      simpa [t] using h
    refine (keepsRanges_settleHead s _).after ?_
    exact ((hended.raised _ _).trans (.compute _)).trans (.offerCues _)

/-! ### Carriages (chapter 8) -/

theorem keepsRanges_placeRequest (s : State) (k : Fin 8) : KeepsRanges s (s.placeRequest k) := by
  unfold State.placeRequest
  split
  · exact .same
  · rename_i a _
    have hplaced : RangeFrame s ((s.putSched k { s.sched? k with placed := true }).addPlacement (partOf k a)) := by simp
    exact (keepsRanges_settleHead s _).after (hplaced.trans (.tryPlace _))

theorem keepsRanges_actByWay (s : State) (k : Fin 8) (mayOffer : Bool) : KeepsRanges s (s.actByWay k mayOffer) := by
  have hdue : RangeFrame s (if s.deadlineDue k then s.passDeadline k else s) := by split <;> simp +contextual
  unfold State.actByWay
  dsimp only
  split
  · cases mayOffer with
    | true => exact .of_kept ((RangesKept.of_frame hdue).trans (.offer _))
    | false => exact .of_some hdue
  · exact (keepsRanges_placeRequest _ k).after hdue
  · exact .of_some hdue
  · exact .of_some hdue

theorem keepsRanges_makeEligible (s : State) (k : Fin 8) (mayOffer : Bool) :
    KeepsRanges s (s.makeEligible k mayOffer) := by
  unfold State.makeEligible
  split
  · exact .same
  · exact (keepsRanges_actByWay _ k mayOffer).after (by simp)

theorem keepsRanges_linkUp (s : State) : KeepsRanges s s.linkUp :=
  .foldSteps (fun k u => .ite (keepsRanges_makeEligible u k true) .same) s allSlots

theorem keepsRanges_rankNotice (s : State) (k : Fin 8) : KeepsRanges s (s.rankNotice k) := by
  unfold State.rankNotice
  split
  · exact .same
  · exact .ite .same (.ite ((keepsRanges_actByWay _ k true).after (by simp +contextual)) .same)

theorem keepsRanges_rerank (s : State) (k : Fin 8) : KeepsRanges s (s.rerank k) := by
  unfold State.rerank
  split
  · exact .same
  · exact .ite .same ((keepsRanges_rankNotice _ k).after (by simp))

theorem keepsRanges_giveBack (s : State) (p : Preemption) : KeepsRanges s (s.giveBack p) := by
  unfold State.giveBack
  split
  · exact .of_some (by simp)
  · split
    · exact .of_some (by simp)
    · exact .of_some (by simp)
    all_goals exact keepsRanges_takeHead s _

theorem keepsRanges_restoreByCut (s : State) (p : Preemption) (w : Watch) : KeepsRanges s (s.restoreByCut p w) := by
  unfold State.restoreByCut
  refine (keepsRanges_postCut _ w).after ?_
  split <;> simp

theorem keepsRanges_restoreAir (s : State) : KeepsRanges s s.restoreAir := by
  unfold State.restoreAir
  split
  · exact .same
  · rename_i p _
    refine KeepsRanges.map (.after (s' := { s with air := { s.air with preemption := none } }) ?_ (by simp))
      fun t => by simp +contextual
    split
    · exact .ite (keepsRanges_restoreByCut _ p _) ((keepsRanges_giveBack _ p).after (by simp))
    · exact keepsRanges_giveBack _ p

theorem keepsRanges_eligibleAgain (s : State) (k : Fin 8) (a : Alert) : KeepsRanges s (s.eligibleAgain k a) :=
  .ite (.of_some (by simp)) ((keepsRanges_makeEligible _ k false).after (by simp))

theorem keepsRanges_judge (s : State) (c : Carriage) (reason : EndReason) : KeepsRanges s (s.judge c reason) := by
  unfold State.judge
  split
  · exact .same
  · refine .ite (keepsRanges_eligibleAgain s _ _) ?_
    dsimp only
    split
    · exact .ite (.ite (keepsRanges_eligibleAgain s _ _) (.of_some (by simp)))
        (.ite (.of_some (by simp)) (.of_some (by simp)))
    · exact .ite (.of_some (.raised (by simp) _ _)) (.of_some (by simp))
    · exact .ite (.of_some (.raised (by simp) _ _)) (.of_some (by simp))
    · exact .same

theorem keepsRanges_breakEnd (s : State) : KeepsRanges s s.breakEnd := by
  unfold State.breakEnd
  split
  · exact .same
  · split
    · exact keepsRanges_endOnAir s _
    · refine .after (s' := s.endRecord .complete) ?_ (by simp +contextual)
      dsimp only
      split
      · exact .ite (keepsRanges_postCut _ _) ((keepsRanges_takeHead _ _).after (by simp))
      · exact keepsRanges_takeHead _ _

theorem keepsRanges_afterRun (s : State) : KeepsRanges s s.afterRun := by
  have hrestore : KeepsRanges s s.giveRestore := .ite ((keepsRanges_testLastCaller _).after (by simp)) .same
  refine .ite .same (hrestore.map_kept fun t => ?_)
  split
  · exact .refl t
  · exact .writeDesired t .alertFlag 0

theorem keepsRanges_followCarriage (s : State) (way : Way) : KeepsRanges s (s.followCarriage way) := by
  unfold State.followCarriage
  refine .ite (.bind ?_ keepsRanges_afterRun) (.of_kept (.of_frame (by simp +contextual)))
  split
  · exact keepsRanges_restoreAir s
  · exact keepsRanges_breakEnd s
  · exact keepsRanges_breakEnd s

theorem keepsRanges_endCarriage (s : State) (reason : EndReason) : KeepsRanges s (s.endCarriage reason) := by
  unfold State.endCarriage
  split
  · exact .same
  · rename_i c _
    refine .bind ?_ fun t => (keepsRanges_followCarriage _ c.way).after (by simp +contextual)
    have hclosed (n : Option CarriageNote) : RangeFrame s { s.stopSent reason with
        sched := { (s.stopSent reason).sched with lastNote := n, carriage := none } } := by
      unfold State.stopSent
      split <;> simp
    exact .ite (.of_some (hclosed _)) ((keepsRanges_judge _ c reason).after (hclosed _))

theorem keepsRanges_retire (s : State) (k : Fin 8) (reason : Retirement) : KeepsRanges s (s.retire k reason) := by
  unfold State.retire
  split
  · exact .same
  · exact .map (.ite (keepsRanges_endCarriage s _) (.of_some (by simp +contextual))) fun t => by simp +contextual

/-! ### The alert receiver (chapter 7) -/

/-- An alert stored or revised is answered by a RECEIPT and raises ALERT_RECEIVED. -/
theorem RangeFrame.received (s : State) (k : Fin 8) (a : Alert) (f : IssueFrame) (rank : Nat) :
    RangeFrame s (((s.putAlert k (some a)).receipt f.origin f.number f.revision .accepted).raise .alertReceived
      (some (.alertReceived f.origin f.number rank))) := .raised (by simp) _ _

theorem keepsRanges_storeAlert (s : State) (k : Fin 8) (f : IssueFrame) : KeepsRanges s (s.storeAlert k f) := by
  refine .ite ((keepsRanges_makeEligible _ k true).after ?_) (.of_some ?_) <;>
  exact (RangeFrame.received s k _ f _).trans (.putSched _ k _)

theorem keepsRanges_newAlert (s : State) (f : IssueFrame) : KeepsRanges s (s.newAlert f) := by
  unfold State.newAlert
  refine .ite (.of_some (by simp)) (.ite (.of_some (by simp)) ?_)
  split
  · exact keepsRanges_storeAlert s _ f
  · split
    · exact (keepsRanges_retire s _ _).bind fun t => keepsRanges_storeAlert t _ f
    · exact .of_some (by simp)

theorem keepsRanges_revise (s : State) (k : Fin 8) (a : Alert) (f : IssueFrame) : KeepsRanges s (s.revise k a f) :=
  .ite (.of_some (.received s k _ f _)) (.ite ((keepsRanges_makeEligible _ k true).after
    ((RangeFrame.received s k _ f _).trans (.clearEntry _ k)))
    (.of_some ((RangeFrame.received s k _ f _).trans (.clearEntry _ k))))

theorem keepsRanges_knownAlert (s : State) (k : Fin 8) (a : Alert) (f : IssueFrame) :
    KeepsRanges s (s.knownAlert k a f) :=
  .ite (.of_some (by simp)) (.ite (.of_some (by simp))
    (.ite ((keepsRanges_retire s k _).map fun t => by simp) (keepsRanges_revise s k a f)))

theorem keepsRanges_takeIssue (s : State) (f : IssueFrame) : KeepsRanges s (s.takeIssue f) := by
  unfold State.takeIssue
  refine .ite (.of_some (by simp)) ?_
  split
  · exact keepsRanges_newAlert s f
  · split
    · exact keepsRanges_knownAlert s _ _ f
    · exact keepsRanges_newAlert s f

theorem keepsRanges_takeCancel (s : State) (origin number : Nat) : KeepsRanges s (s.takeCancel origin number) := by
  unfold State.takeCancel
  refine .ite (.of_some (by simp)) ?_
  split
  · exact .of_some (by simp)
  · split
    · exact (keepsRanges_retire s _ _).map fun t => by simp
    · exact .of_some (by simp)

theorem keepsRanges_takeAudio (s : State) (reason : EndReason) : KeepsRanges s (s.takeAudio reason) := by
  unfold State.takeAudio
  split
  · exact .ite (keepsRanges_endCarriage s reason) .same
  · exact .same

theorem keepsRanges_alertByte (b : Byte) (s : State) : KeepsRanges s (s.alertByte b) := by
  unfold State.alertByte
  split
  · exact .of_some (by simp)
  · refine .ite (.of_kept ((RangesKept.abandonAlert s).trans (.of_frame (by simp)))) ?_
    split
    · exact .of_some (by simp)
    · exact .of_kept (.abandonAlert s)
    · refine .after (s' := s.putAlertOpen none) ?_ (by simp)
      unfold State.takeAlertFrame
      split
      · exact keepsRanges_takeIssue _ _
      · exact keepsRanges_takeCancel _ _ _
      · exact keepsRanges_takeAudio _ _
      · exact keepsRanges_takeAudio _ _
      · exact .same
    · exact .of_kept (.abandonAlert s)

theorem keepsRanges_writeClass (s : State) (c : Nat) (e : ClassEntry) : KeepsRanges s (s.writeClass c e) := by
  have hranked : KeepsRanges s
      (if (s.classEntry c).action = e.action then some (s.putClass c e) else (s.putClass c e).rerankClass c) :=
    .ite (.of_some (by simp))
      ((KeepsRanges.foldSteps (fun k u => .ite (keepsRanges_rerank u k) .same) _ allSlots).after (by simp))
  unfold State.writeClass
  exact .ite .same (.ite hranked (hranked.map_kept (RangesKept.expireMoved c)))

/-! ### The site link (chapter 9) -/

theorem keepsRanges_validFrame (s : State) {handle : State → State} (hh : ∀ t, RangesKept t (handle t)) :
    KeepsRanges s (s.validFrame handle) := by
  have hhandled (x : Site) (hx : x.discards = s.site.discards) : RangesKept s (handle { s with site := x }) :=
    RangesKept.trans (t := { s with site := x }) (.of_frame (by simp [hx])) (hh _)
  have hretried (t : State) : RangeFrame t t.retryUnconfirmed := by simp [State.retryUnconfirmed_discards]
  unfold State.validFrame
  refine KeepsRanges.map_kept ?_ RangesKept.fillTable
  dsimp only
  split
  · exact .of_kept (hhandled _ rfl)
  · exact (keepsRanges_linkUp _).after_kept (hhandled _ rfl)
  · refine (keepsRanges_linkUp _).after_kept (RangesKept.trans ?_ (.of_frame (hretried _)))
    exact hhandled _ rfl

theorem keepsRanges_siteByte (b : Byte) (s : State) : KeepsRanges s (s.siteByte b) := by
  unfold State.siteByte
  split
  · exact .of_some (by simp)
  · refine .ite (.of_kept ((RangesKept.abandonSite s).trans (.of_frame (by simp)))) ?_
    split
    · exact .of_some (by simp)
    · exact .of_kept (.abandonSite s)
    · refine .after (s' := s.putSiteOpen none) ?_ (by simp)
      unfold State.takeSiteFrame
      split
      · exact keepsRanges_validFrame _ fun t => .handleAck t _ _ _
      · exact keepsRanges_validFrame _ fun t => .handleNak t _ _
      · exact keepsRanges_validFrame _ fun t => .handleReading t _ _ _
      · exact keepsRanges_validFrame _ fun t => .handleState t _ _ _ _
      · exact .same
    · exact .of_kept (.abandonSite s)

/-! ### The post watch, the clock and the controller reset -/

theorem keepsRanges_takeCut (s : State) (w : Watch) : KeepsRanges s (s.takeCut w) := by
  have hput (x : PostWatch) : KeepsRanges s (some (s.putWatch x)) := .of_some (by simp)
  unfold State.takeCut
  split
  · exact .ite (hput _) (.ite (keepsRanges_postCut s w) (hput _))
  · exact .ite (keepsRanges_postCut s w) (hput _)
  · exact .ite (keepsRanges_postCut s w) (hput _)
  all_goals exact hput _

theorem keepsRanges_takePost (s : State) : KeepsRanges s s.takePost :=
  (keepsRanges_takeFromGo _).after (by simp)

theorem keepsRanges_watchClock (s : State) : KeepsRanges s s.watchClock := by
  unfold State.watchClock
  split
  · exact .same
  · exact .ite (keepsRanges_takeCut s _) (.ite (keepsRanges_takePost s) .same)

theorem keepsRanges_alertClock (k : Fin 8) (s : State) : KeepsRanges s (s.alertClock k) := by
  unfold State.alertClock
  split
  · exact .same
  · exact .ite (keepsRanges_retire s k _) (.ite (keepsRanges_makeEligible s k true) .same)

theorem keepsRanges_setClock (s : State) {time : Nat} (htime : time < 2 ^ 40) : KeepsRanges s (s.setClock time) := by
  have hset : RangesKept s { s with clock := { s.clock with station := time, unset := false } } :=
    ⟨fun _ => htime, id⟩
  have hwatch : KeepsRanges s
      (State.watchClock { s with clock := { s.clock with station := time, unset := false } }) :=
    (keepsRanges_watchClock _).after_kept hset
  have hcomputed := hwatch.map (f := State.compute) fun t => by simp +contextual
  have halerts := hcomputed.bind fun t => .foldSteps keepsRanges_alertClock t allSlots
  exact halerts.bind fun t => .foldSteps (fun k u => .ite (keepsRanges_makeEligible u k true) .same) t allSlots

theorem keepsRanges_resumeAlert (s : State) (was : Option (Fin 8)) (passed : Bool) :
    KeepsRanges s (s.resumeAlert was passed) := by
  unfold State.resumeAlert
  split
  · exact .same
  · split
    · exact .same
    · exact .ite ((keepsRanges_actByWay _ _ false).after (by simp)) .same

theorem keepsRanges_controllerReset (s : State) : KeepsRanges s s.controllerReset := by
  have hrebuilt : RangesKept s s.resetBlocks.rebuild :=
    (RangesKept.resetBlocks s).trans (.of_frame (by simp +contextual))
  have hplaced := ((keepsRanges_resumeAlert _ s.onAirSlot s.carriedPassed).after_kept hrebuilt).bind fun t =>
    .foldSteps (f := State.placeAgain) (fun k u => .ite (keepsRanges_placeRequest u k) .same) t allSlots
  exact hplaced.map_kept RangesKept.offer

/-! ### Commands and owners -/

/-- An owner's answer keeps the ranges. -/
def RangesAnswer (s : State) (r : Option (State × Reply)) : Prop := ∀ t y, r = some (t, y) → RangesKept s t

/-- A command that has a next state keeps the ranges. -/
def RangesNext (s : State) (r : Result) : Prop := ∀ t, r = .next t → RangesKept s t

section

variable {s : State}

theorem RangesAnswer.accepted {r : Option State} (h : KeepsRanges s r) (f : State → List Byte) :
    RangesAnswer s (accepted r f) := fun t _ ht => h t (accepted_some ht).1

/-- An owner that leaves the clock and the counts. -/
theorem RangesAnswer.put {t : State} (h : RangeFrame s t) (f : State → List Byte) :
    RangesAnswer s (Machine.accepted (some t) f) := .accepted (.of_some h) f

theorem RangesAnswer.refused (st : Status) : RangesAnswer s (refused s st) := fun t _ ht => by cases ht; exact .refl s

theorem RangesAnswer.ite {c : Prop} [Decidable c] {a b : Option (State × Reply)} (ha : RangesAnswer s a)
    (hb : RangesAnswer s b) : RangesAnswer s (if c then a else b) := by split <;> assumption

theorem RangesAnswer.onLine {f : Fin 6 → Option (State × Reply)} (hf : ∀ l, RangesAnswer s (f l)) (line : Nat) :
    RangesAnswer s (onLine line s f) := by
  unfold Machine.onLine
  split
  · exact .refused _
  · exact hf _

theorem RangesNext.of_kept {t : State} (h : RangesKept s t) : RangesNext s (.next t) := fun _ ht => by
  cases ht; exact h

theorem RangesNext.of_next {t : State} (h : RangeFrame s t) : RangesNext s (.next t) := .of_kept (.of_frame h)

theorem RangesNext.same : RangesNext s (.next s) := .of_next (by simp)

theorem RangesNext.finish {r : Option State} (h : KeepsRanges s r) : RangesNext s (finish r) := fun t ht =>
  h t (finish_next.mp ht)

theorem RangesNext.ite {c : Prop} [Decidable c] {a b : Result} (ha : RangesNext s a) (hb : RangesNext s b) :
    RangesNext s (if c then a else b) := by split <;> assumption

/-- Every answer but the owner's leaves the clock and the discards (R188, R189). -/
theorem RangesNext.request {owner : State → Option (State × Reply)} (ho : RangesAnswer s (owner s)) (code : Nat)
    (role : Role) (permitted : List Role) : RangesNext s (request code role permitted s owner) := fun t ht => by
  obtain ⟨-, rfl⟩ | ⟨-, -, rfl⟩ | ⟨-, -, u, r, hu, rfl⟩ := request_cases ht
  · exact .of_frame (.overrun s _)
  · exact .of_frame (by simp)
  · exact (ho u r hu).trans (.of_frame (by simp))

theorem RangesNext.readRequest (owner : State → Reply) (code : Nat) (role : Role) (permitted : List Role) :
    RangesNext s (readRequest code role permitted s owner) :=
  .request (fun t y ht => by cases ht; exact .refl s) code role permitted

end

/-! ### The owners of the running-order, air and bus requests (chapters 1 to 3 and 5) -/

theorem keepsRanges_edited (s : State) (st : Store) (n : Notice) : KeepsRanges s (s.edited st n) :=
  (keepsRanges_settleHead s _).after (by simp +contextual)

theorem rangesAnswer_insertEntry (s : State) (anchor : Nat) (e : RawEntry) :
    RangesAnswer s (insertEntry anchor e s) := by
  unfold insertEntry
  split
  · refine .ite (.refused _) (.ite (.refused _) (.ite (.refused _) ?_))
    split
    · exact .refused _
    · exact .accepted (keepsRanges_edited s _ _) _
  · exact .refused _

theorem rangesAnswer_changeEntry (s : State) (n : Nat) (e : RawEntry) : RangesAnswer s (changeEntry n e s) := by
  unfold changeEntry
  split
  · exact .refused _
  · split
    · exact .refused _
    · exact .refused _
    · exact .ite (.refused _) (.ite (.refused _) (.accepted (keepsRanges_edited s _ _) _))

theorem rangesAnswer_moveEntry (s : State) (n list anchor : Nat) : RangesAnswer s (moveEntry n list anchor s) := by
  have hlive (e : Entry) (l : ListId) : RangesAnswer s (moveLive n e l anchor s) :=
    .ite (.put (by simp) _) (.accepted (keepsRanges_edited s _ _) _)
  unfold moveEntry
  split
  · exact .refused _
  · refine .ite (.refused _) ?_
    split
    · exact .refused _
    · exact .refused _
    · exact .ite (.refused _) (.ite (.refused _) (.ite (.refused _) (hlive _ _)))

theorem rangesAnswer_deleteEntry (s : State) (n : Nat) : RangesAnswer s (deleteEntry n s) := by
  unfold deleteEntry
  split
  · exact .refused _
  · exact .refused _
  · exact .ite (.refused _) (.accepted (keepsRanges_edited s _ _) _)

theorem rangesAnswer_clearBreak (s : State) (b : Nat) : RangesAnswer s (clearBreak b s) := by
  unfold clearBreak
  split
  · exact .refused _
  · exact .ite (.refused _) (.ite (.put (by simp) _) (.accepted (keepsRanges_edited s _ _) _))

theorem rangesAnswer_setMode (s : State) (mode : Nat) : RangesAnswer s (setMode mode s) := by
  unfold setMode
  split
  · exact .refused _
  · exact .put (by simp) _

theorem RangesKept.takeGo {s t : State} {acted : Bool} (ht : s.takeGo = some (t, acted)) : RangesKept s t := by
  have hstart {u : State} (hu : RangeFrame s u) (hs : u.startHead.map (·, true) = some (t, acted)) :
      RangesKept s t := by
    obtain ⟨v, hv, heq⟩ := Option.map_eq_some_iff.mp hs
    obtain ⟨rfl, -⟩ := Prod.mk.inj heq
    exact (RangesKept.of_frame hu).trans (keepsRanges_startHead u v hv)
  unfold State.takeGo at ht
  split at ht
  · split at ht
    · cases ht; exact .of_frame (by simp)
    · exact hstart (by simp) ht
  · exact hstart (by simp) ht
  · cases ht; exact .of_frame (by simp)
  all_goals cases ht; exact .of_frame (by simp)

theorem rangesAnswer_giveGo (s : State) : RangesAnswer s (giveGo s) := fun t y ht => by
  obtain ⟨⟨u, acted⟩, hu, heq⟩ := Option.map_eq_some_iff.mp ht
  cases heq
  exact RangesKept.takeGo hu

theorem rangesAnswer_endAirSegment (s : State) : RangesAnswer s (endAirSegment s) :=
  .ite (.accepted (keepsRanges_endOnAir s _) _) (.refused _)

theorem rangesAnswer_holdAir (s : State) : RangesAnswer s (holdAir s) := by
  unfold holdAir
  split
  · exact .put (by simp) _
  · exact .put (by simp) _
  · exact .put (by simp) _
  · exact .put (by simp) _
  · exact .put (by simp) _
  · exact .refused _

theorem rangesAnswer_resumeAir (s : State) : RangesAnswer s (resumeAir s) := by
  unfold resumeAir
  split
  · exact .put (by simp) _
  · exact .accepted (keepsRanges_takeHead s _) _
  all_goals exact .refused _

theorem rangesAnswer_stepAir (s : State) : RangesAnswer s (stepAir s) := by
  unfold stepAir
  split
  · exact .accepted ((keepsRanges_takeHead _ _).after (by simp)) _
  all_goals exact .refused _

theorem rangesAnswer_setHoldAtPoint (s : State) (value : Nat) : RangesAnswer s (setHoldAtPoint value s) := by
  unfold setHoldAtPoint
  split
  · exact .refused _
  · exact .put (by simp) _

theorem rangesAnswer_stopAir (s : State) : RangesAnswer s (stopAir s) :=
  .ite (.refused _) (.ite (.put (by simp) _) (.put (by simp +contextual) _))

theorem rangesAnswer_startAir (s : State) : RangesAnswer s (startAir s) :=
  .ite (.refused _) (.ite (.refused _) (.ite (.accepted (keepsRanges_takeHead s _) _) (.refused _)))

theorem rangesAnswer_cueAirTo (s : State) (n : Nat) : RangesAnswer s (cueAirTo n s) := by
  unfold cueAirTo
  split
  · exact .refused _
  · exact .refused _
  all_goals
    split
    · exact .refused _
    · exact .refused _
    · exact .accepted ((keepsRanges_settleHead s _).after (by simp +contextual)) _

theorem rangesAnswer_cuePlayer (s : State) (player cart length : Nat) :
    RangesAnswer s (cuePlayer player cart length s) := by
  unfold cuePlayer
  split
  · exact .refused _
  · exact .ite (.refused _) (.ite (.refused _) (.put (by simp +contextual) _))

theorem rangesAnswer_clearPlayer (s : State) (player : Nat) : RangesAnswer s (clearPlayer player s) := by
  unfold clearPlayer
  split
  · exact .refused _
  · exact .ite (.refused _) (.put (by simp) _)

theorem rangesAnswer_setFader (s : State) (source : Nat) (value : Int) : RangesAnswer s (setFader source value s) := by
  unfold setFader
  split
  · exact .refused _
  · exact .put (by simp) _

theorem rangesAnswer_setTrim (s : State) (source : Nat) (value : Int) : RangesAnswer s (setTrim source value s) := by
  unfold setTrim
  split
  · exact .refused _
  · exact .put (by simp) _

theorem rangesAnswer_switchMic (s : State) (source value : Nat) : RangesAnswer s (switchMic source value s) := by
  unfold switchMic
  split
  · exact .put (by simp) _
  · exact .refused _

/-! ### The owners of the line requests (R109 to R118) -/

theorem rangesAnswer_acceptCaller (s : State) (line : Nat) (name : List Byte) (topic priority : Nat) :
    RangesAnswer s (acceptCaller line name topic priority s) := by
  refine .onLine (fun l => ?_) line
  split
  · exact .refused _
  · exact .ite (.refused _) (.ite (.put (by simp) _) (.refused _))

theorem rangesAnswer_rejectCaller (s : State) (line : Nat) : RangesAnswer s (rejectCaller line s) := by
  refine .onLine (fun l => ?_) line
  split
  · exact .put (by simp) _
  · exact .put (by simp) _
  · exact .put (by simp) _
  all_goals exact .refused _

theorem keepsRanges_clearCall (s : State) (l : Fin 6) (e : LastEnd) : KeepsRanges s (s.clearCall l e) :=
  .ite ((keepsRanges_testLastCaller _).after (by simp)) (.of_some (by simp))

theorem rangesAnswer_releaseCaller (s : State) (role : Role) (line : Nat) :
    RangesAnswer s (releaseCaller role line s) := by
  have hclear (l : Fin 6) : RangesAnswer s (accepted (s.clearCall l .released) fun _ => []) :=
    .accepted (keepsRanges_clearCall s l _) _
  refine .onLine (fun l => ?_) line
  split
  · exact hclear l
  · exact hclear l
  · exact hclear l
  · exact .ite (.refused _) (hclear l)
  all_goals exact .refused _

theorem rangesAnswer_takeCaller (s : State) (line : Nat) : RangesAnswer s (takeCaller line s) := by
  have htake (l : Fin 6) : RangesAnswer s (if s.lines.alertHold then refused s .wrongState
      else if 2 ≤ s.linesOnAir.length then refused s .full else accepted (some (s.enterOnAir l)) fun _ => []) :=
    .ite (.refused _) (.ite (.refused _) (.put (by simp) _))
  refine .onLine (fun l => ?_) line
  split
  · exact .put (by simp) _
  · exact htake l
  · exact htake l
  all_goals exact .refused _

theorem rangesAnswer_dropCaller (s : State) (line : Nat) : RangesAnswer s (dropCaller line s) :=
  .onLine (fun _ => .ite (.accepted ((keepsRanges_testLastCaller _).after (by simp)) _) (.refused _)) line

theorem rangesAnswer_serviceLine (s : State) (line value : Nat) : RangesAnswer s (serviceLine line value s) := by
  refine .onLine (fun l => ?_) line
  split
  · exact .refused _
  · exact .put (by simp) _
  · exact .put (by simp) _
  · exact .put (by simp) _
  · exact .put (by simp) _
  · exact .refused _

theorem rangesAnswer_moveInQueue (s : State) (line position : Nat) : RangesAnswer s (moveInQueue line position s) :=
  .onLine (fun _ => .ite (.refused _) (.ite (.refused _) (.ite (.refused _) (.put (by simp) _)))) line

theorem rangesAnswer_pinLine (s : State) (line : Nat) : RangesAnswer s (pinLine line s) :=
  .onLine (fun _ => .ite (.put (by simp) _) (.refused _)) line

theorem rangesAnswer_noteCaller (s : State) (line : Nat) (name : List Byte) (topic : Nat) :
    RangesAnswer s (noteCaller line name topic s) := by
  refine .onLine (fun l => ?_) line
  split
  · exact .refused _
  · refine .ite (.refused _) ?_
    split
    · exact .put (by simp) _
    · exact .put (by simp) _
    · exact .put (by simp) _
    all_goals exact .refused _

/-! ### The owners of the alert, site and part requests (chapters 7, 9 and 10) -/

theorem rangesAnswer_writeClassEntry (s : State) (c action deadline required : Nat) :
    RangesAnswer s (writeClassEntry c action deadline required s) :=
  .ite (.accepted (keepsRanges_writeClass s c _) _) (.refused _)

theorem rangesAnswer_lockCompliance (s : State) : RangesAnswer s (lockCompliance s) :=
  .ite (.put (by simp) _) (.put (by simp) _)

theorem rangesAnswer_carryNamed (s : State) (origin number : Nat) : RangesAnswer s (carryNamed origin number s) := by
  unfold carryNamed
  split
  · exact .refused _
  · exact .accepted (.ite ((keepsRanges_rankNotice _ _).after (by simp)) .same) _

theorem rangesAnswer_dismissNamed (s : State) (origin number : Nat) :
    RangesAnswer s (dismissNamed origin number s) := by
  unfold dismissNamed
  split
  · exact .refused _
  · exact .ite (.refused _) (.ite (.refused _) (.accepted (keepsRanges_retire s _ _) _))

theorem rangesAnswer_setSite (s : State) (param value : Nat) : RangesAnswer s (setSite param value s) := by
  have hset (p : Param) (v : Nat) : RangesKept s ((s.newDesired p v).clearedBy p).fillTable :=
    RangesKept.trans (.of_frame (by simp)) (.fillTable _)
  unfold setSite
  split
  · exact .refused _
  · split
    · exact .refused _
    · exact .accepted (.of_kept (hset _ _)) _

theorem rangesAnswer_setStationTime (s : State) (time : Nat) : RangesAnswer s (setStationTime time s) := by
  unfold setStationTime
  split
  · exact .refused _
  · rename_i htime
    exact .accepted (keepsRanges_setClock s (Nat.lt_of_not_le htime)) _

theorem rangesAnswer_clearEvents (s : State) (pairs : List (Nat × Nat)) : RangesAnswer s (clearEvents pairs s) :=
  .ite (.put (foldl_keeps (P := RangeFrame s) (fun p t ht => ht.trans (by simp +contextual)) (.refl s)) _) (.refused _)

theorem rangesAnswer_maskEvents (s : State) (mask : Vector Byte 24) : RangesAnswer s (maskEvents mask s) :=
  .put ⟨rfl, id, rfl, rfl⟩ _

/-! ### The requests -/

/-- Every request that a WRITE brings keeps the ranges. -/
theorem rangesNext_runRequest (i : Instr) (s : State) : RangesNext s (runRequest i s) := by
  cases i with
  | roInsert role anchor body => exact .request (rangesAnswer_insertEntry s anchor body) _ _ _
  | roChange role handle body => exact .request (rangesAnswer_changeEntry s handle body) _ _ _
  | roMove role handle list anchor => exact .request (rangesAnswer_moveEntry s handle list anchor) _ _ _
  | roDelete role handle => exact .request (rangesAnswer_deleteEntry s handle) _ _ _
  | breakClear role brk => exact .request (rangesAnswer_clearBreak s brk) _ _ _
  | airMode role mode => exact .request (rangesAnswer_setMode s mode) _ _ _
  | airGo role => exact .request (rangesAnswer_giveGo s) _ _ _
  | airEndSegment role => exact .request (rangesAnswer_endAirSegment s) _ _ _
  | airHold role => exact .request (rangesAnswer_holdAir s) _ _ _
  | airResume role => exact .request (rangesAnswer_resumeAir s) _ _ _
  | airStep role => exact .request (rangesAnswer_stepAir s) _ _ _
  | airHoldAtPoint role value => exact .request (rangesAnswer_setHoldAtPoint s value) _ _ _
  | airStop role => exact .request (rangesAnswer_stopAir s) _ _ _
  | airStart role => exact .request (rangesAnswer_startAir s) _ _ _
  | airCueTo role handle => exact .request (rangesAnswer_cueAirTo s handle) _ _ _
  | playerCue role player cart length => exact .request (rangesAnswer_cuePlayer s player cart length) _ _ _
  | playerClear role player => exact .request (rangesAnswer_clearPlayer s player) _ _ _
  | busFader role source value => exact .request (rangesAnswer_setFader s source value) _ _ _
  | busTrim role source value => exact .request (rangesAnswer_setTrim s source value) _ _ _
  | micSwitch role source value => exact .request (rangesAnswer_switchMic s source value) _ _ _
  | lineAnswer role line =>
    simp only [runRequest, execLineAnswer]
    exact .request (.onLine (fun _ => .ite (.put (by simp) _) (.refused _)) line) _ _ _
  | lineAccept role line name topic priority =>
    exact .request (rangesAnswer_acceptCaller s line name topic priority) _ _ _
  | lineReject role line => exact .request (rangesAnswer_rejectCaller s line) _ _ _
  | lineRelease role line => exact .request (rangesAnswer_releaseCaller s role line) _ _ _
  | lineTake role line => exact .request (rangesAnswer_takeCaller s line) _ _ _
  | lineDrop role line => exact .request (rangesAnswer_dropCaller s line) _ _ _
  | lineService role line value => exact .request (rangesAnswer_serviceLine s line value) _ _ _
  | queueMove role line position => exact .request (rangesAnswer_moveInQueue s line position) _ _ _
  | linePin role line => exact .request (rangesAnswer_pinLine s line) _ _ _
  | lineNotes role line name topic => exact .request (rangesAnswer_noteCaller s line name topic) _ _ _
  | classWrite role cls action deadline required =>
    exact .request (rangesAnswer_writeClassEntry s cls action deadline required) _ _ _
  | complianceLock role => exact .request (rangesAnswer_lockCompliance s) _ _ _
  | alertCarry role origin number => exact .request (rangesAnswer_carryNamed s origin number) _ _ _
  | alertDismiss role origin number => exact .request (rangesAnswer_dismissNamed s origin number) _ _ _
  | siteSet role param value => exact .request (rangesAnswer_setSite s param value) _ _ _
  | configWriteTolerance role value =>
    simp only [runRequest, execConfigWriteTolerance]
    exact .request (.put (.setTolerance s _) _) _ _ _
  | configWriteFillPlayer role value =>
    simp only [runRequest, execConfigWriteFillPlayer]
    refine .request ?_ _ _ _
    split
    · exact .refused _
    · exact .put (by simp +contextual) _
  | configWriteCueGrace role value | configWriteThreshold role value | configWriteDeadAirLimit role value
  | configWriteDuckDepth role value | configWriteHoldLimit role value =>
    simp only [runRequest, execConfigWriteCueGrace, execConfigWriteThreshold, execConfigWriteDeadAirLimit,
      execConfigWriteDuckDepth, execConfigWriteHoldLimit]
    exact .request (.put (by simp) _) _ _ _
  | configWriteFoldBackLimit role value =>
    simp only [runRequest, execConfigWriteFoldBackLimit]
    exact .request (.put (by simp) _) _ _ _
  | configWriteCalibration role item value =>
    simp only [runRequest, execConfigWriteCalibration]
    refine .request ?_ _ _ _
    split
    · exact .put (by simp) _
    · exact .put (by simp) _
    · exact .refused _
  | clockSet role time => exact .request (rangesAnswer_setStationTime s time) _ _ _
  | controllerReset role =>
    simp only [runRequest, execControllerReset]
    exact .request (.accepted (keepsRanges_controllerReset s) _) _ _ _
  | eventsClear role pairs => exact .request (rangesAnswer_clearEvents s pairs) _ _ _
  | eventsMask role mask => exact .request (rangesAnswer_maskEvents s mask) _ _ _
  | roRead _ _ | roList _ _ _ | airStatus _ | playerRead _ _ | lookaheadRead _ _ | timingRead _ | busRead _
  | callerRead _ _ | queueRead _ | classRead _ _ | classProbe _ _ _ _ _ | alertRead _ _ _ | alertList _
  | carriageRead _ | siteRead _ | configRead _ | clockRead _ | ident _ | eventsRead _ =>
    simp only [runRequest, execRoRead, execRoList, execAirStatus, execPlayerRead, execLookaheadRead, execTimingRead,
      execBusRead, execCallerRead, execQueueRead, execClassRead, execClassProbe, execAlertRead, execAlertList,
      execCarriageRead, execSiteRead, execConfigRead, execClockRead, execIdent, execEventsRead]
    exact .readRequest _ _ _ _
  | _ => exact .same

theorem rangesNext_portWrite (bytes : List Byte) (s : State) : RangesNext s (portWrite bytes s) := by
  have hbad (st : Status) : RangesNext s (.next (s.answerBad bytes st)) := by
    refine .of_next ?_
    unfold State.answerBad
    split <;> simp
  unfold portWrite
  refine .ite (.of_next (by simp +contextual)) ?_
  split
  · exact hbad _
  · exact hbad _
  · exact rangesNext_runRequest _ s

theorem RangeFrame.portRead (clocked : Nat) (s : State) : RangeFrame s (portRead clocked s) := by
  unfold Machine.portRead
  split <;> simp

/-! ### Edges and timers -/

theorem keepsRanges_segue (s : State) (o : OnAir) (p : Fin 4) (k : AudioKind) : KeepsRanges s (s.segue o p k) := by
  have hfaded (n : Nat) : RangeFrame s (s.cutOutgoing.fadePlayer p n) := by simp +contextual
  have hair (t : State) (air : Air) : RangeFrame t { t with air := air } := by simp
  exact (keepsRanges_takeHead _ _).after (((hfaded _).trans (hair _ _)).trans (.releaseWith _ none true))

theorem keepsRanges_takeSegue (s : State) : KeepsRanges s s.takeSegue := by
  unfold State.takeSegue
  split
  · exact .same
  · dsimp only
    split
    · rename_i o _ _ p k _ _
      exact .ite ((keepsRanges_segue _ _ p k).after (by simp)) (.of_some (by simp))
    · exact .of_some (by simp)

theorem keepsRanges_takeCutInstant (s : State) : KeepsRanges s s.takeCutInstant := by
  unfold State.takeCutInstant
  split
  · exact keepsRanges_takeCut s _
  · exact .same

theorem keepsRanges_goEdge (s : State) : KeepsRanges s (s.takeGo.map Prod.fst) := fun t ht => by
  obtain ⟨⟨u, acted⟩, hu, rfl⟩ := Option.map_eq_some_iff.mp ht
  exact RangesKept.takeGo hu

theorem keepsRanges_takeEnd (s : State) (p : Fin 4) : KeepsRanges s (s.takeEnd p) :=
  .ite (keepsRanges_endOnAir s _) (.ite (keepsRanges_endOutgoing s) (.ite (.of_some (by simp)) .same))

/-! ### Every command, and the step -/

/-- Every command but the power-on reset keeps the ranges. -/
theorem rangesNext_exec (i : Instr) (hi : ∀ l, i ≠ .powerOnReset l) (s : State) : RangesNext s (exec i s) := by
  by_cases hreq : i.request?.isSome = true
  · exact exec_of_request hreq s ▸ rangesNext_runRequest i s
  cases i with
  | writeTransactionBad first bytes =>
    exact .ite (rangesNext_portWrite bytes s) (.ite (.of_next (.portRead _ s)) .same)
  | portOverrun bytes => exact rangesNext_portWrite bytes s
  | read clocked => exact .of_next (.portRead clocked s)
  | powerOnReset levels => exact absurd rfl (hi levels)
  | goEdge => exact .ite .same (.finish ((keepsRanges_goEdge _).after (by simp)))
  | netAEdge => exact .ite .same (.finish (.after (.ite (keepsRanges_startHead _) .same) (by simp)))
  | netBEdge => exact .ite .same (.finish (.after (.ite (keepsRanges_endOnAir _ _) .same) (by simp)))
  | endInput player => exact .finish (keepsRanges_takeEnd s player)
  | endTimer => exact .ite (.finish (keepsRanges_endOnAir s _)) .same
  | seguePoint => exact .ite (.finish (keepsRanges_takeSegue s)) .same
  | outgoingEnd => exact .ite (.finish (keepsRanges_endOutgoing s)) .same
  | graceDeadline => exact .ite (.finish ((keepsRanges_takeHead _ _).after (by simp +contextual))) .same
  | postInstant => exact .ite (.finish (keepsRanges_takePost s)) .same
  | cutInstant => exact .ite (.finish (keepsRanges_takeCutInstant s)) .same
  | cutCompletion player => exact .ite (.of_next (by simp +contextual)) .same
  | fillWithdrawalEnd player => exact .ite (.of_next (by simp +contextual)) .same
  | gainUpdate => exact .ite (.of_next (by simp)) .same
  | deadAirWindow => exact .ite (.of_kept (.judgeWindow s _ _)) .same
  | periodicTimer => exact .ite (.of_next (by simp +contextual)) .same
  | samplePeriod lanes talkback => exact .of_next (by simp)
  | cueInputFall input => cases input <;> exact .of_next (by simp)
  | ringEvent line =>
    have hring (c : Caller) : RangeFrame s ((s.putCaller line c).ringEvent line) :=
      ⟨by simp, fun h => State.ringEvent_inRange (s := s.putCaller line c) h line, by simp, by simp⟩
    exact .ite .same (.of_next (hring _))
  | ringFall line => exact .of_next (by simp)
  | loopEdge line level => exact .of_next (by simp)
  | loopDrop line =>
    exact .ite (.finish (.ite ((keepsRanges_clearCall _ line _).after (by simp +contextual)) .same)) .same
  | ringTimer line => exact .ite (.of_next (by simp)) .same
  | clearingTimer line => exact .ite (.of_next (by simp)) .same
  | holdTimer line => exact .ite (.of_next (.raised (by simp) _ _)) .same
  | issue frame => exact .finish ((keepsRanges_takeIssue _ frame).after_kept (.closeAlert s))
  | cancel origin number => exact .finish ((keepsRanges_takeCancel _ origin number).after_kept (.closeAlert s))
  | audioEnd => exact .finish ((keepsRanges_takeAudio _ _).after_kept (.closeAlert s))
  | audioFail => exact .finish ((keepsRanges_takeAudio _ _).after_kept (.closeAlert s))
  | alertFrameAbandoned bytes => exact .finish (.foldSteps keepsRanges_alertByte s bytes)
  | alertFrameGap => exact .ite (.of_kept (.abandonAlert s)) .same
  | alertFrameSent => exact .of_next (by simp)
  | validFrom slot => exact .ite (.finish (keepsRanges_makeEligible s slot _)) .same
  | expiry slot => exact .ite (.finish (keepsRanges_retire s slot _)) .same
  | nextEligible slot => exact .ite (.finish (keepsRanges_makeEligible s slot _)) .same
  | deadlineExpiry slot => exact .ite (.of_kept (.expireDeadline s slot)) .same
  | guardExpiry => exact .ite (.finish (keepsRanges_endCarriage s _)) .same
  | ack sequence param value =>
    exact .finish ((keepsRanges_validFrame _ fun t => .handleAck t _ _ _).after_kept (.closeSite s))
  | nak sequence reason =>
    exact .finish ((keepsRanges_validFrame _ fun t => .handleNak t _ _).after_kept (.closeSite s))
  | reading sequence channel code =>
    exact .finish ((keepsRanges_validFrame _ fun t => .handleReading t _ _ _).after_kept (.closeSite s))
  | siteState active carrier audio fallback =>
    exact .finish ((keepsRanges_validFrame _ fun t => .handleState t _ _ _ _).after_kept (.closeSite s))
  | siteFrameAbandoned bytes => exact .finish (.foldSteps keepsRanges_siteByte s bytes)
  | siteFrameGap => exact .ite (.of_kept (.abandonSite s)) .same
  | siteFrameSent => exact .of_next (by simp)
  | keepTimer => exact .ite (.of_next (by simp)) .same
  | pollTimer => exact .ite (.of_next (.nextPoll s)) .same
  | ackTimeout sequence =>
    change RangesNext s (execAckTimeout sequence s)
    unfold execAckTimeout
    split
    · exact .of_kept (.ackTimeout s _)
    · exact .same
  | retryTimer param => exact .ite (.of_kept (.retry s param)) .same
  | silenceTimerDegrade => exact .ite (.of_next (by simp)) .same
  | silenceTimerLoss => exact .ite (.of_next (by simp)) .same
  | changeoverTimer =>
    change RangesNext s (execChangeoverTimer s)
    unfold execChangeoverTimer
    split
    · exact .of_kept (.failChangeover s _)
    · exact .same
  | readingStale channel => exact .ite (.of_next (by simp)) .same
  | _ => exact absurd rfl hreq

/-- A tick advances station time modulo 2^40 (section 5.2), or takes up a due event. -/
theorem RangesKept.tick (s : State) : RangesKept s s.tick := by
  unfold State.tick
  split
  · exact ⟨fun _ => Nat.mod_lt _ (Nat.two_pow_pos 40), id⟩
  · exact .of_frame (by simp)
  · exact .of_frame (by simp)

/-- The power-on records hold station time 0 and no count. -/
theorem RangesKept.powerOnReset {l : PinLevels} {s t : State} (h : exec (.powerOnReset l) s = .next t) :
    RangesKept s t := by
  rw [powerOnResetLeavesResetState] at h
  obtain rfl := Host.Outcome.next.inj h
  obtain ⟨hstation, hcounts, -⟩ := resetMeetsSafety
  exact ⟨fun _ => hstation, fun _ => hcounts⟩

theorem RangesKept.step {s t : State} (ht : step s = .next t) : RangesKept s t := by
  unfold Machine.step at ht
  split at ht
  · obtain rfl := Host.Outcome.next.inj ht
    exact .tick s
  · rename_i i rest _
    refine RangesKept.trans (t := { s with pending := rest }) (.of_frame (by simp)) ?_
    by_cases hreset : ∃ l, i = .powerOnReset l
    · obtain ⟨l, rfl⟩ := hreset
      exact .powerOnReset ht
    · exact rangesNext_exec i (fun l hl => hreset ⟨l, hl⟩) _ t ht

/-- Settles O3: a tick advances station time modulo 2^40, CLOCK_SET refuses what is not below it, and no other command
but the power-on reset writes it. -/
theorem stepKeepsStationRange : Obligations.StepKeepsStationRange := fun _ _ hs ht => (RangesKept.step ht).1 hs

/-- Settles O4: every operation that raises an occurrence, or abandons a frame, counts no further than its bound. -/
theorem stepKeepsCountRanges : Obligations.StepKeepsCountRanges := fun _ _ hs ht => (RangesKept.step ht).2 hs

end Sys2Proof.Machine
end

section
/-! PROOFS. The command port: requests read back from their frames, WRITE and READ transactions, refusals by role and
over an unread response (O15 to O18). -/

namespace Sys2Proof.Machine

open Sys2Proof.Safety

/-! ### The fields of a request are read back (R198, R200 to R202) -/

theorem unpack_packed (ks vs : List Nat) (hlength : ks.length = vs.length)
    (hfits : ∀ p ∈ ks.zip vs, fits p.1 p.2 = true) : unpack ks (packFields (ks.zip vs)) = some vs := by
  have hread := unpack_packFields (ks.zip vs) hfits
  rwa [List.map_fst_zip hlength.le, List.map_snd_zip hlength.ge] at hread

theorem unpack1_packFields (f : Nat → Instr) {a : Nat} (h : fits 1 a = true) :
    unpack1 f (packFields [(1, a)]) = some (f a) := by
  have hread : unpack [1] (packFields [(1, a)]) = some [a] := unpack_packed [1] [a] rfl (by simpa using h)
  simp only [unpack1, hread]

theorem unpack2_packFields (f : Nat → Instr) {a : Nat} (h : fits 2 a = true) :
    unpack2 f (packFields [(2, a)]) = some (f a) := by
  have hread : unpack [2] (packFields [(2, a)]) = some [a] := unpack_packed [2] [a] rfl (by simpa using h)
  simp only [unpack2, hread]

theorem unpackTwo_packFields {j k : Nat} (f : Nat → Nat → Instr) {a b : Nat} (ha : fits j a = true)
    (hb : fits k b = true) : unpackTwo j k f (packFields [(j, a), (k, b)]) = some (f a b) := by
  have hread : unpack [j, k] (packFields [(j, a), (k, b)]) = some [a, b] :=
    unpack_packed [j, k] [a, b] rfl (by simp [ha, hb])
  simp only [unpackTwo, hread]

theorem fits_unsigned16 (v : Int) : fits 2 (unsigned16 v) = true := by
  have hrange := Int.emod_lt_of_pos v (show (0 : Int) < 65536 by decide)
  exact decide_eq_true (show (v % 65536).toNat < 65536 by omega)

/-- A signed value after a one-byte field is read back (R198). -/
theorem unpackTwo_signed (f : Nat → Int → Instr) {a : Nat} {v : Int} (ha : fits 1 a = true)
    (hv : fitsSigned v = true) :
    unpackTwo 1 2 (fun a n => f a (signed16 n)) (packFields [(1, a), (2, unsigned16 v)]) = some (f a v) := by
  rw [unpackTwo_packFields _ ha (fits_unsigned16 v), signed16_unsigned16 v hv]

theorem RawEntry.ofFields_toFields (e : RawEntry) : RawEntry.ofFields e.toFields = some e := rfl

theorem unpackEntry_packFields (f : Nat → RawEntry → Instr) {a : Nat} {e : RawEntry} (ha : fits 2 a = true)
    (he : e.wf = true) : unpackEntry f (packFields ((2, a) :: entryWidths.zip e.toFields)) = some (f a e) := by
  have hread : unpack (2 :: entryWidths) (packFields ((2, a) :: entryWidths.zip e.toFields)) = some (a :: e.toFields) :=
    unpack_packed (2 :: entryWidths) (a :: e.toFields) rfl (by
      simp only [RawEntry.wf, Bool.and_eq_true] at he
      simp [entryWidths, RawEntry.toFields, ha, he])
  simp only [unpackEntry, hread, RawEntry.ofFields_toFields, Option.map_some]

/-- A line, a name count and the name are read back with the bytes after them (R200). -/
theorem unpackName_packed {line : Nat} {name rest : List Byte} (hline : fits 1 line = true)
    (hname : name.length < 256) :
    unpackName (packFields [(1, line), (1, name.length)] ++ name ++ rest) = some (line, name, rest) := by
  have hline : line % 256 = line := Nat.mod_eq_of_lt (by simpa [fits] using hline)
  simp [packFields, be, unpackName, hline, Nat.mod_eq_of_lt hname]

/-- A CONFIG_WRITE of an item code outside 1..8 is the calibration items' (R190). -/
theorem configWrite_calibration (r : Role) {item : Nat} (value : Int) (h : ¬(1 ≤ item ∧ item ≤ 8)) :
    configWrite r item value = .configWriteCalibration r item value := by
  unfold configWrite
  split
  on_goal 9 => rfl
  all_goals omega

/-- The fields of a well-formed request, under its code, are read back as the request. -/
theorem decodeFields_of_request {i : Instr} (hwf : i.wf = true) {r : Role} {code : Nat} {fields : List Byte}
    (h : i.request? = some (r, code, fields)) : decodeFields r code fields = some i := by
  cases i with
  | airGo _ | airEndSegment _ | airHold _ | airResume _ | airStep _ | airStop _ | airStart _ | airStatus _
  | timingRead _ | busRead _ | queueRead _ | complianceLock _ | alertList _ | carriageRead _ | siteRead _
  | configRead _ | clockRead _ | ident _ | controllerReset _ | eventsRead _ =>
    cases h; rfl
  | breakClear _ _ | airMode _ _ | airHoldAtPoint _ _ | playerClear _ _ | playerRead _ _ | lookaheadRead _ _
  | lineAnswer _ _ | lineReject _ _ | lineRelease _ _ | lineTake _ _ | lineDrop _ _ | linePin _ _
  | callerRead _ _ | classRead _ _ =>
    cases h; exact unpack1_packFields _ hwf
  | roDelete _ _ | roRead _ _ | airCueTo _ _ => cases h; exact unpack2_packFields _ hwf
  | roList _ _ _ | micSwitch _ _ _ | lineService _ _ _ | queueMove _ _ _ | alertCarry _ _ _ | alertDismiss _ _ _
  | alertRead _ _ _ | siteSet _ _ _ =>
    cases h
    obtain ⟨ha, hb⟩ := Bool.and_eq_true_iff.mp hwf
    exact unpackTwo_packFields _ ha hb
  | busFader _ _ _ | busTrim _ _ _ =>
    cases h
    obtain ⟨hsource, hvalue⟩ := Bool.and_eq_true_iff.mp hwf
    exact unpackTwo_signed _ hsource hvalue
  | roInsert _ _ _ | roChange _ _ _ =>
    cases h
    obtain ⟨hhandle, hbody⟩ := Bool.and_eq_true_iff.mp hwf
    exact unpackEntry_packFields _ hhandle hbody
  | roMove r handle list anchor =>
    cases h
    have hread : unpack [2, 1, 2] (packFields [(2, handle), (1, list), (2, anchor)]) = some [handle, list, anchor] :=
      unpack_packed [2, 1, 2] [handle, list, anchor] rfl (by simpa [Instr.wf, and_assoc] using hwf)
    simp only [decodeFields, hread]
  | playerCue r player cart length =>
    cases h
    have hread : unpack [1, 4, 4] (packFields [(1, player), (4, cart), (4, length)]) = some [player, cart, length] :=
      unpack_packed [1, 4, 4] [player, cart, length] rfl (by simpa [Instr.wf, and_assoc] using hwf)
    simp only [decodeFields, hread]
  | classWrite r cls action deadline required | classProbe r cls action deadline required =>
    cases h
    have hread : unpack [1, 1, 2, 1] (packFields [(1, cls), (1, action), (2, deadline), (1, required)]) =
        some [cls, action, deadline, required] :=
      unpack_packed [1, 1, 2, 1] [cls, action, deadline, required] rfl (by simpa [Instr.wf, and_assoc] using hwf)
    simp only [decodeFields, hread]
  | clockSet r time =>
    cases h
    have hread : unpack [6] (packFields [(6, time)]) = some [time] :=
      unpack_packed [6] [time] rfl (by simpa [Instr.wf] using hwf)
    simp only [decodeFields, hread]
  | lineAccept r line name topic priority =>
    cases h
    simp only [Instr.wf, Bool.and_eq_true, decide_eq_true_eq] at hwf
    obtain ⟨⟨⟨hline, hname⟩, htopic⟩, hpriority⟩ := hwf
    simp only [decodeFields, unpackName_packed hline (show name.length < 256 by omega)]
    exact unpackTwo_packFields _ htopic hpriority
  | lineNotes r line name topic =>
    cases h
    simp only [Instr.wf, Bool.and_eq_true, decide_eq_true_eq] at hwf
    obtain ⟨⟨hline, hname⟩, htopic⟩ := hwf
    simp only [decodeFields, unpackName_packed hline (show name.length < 256 by omega)]
    exact unpack2_packFields _ htopic
  | configWriteTolerance _ _ | configWriteCueGrace _ _ | configWriteFillPlayer _ _ | configWriteThreshold _ _
  | configWriteDeadAirLimit _ _ | configWriteDuckDepth _ _ | configWriteHoldLimit _ _
  | configWriteFoldBackLimit _ _ =>
    cases h; exact unpackTwo_signed _ rfl hwf
  | configWriteCalibration r item value =>
    cases h
    simp only [Instr.wf, Bool.and_eq_true, Bool.not_eq_true', Bool.and_eq_false_iff, decide_eq_false_iff_not] at hwf
    obtain ⟨⟨hitem, hnamed⟩, hvalue⟩ := hwf
    refine (unpackTwo_signed _ hitem hvalue).trans (congrArg some (configWrite_calibration r value ?_))
    omega
  | eventsClear r pairs =>
    cases h
    simp only [Instr.wf, Bool.and_eq_true, decide_eq_true_eq, List.all_eq_true] at hwf
    obtain ⟨hlength, hpairs⟩ := hwf
    have hcount : pairs.length % 256 = pairs.length := Nat.mod_eq_of_lt (by omega)
    simp [decodeFields, be, unpackPairs_packPairs pairs fun p hp => hpairs p hp, hcount]
  | eventsMask r mask =>
    cases h
    simp [decodeFields, Vector.toList]
  | _ => cases h

/-- A well-formed request has a one-byte code and at most the 58 field bytes of the longest frame (R200). -/
theorem Instr.request_bounds {i : Instr} (hwf : i.wf = true) {r : Role} {code : Nat} {fields : List Byte}
    (h : i.request? = some (r, code, fields)) : code < 256 ∧ fields.length ≤ 58 := by
  cases i with
  | lineAccept r line name topic priority => exact (Laws.Request.lineAccept r line name topic priority hwf _ h).2
  | lineNotes r line name topic => exact (Laws.Request.lineNotes r line name topic hwf _ h).2
  | eventsClear r pairs => exact (Laws.Request.eventsClear r pairs hwf _ h).2
  | _ => cases h <;> simp [entryWidths, RawEntry.toFields]

/-- The frame of a well-formed request is taken apart into the length, the check, the role, the code and the fields
that it was put together from. -/
theorem decodeRequest_of_encode {i : Instr} {bytes : List Byte} (hwf : i.wf = true)
    (h : encodeRequest i = some bytes) : decodeRequest bytes = .request i := by
  obtain ⟨⟨r, code, fields⟩, hrequest, rfl⟩ := Option.map_eq_some_iff.mp h
  obtain ⟨hcode, hlength⟩ := Instr.request_bounds hwf hrequest
  have hfields := decodeFields_of_request hwf hrequest
  let covered := be 2 (fields.length + 4) ++ be 1 r.code ++ be 1 code ++ fields
  have hcovered : covered.length = fields.length + 4 := by simp [covered]; omega
  have hn : beNat ((covered ++ be 2 (crc covered)).take 2) = fields.length + 4 := by
    have hhead : (covered ++ be 2 (crc covered)).take 2 = be 2 (fields.length + 4) := by simp [covered, be]
    rw [hhead, beNat_be_of_fits _ _ (decide_eq_true (by omega))]
  have hcheck : beNat ((covered ++ be 2 (crc covered)).drop (fields.length + 4)) = crc covered := by
    rw [List.drop_left' hcovered, beNat_be_of_fits _ _ (decide_eq_true (crc_lt covered))]
  have htake : (covered ++ be 2 (crc covered)).take (fields.length + 4) = covered := List.take_left' hcovered
  have hrole : roleOf (beNat (((covered ++ be 2 (crc covered)).drop 2).take 1)) = some r := by
    have hbyte : ((covered ++ be 2 (crc covered)).drop 2).take 1 = be 1 r.code := by simp [covered, be]
    rw [hbyte, beNat_be_of_fits _ _ (by cases r <;> rfl), roleOf_code]
  have hreceived : beNat (((covered ++ be 2 (crc covered)).drop 3).take 1) = code := by
    have hbyte : ((covered ++ be 2 (crc covered)).drop 3).take 1 = be 1 code := by simp [covered, be]
    rw [hbyte, beNat_be_of_fits _ _ (decide_eq_true hcode)]
  have hrest : covered.drop 4 = fields := by simp [covered, be]
  have hframe : ¬((covered ++ be 2 (crc covered)).length < 2 ∨
      (covered ++ be 2 (crc covered)).length ≠ fields.length + 4 + 2 ∨ fields.length + 4 < 4 ∨
      62 < fields.length + 4) := by
    simp only [List.length_append, hcovered, be_length]
    omega
  change decodeRequest (covered ++ be 2 (crc covered)) = _
  simp only [decodeRequest, hn, hcheck, htake, hrole, hreceived, hrest, hfields, if_neg hframe, ne_eq,
    not_true_eq_false, if_false]

/-! ### WRITE (R187 to R189) -/

/-- A WRITE taken as the part is free to answer does what its frame's request does. -/
theorem portWrite_request {s : State} {i : Instr} {bytes : List Byte} (hfree : portFree s)
    (h : decodeRequest bytes = .request i) : portWrite bytes s = runRequest i s := by
  simp [portWrite, show s.port.response = none from hfree, h]

theorem portWrite_badRequest {s : State} {bytes : List Byte} (hfree : portFree s)
    (h : decodeRequest bytes = .badRequest) : portWrite bytes s = .next (s.answerBad bytes .badRequest) := by
  simp [portWrite, show s.port.response = none from hfree, h]

theorem portWrite_badCheck {s : State} {bytes : List Byte} (hfree : portFree s)
    (h : decodeRequest bytes = .badCheck) : portWrite bytes s = .next (s.answerBad bytes .badCheck) := by
  simp [portWrite, show s.port.response = none from hfree, h]

theorem portWrite_overrun {s : State} (hunread : s.port.response.isSome = true) (bytes : List Byte) :
    portWrite bytes s = .next (s.overrun bytes[3]?) := by
  simp [portWrite, hunread, receivedCode]

/-- A refusal of stages 1 to 3 carries the request code as received (R188). -/
theorem State.answerBad_received {bytes : List Byte} {c : Byte} (hc : bytes[3]? = some c) (s : State) (st : Status) :
    s.answerBad bytes st =
      { s with port := { response := some { code := c, status := st, fields := [] }, dataOut := .filler } } := by
  simp [State.answerBad, receivedCode, hc, State.answer, Reply.refuse]

/-- Fewer than four bytes hold no request: the length field calls for four at least (R188, stage 1). -/
theorem decodeRequest_short {bytes : List Byte} (h : bytes.length < 4) : decodeRequest bytes = .badRequest := by
  simp only [decodeRequest]
  exact if_pos (by omega)

/-- A refused frame of fewer than four bytes carries a free value in the code's place (log entry 5). -/
theorem State.answerBad_short {bytes : List Byte} (h : bytes.length < 4) (s : State) (st : Status) :
    s.answerBad bytes st = { s with
      port := { response := some { code := Config.missingCode s.freeUsed, status := st, fields := [] }
                dataOut := .filler }
      freeUsed := s.freeUsed + 1 } := by
  have hnone : bytes[3]? = none := List.getElem?_eq_none (by omega)
  simp [State.answerBad, receivedCode, hnone, State.answer, Reply.refuse, State.useFree]

/-- Settles O15: a WRITE is decoded, and the decoder reads back what the encoder wrote. -/
theorem writeTransactionsTaken : Obligations.WriteTransactionsTaken := by
  refine ⟨fun i bytes s hwf hbytes hfree => ?_, fun bytes c s hfree hc hbad => ?_, fun bytes c s hfree hc hbad => ?_,
    fun bytes s hfree hshort => ⟨Config.missingCode s.freeUsed, ?_⟩, fun first bytes s hwrite hread => ?_⟩
  · have hrequest : i.request?.isSome = true := by
      obtain ⟨q, hq, -⟩ := Option.map_eq_some_iff.mp hbytes
      exact Option.isSome_of_eq_some hq
    exact (portWrite_request hfree (decodeRequest_of_encode hwf hbytes)).trans (exec_of_request hrequest s).symm
  · exact (portWrite_badRequest hfree hbad).trans (congrArg _ (s.answerBad_received hc _))
  · exact (portWrite_badCheck hfree hbad).trans (congrArg _ (s.answerBad_received hc _))
  · exact (portWrite_badRequest hfree (decodeRequest_short hshort)).trans (congrArg _ (s.answerBad_short hshort _))
  · exact (if_neg hwrite).trans (if_neg hread)

/-! ### Refusals by role and over an unread response (R188, R189) -/

/-- Settles O16: every request is `request` under the roles of the permission table. -/
theorem unpermittedRoleRefused : Obligations.UnpermittedRoleRefused := by
  intro i role code fields s hi hrole hfree
  obtain ⟨owner, howner⟩ := Instr.exec_request i role code fields hi
  rw [howner]
  exact request_role hfree (by simpa using hrole)

/-- Settles O17: every request, and every WRITE given as bytes, is discarded by the port itself. -/
theorem writeOverUnreadResponseDiscarded : Obligations.WriteOverUnreadResponseDiscarded := by
  intro s hunread
  refine ⟨fun i role code fields hi => Instr.exec_overrun i role code fields hi s hunread, fun bytes => ?_,
    fun d => ⟨rfl, hunread⟩⟩
  exact ⟨portWrite_overrun hunread bytes, portWrite_overrun hunread bytes⟩

/-! ### READ (R187, R200) -/

theorem clockedOut_length (frame : List Byte) (n : Nat) : (clockedOut frame n).length = n := by
  simp only [clockedOut, List.length_append, List.length_take, List.length_replicate]
  omega

theorem clockedOut_take (frame : List Byte) (n : Nat) :
    (clockedOut frame n).take frame.length = frame.take n := by
  have hnone : min (frame.length - min n frame.length) (n - frame.length) = 0 := by omega
  simpa [clockedOut, List.take_append, List.take_take, hnone] using Nat.min_comm _ _

/-- After the frame there is filler alone. -/
theorem clockedOut_drop (frame : List Byte) (n : Nat) :
    ∀ b ∈ (clockedOut frame n).drop frame.length, b = 0xFF#8 := by
  intro b hb
  rw [clockedOut, List.drop_append, List.drop_of_length_le (by simp), List.nil_append] at hb
  exact List.eq_of_mem_replicate (List.mem_of_mem_drop hb)

/-- Settles O18: what is clocked out is the frame cut to the clocked length, then filler. -/
theorem readClocksOutResponse : Obligations.ReadClocksOutResponse := by
  intro n s
  refine ⟨fun r hr => ⟨clockedOut r.frame n, ?_, clockedOut_length _ n, clockedOut_take _ n, clockedOut_drop _ n⟩,
    fun hr => ⟨clockedOut [0x00#8] n, ?_, clockedOut_length _ n, fun hn => ?_, clockedOut_drop [0x00#8] n⟩⟩
  · change Host.Outcome.next (portRead n s) = _
    simp only [portRead, hr]
  · change Host.Outcome.next (portRead n s) = _
    simp only [portRead, hr]
  · obtain ⟨m, rfl⟩ := Nat.exists_eq_add_of_lt hn
    simp [clockedOut]

end Sys2Proof.Machine
end

section
/-! PROOFS. Configuration, the clock and the event summary: CONFIG_WRITE (O59), CLOCK_SET (O60), EVENTS_CLEAR and
EVENTS_MASK (O20). -/

namespace Sys2Proof.Machine

open Sys2Proof.Safety

/-! ### CONFIG_WRITE (R190) -/

theorem clampNat_cast {lo hi : Nat} (h : lo ≤ hi) (v : Int) : (clampNat lo hi v : Int) = max (lo : Int) (min hi v) := by
  rw [clampNat, clampInt_eq (by omega)]
  omega

/-- An item that its owner stores, answered under the code of CONFIG_WRITE. -/
theorem request_configured {s u : State} {owner : State → Option (State × Reply)} {f : State → List Byte}
    (hfree : portFree s) (ho : owner s = accepted (some u) f) :
    request 0x70 .engineer roleEngineer s owner = .next (u.answer 0x70 (.ok (f u))) :=
  request_owner hfree rfl ho

/-- An item that is refused with BAD_FIELD. -/
theorem request_config_refused {s : State} {owner : State → Option (State × Reply)} (hfree : portFree s)
    (ho : owner s = refused s .badField) :
    request 0x70 .engineer roleEngineer s owner = .next (s.answer 0x70 { status := .badField, fields := [] }) :=
  request_owner hfree rfl ho

theorem State.setTolerance_tolerance (s : State) (v : Nat) : (s.setTolerance v).timer.tolerance = v := by
  simp [State.setTolerance]

/-- A test of the POWER match afresh and a filling of the table write no offset (R172, R173). -/
theorem State.retested_writes (s t : State) :
    WritesFlight t (if t.activeCal = s.activeCal then t else t.retestPower).fillTable := by
  refine WritesFlight.trans ?_ (State.fillTable_writes _)
  split
  · exact .refl t
  · exact .of_params (.retestPower t)

theorem WritesFlight.calibration {s t : State} (h : WritesFlight s t) :
    t.site.calMain = s.site.calMain ∧ t.site.calReserve = s.site.calReserve := by
  rw [h.site_eq]
  exact ⟨rfl, rfl⟩

theorem State.setCalibration_main (s : State) (v : Int) :
    (s.setCalibration false v).site.calMain = v ∧ (s.setCalibration false v).site.calReserve = s.site.calReserve :=
  (s.retested_writes { s with site := { s.site with calMain := v } }).calibration

theorem State.setCalibration_reserve (s : State) (v : Int) :
    (s.setCalibration true v).site.calMain = s.site.calMain ∧ (s.setCalibration true v).site.calReserve = v :=
  (s.retested_writes { s with site := { s.site with calReserve := v } }).calibration

/-- A calibration offset leaves every block but the site-link unit. -/
theorem State.setCalibration_site (s : State) (reserve : Bool) (v : Int) :
    s.setCalibration reserve v = { s with site := (s.setCalibration reserve v).site } := by
  cases reserve
  · exact (s.retested_writes { s with site := { s.site with calMain := v } }).site
  · exact (s.retested_writes { s with site := { s.site with calReserve := v } }).site

/-- A designation that takes effect stands, and none is pending: fill's withdrawal and its start write neither. -/
theorem State.designate_fill (s : State) (new : Option (Fin 4)) :
    (s.designate new).air.fillPlayer = new ∧ (s.designate new).air.fillPending = none := by
  have hfill (c : Prop) [Decidable c] (u : State) (hu : u.air.fillPlayer = new ∧ u.air.fillPending = none) :
      (if c then u.fillCued.startFill else u.fillCued).air.fillPlayer = new ∧
        (if c then u.fillCued.startFill else u.fillCued).air.fillPending = none := by
    split <;> simpa using hu
  unfold State.designate
  dsimp only
  split
  · exact ⟨rfl, rfl⟩
  · split
    · exact hfill _ _ ⟨rfl, rfl⟩
    · exact hfill _ _ (by split <;> simp)

theorem State.setFill_none (s : State) :
    (s.setFill none).air.fillPlayer = none ∧ (s.setFill none).air.fillPending = none := by
  simp [State.setFill, State.designate_fill]

theorem State.setFill_free {s : State} {p : Fin 4} (h : (s.player p).onAirForEntry = false) :
    (s.setFill (some p)).air.fillPlayer = some p ∧ (s.setFill (some p)).air.fillPending = none := by
  simp [State.setFill, h, State.designate_fill]

theorem State.setFill_held {s : State} {p : Fin 4} (h : (s.player p).onAirForEntry = true) :
    (s.setFill (some p)).air.fillPlayer = s.air.fillPlayer ∧ (s.setFill (some p)).air.fillPending = some p := by
  simp [State.setFill, h]

/-- A designation of a fill player value in 0..4 is handed to its owners (R190). -/
theorem exec_fillPlayer {s : State} {v : Int} {new : Option (Fin 4)} (hfree : portFree s)
    (h : readFill v = some new) : ∃ t, exec (.configWriteFillPlayer .engineer v) s = .next t ∧
      t.air = (s.setFill new).air :=
  ⟨_, (request_configured hfree (by simp only [h]; rfl) : execConfigWriteFillPlayer .engineer v s = _), rfl⟩

theorem readFill_zero : readFill 0 = some none := rfl

theorem readFill_player (p : Fin 4) : readFill ((p.val : Int) + 1) = some (some p) := by
  revert p; decide

theorem readFill_refused {v : Int} (h : v < 0 ∨ 4 < v) : readFill v = none := by
  unfold readFill
  rw [if_neg (by omega), if_neg (by omega)]

/-- Settles O59: each item's owner stores the clamped value, and the calibration and the fill player do what R172 and
R45 add. -/
theorem configurationClampedAndStored : Obligations.ConfigurationClampedAndStored := by
  intro s v hfree
  refine ⟨?tolerance, ?cueGrace, ?threshold, ?deadAirLimit, ?duckDepth, ?holdLimit, ?foldBackLimit, ?main, ?reserve,
    ?noItem, ?badFill, ?noFill, ?freeFill, ?heldFill⟩
  case tolerance =>
    refine ⟨_, (request_configured hfree rfl : execConfigWriteTolerance .engineer v s = _), ?_⟩
    simp [State.setTolerance_tolerance, clampNat_cast]
  case cueGrace =>
    exact ⟨_, (request_configured hfree rfl : execConfigWriteCueGrace .engineer v s = _),
      clampNat_cast (by decide) v, rfl⟩
  case threshold =>
    exact ⟨_, (request_configured hfree rfl : execConfigWriteThreshold .engineer v s = _),
      clampInt_eq (by decide) v, rfl⟩
  case deadAirLimit =>
    exact ⟨_, (request_configured hfree rfl : execConfigWriteDeadAirLimit .engineer v s = _),
      clampNat_cast (by decide) v, rfl⟩
  case duckDepth =>
    exact ⟨_, (request_configured hfree rfl : execConfigWriteDuckDepth .engineer v s = _),
      clampNat_cast (by decide) v, rfl⟩
  case holdLimit =>
    exact ⟨_, (request_configured hfree rfl : execConfigWriteHoldLimit .engineer v s = _),
      clampNat_cast (by decide) v, rfl⟩
  case foldBackLimit =>
    exact ⟨_, (request_configured hfree rfl : execConfigWriteFoldBackLimit .engineer v s = _),
      clampNat_cast (by decide) v, rfl⟩
  case main =>
    obtain ⟨hmain, hreserve⟩ := s.setCalibration_main (clampInt (-128) 127 v)
    exact ⟨_, (request_configured hfree rfl : execConfigWriteCalibration .engineer 9 v s = _),
      hmain.trans (clampInt_eq (by decide) v), hreserve,
      congrArg (fun t => State.answer t 0x70 _) (s.setCalibration_site false _)⟩
  case reserve =>
    obtain ⟨hmain, hreserve⟩ := s.setCalibration_reserve (clampInt (-128) 127 v)
    exact ⟨_, (request_configured hfree rfl : execConfigWriteCalibration .engineer 10 v s = _),
      hreserve.trans (clampInt_eq (by decide) v), hmain,
      congrArg (fun t => State.answer t 0x70 _) (s.setCalibration_site true _)⟩
  case noItem =>
    intro item hitem
    refine (request_config_refused hfree ?_ : execConfigWriteCalibration .engineer item v s = _)
    split
    · omega
    · omega
    · rfl
  case badFill =>
    intro hv
    exact (request_config_refused hfree (by simp only [readFill_refused hv]) :
      execConfigWriteFillPlayer .engineer v s = _)
  case noFill =>
    obtain ⟨t, ht, hair⟩ := exec_fillPlayer hfree readFill_zero
    exact ⟨t, ht, by rw [hair]; exact s.setFill_none⟩
  case freeFill =>
    intro p hp
    obtain ⟨t, ht, hair⟩ := exec_fillPlayer hfree (readFill_player p)
    exact ⟨t, ht, by rw [hair]; exact State.setFill_free hp⟩
  case heldFill =>
    intro p hp
    obtain ⟨t, ht, hair⟩ := exec_fillPlayer hfree (readFill_player p)
    exact ⟨t, ht, by rw [hair]; exact State.setFill_held hp⟩

/-! ### CLOCK_SET (R191) -/

theorem foldSteps_same {α : Type} {f : α → State → Option State} {s : State} (h : ∀ a, f a s = some s)
    (l : List α) : foldSteps f l s = some s := by
  induction l with
  | nil => rfl
  | cons a rest ih => rw [foldSteps, h a, Option.bind_some, ih]

theorem PostWatch.armed?_none {w : PostWatch} (h : ∀ v, w ≠ .armed v) : w.armed? = none := by
  cases w with
  | armed v => exact absurd rfl (h v)
  | _ => rfl

/-- With no watch armed, no alert stored and no entry DEFERRED, the new station time is handed to the back-timer
alone. -/
theorem State.setClock_idle {s : State} (time : Nat) (hwatch : ∀ w, s.air.watch ≠ .armed w)
    (halerts : ∀ k : Fin 8, s.alert? k = none) (hdeferred : ∀ k : Fin 8, (s.sched? k).eligibility ≠ .deferred) :
    s.setClock time =
      some (State.compute { s with clock := { s.clock with station := time, unset := false } }) := by
  let t : State := { s with clock := { s.clock with station := time, unset := false } }
  have hwatched : t.watchClock = some t := by simp [State.watchClock, t, PostWatch.armed?_none hwatch]
  have halert (k : Fin 8) : t.compute.alertClock k = some t.compute := by
    have hnone : t.compute.alert? k = none := (State.alert?_congr (by simp [t]) k).trans (halerts k)
    simp [State.alertClock, hnone]
  have hsched (k : Fin 8) : t.compute.schedClock k = some t.compute := by
    have hkept : t.compute.sched? k = s.sched? k := State.sched?_congr (by simp [t]) k
    simp [State.schedClock, State.eligibleDue, hkept, hdeferred k]
  change ((t.watchClock.map State.compute).bind (foldSteps State.alertClock allSlots)).bind
    (foldSteps State.schedClock allSlots) = _
  rw [hwatched, Option.map_some, Option.bind_some, foldSteps_same halert, Option.bind_some, foldSteps_same hsched]

/-- Settles O60. -/
theorem clockSetMovesStationTime : Obligations.ClockSetMovesStationTime := by
  intro s time hfree
  refine ⟨fun htime hwatch halerts hdeferred => ?_, fun htime => ?_⟩
  · let t : State := { s with clock := { s.clock with station := time, unset := false } }
    have howner : setStationTime time s = some (t.compute, .ok (timeB time)) := by
      have hrange : ¬Config.stationModulus ≤ time := Nat.not_le.mpr htime
      rw [setStationTime, if_neg hrange, s.setClock_idle time hwatch halerts hdeferred]
      rfl
    refine ⟨t.compute.answer 0x72 (.ok (timeB time)), request_owner hfree rfl howner, ?_⟩
    obtain ⟨hstamp, -⟩ := t.compute_stamp
    have hrecord : (t.compute.answer 0x72 (.ok (timeB time))).timer.record.t0 = time := hstamp
    have hresponse : (t.compute.answer 0x72 (.ok (timeB time))).port.response =
        some { code := 0x72#8, status := .ok, fields := be 6 time } := rfl
    simp only [hrecord, hresponse]
    simp [t]
  · exact request_owner hfree rfl (if_pos htime)

/-! ### EVENTS_CLEAR (R196) -/

/-- A number that names an occurrence is the place of that event in the event table (R195). -/
theorem occurrenceOf_eq_some {n : Nat} {o : Occurrence} (h : occurrenceOf n = some o) :
    n ≠ 0 ∧ eventTable[n - 1]? = some (.occurrence o) := by
  unfold occurrenceOf eventOf at h
  split at h
  · rename_i p hp
    cases h
    split at hp
    · cases hp
    · exact ⟨‹_›, hp⟩
  · cases h
  · cases h

/-- The event table names no occurrence twice. -/
theorem occurrenceOf_injective {m n : Nat} {o : Occurrence} (hm : occurrenceOf m = some o)
    (hn : occurrenceOf n = some o) : m = n := by
  obtain ⟨hm0, hm⟩ := occurrenceOf_eq_some hm
  obtain ⟨hn0, hn⟩ := occurrenceOf_eq_some hn
  have hnodup : eventTable.Nodup := by decide
  have hlt : m - 1 < eventTable.length := (List.getElem?_eq_some_iff.mp hm).1
  have hplaces : m - 1 = n - 1 := (List.getElem?_inj hlt hnodup).mp (hm.trans hn.symm)
  omega

theorem State.clearPair_events (s : State) (p : Nat × Nat) :
    s.clearPair p = { s with events := { s.events with records := (s.clearPair p).events.records } } := by
  unfold State.clearPair
  split <;> rfl

/-- A pair clears the record of the occurrence it names. -/
theorem State.clearPair_named (s : State) {p : Nat × Nat} {o : Occurrence} (h : occurrenceOf p.1 = some o) :
    (s.clearPair p).occurrence o = (s.occurrence o).cleared p.2 := by
  simp only [State.clearPair, h]
  exact (s.occurrence_put o o _).trans (if_pos rfl)

/-- A pair leaves the record of every occurrence but the one it names. -/
theorem State.clearPair_other (s : State) {p : Nat × Nat} {o : Occurrence} (h : occurrenceOf p.1 ≠ some o) :
    (s.clearPair p).occurrence o = s.occurrence o := by
  unfold State.clearPair
  split
  · rfl
  · rename_i q hq
    exact (s.occurrence_put q o _).trans (if_neg fun heq => h (by rw [heq]; exact hq))

theorem clearPairs_events (pairs : List (Nat × Nat)) (s : State) :
    pairs.foldl State.clearPair s =
      { s with events := { s.events with records := (pairs.foldl State.clearPair s).events.records } } :=
  foldl_keeps (P := fun t : State => t = { s with events := { s.events with records := t.events.records } })
    (fun p t ht => (t.clearPair_events p).trans (by rw [ht])) rfl

/-- An occurrence that no pair names keeps its record. -/
theorem clearPairs_other {o : Occurrence} {pairs : List (Nat × Nat)} (h : ∀ p ∈ pairs, occurrenceOf p.1 ≠ some o)
    (s : State) : (pairs.foldl State.clearPair s).occurrence o = s.occurrence o := by
  induction pairs generalizing s with
  | nil => rfl
  | cons p rest ih =>
    rw [List.foldl_cons, ih (fun q hq => h q (List.mem_cons_of_mem p hq)), s.clearPair_other (h p List.mem_cons_self)]

theorem distinctNumbers_cons {n : Nat} {rest : List Nat} (h : distinctNumbers (n :: rest) = true) :
    n ∉ rest ∧ distinctNumbers rest = true := by
  simpa [distinctNumbers] using h

/-- Where no number stands twice, a named occurrence's record is cleared once, by its own pair. -/
theorem clearPairs_named {o : Occurrence} {n k : Nat} {pairs : List (Nat × Nat)}
    (hdistinct : distinctNumbers (pairs.map Prod.fst) = true) (hmem : (n, k) ∈ pairs) (hn : occurrenceOf n = some o)
    (s : State) : (pairs.foldl State.clearPair s).occurrence o = (s.occurrence o).cleared k := by
  induction pairs generalizing s with
  | nil => cases hmem
  | cons p rest ih =>
    obtain ⟨hnot, hrest⟩ := distinctNumbers_cons hdistinct
    rw [List.foldl_cons]
    obtain rfl | hmem := List.mem_cons.mp hmem
    · have hother (q : Nat × Nat) (hq : q ∈ rest) : occurrenceOf q.1 ≠ some o := fun hqo =>
        hnot (List.mem_map.mpr ⟨q, hq, occurrenceOf_injective hqo hn⟩)
      rw [clearPairs_other hother, s.clearPair_named hn]
    · have hp : occurrenceOf p.1 ≠ some o := fun hpo =>
        hnot (List.mem_map.mpr ⟨(n, k), hmem, occurrenceOf_injective hn hpo⟩)
      rw [ih hrest hmem, s.clearPair_other hp]

/-! ### EVENTS_MASK and ATTN (R194) -/

/-- ATTN is asserted by an event of the table that is pending and not masked. -/
theorem State.attn_iff (s : State) : s.attn = true ↔
    ∃ k : Fin 24, ∃ e, eventTable[k.val]? = some e ∧ s.eventPending e = true ∧ s.events.mask[k] = false := by
  have hmask (k : Fin 24) : s.events.mask.toList[k.val]? = some s.events.mask[k] := by
    simp
  rw [State.attn, List.any_eq_true]
  constructor
  · rintro ⟨⟨b, m⟩, hmem, hbm⟩
    obtain ⟨i, hi⟩ := List.mem_iff_getElem?.mp hmem
    obtain ⟨hb, hm⟩ := List.getElem?_zip_eq_some.mp hi
    obtain ⟨e, he, rfl⟩ := Option.map_eq_some_iff.mp (List.getElem?_map .. ▸ hb)
    have hlt : i < 24 := by simpa using (List.getElem?_eq_some_iff.mp hm).1
    have hunmasked := (hmask ⟨i, hlt⟩).symm.trans hm
    simp only [Bool.and_eq_true, Bool.not_eq_true'] at hbm
    obtain ⟨hpending, rfl⟩ := hbm
    exact ⟨⟨i, hlt⟩, e, he, hpending, Option.some.inj hunmasked⟩
  · rintro ⟨k, e, he, hpending, hclear⟩
    refine ⟨(true, false), List.mem_iff_getElem?.mpr ⟨k.val, List.getElem?_zip_eq_some.mpr ⟨?_, ?_⟩⟩, rfl⟩
    · rw [State.pendingSet, List.getElem?_map, he, Option.map_some, hpending]
    · rw [hmask, hclear]

/-- Settles O20: each pair clears its own occurrence once, and a mask is read by ATTN alone. -/
theorem eventsClearedAndMasked : Obligations.EventsClearedAndMasked := by
  intro role s hfree
  have hrole : roleAll.contains role = true := by cases role <;> rfl
  refine ⟨fun pairs hclear => ?_, fun mask => ?_⟩
  · let t := pairs.foldl State.clearPair s
    have howner : clearEvents pairs s = some (t, .ok (pendingB t)) := if_pos hclear
    have hdistinct : distinctNumbers (pairs.map Prod.fst) = true := by
      simp only [clearable, Bool.and_eq_true] at hclear
      exact hclear.2
    have hevents : t = { s with events := { s.events with records := t.events.records } } := clearPairs_events pairs s
    have hmask : t.events.mask = s.events.mask := (congrArg (fun u : State => u.events.mask) hevents).trans rfl
    refine ⟨t.answer 0x77 (.ok (pendingB t)), (request_owner hfree hrole howner : execEventsClear role pairs s = _), ?_,
      hmask, fun n k o hmem hn => ?_, fun o hother => ?_⟩
    · exact congrArg
        (fun u : State => { u with events := t.events, port := (t.answer 0x77 (.ok (pendingB t))).port }) hevents
    · exact clearPairs_named hdistinct hmem hn s
    · exact clearPairs_other (fun p hp => hother p.1 p.2 hp) s
  · let t : State := { s with events := { s.events with mask := mask.map fun b => decide (b ≠ 0) } }
    have howner : maskEvents mask s = some (t, .ok (maskB t ++ pendingB t)) := rfl
    have hmask (k : Fin 24) : (t.answer 0x78 (.ok (maskB t ++ pendingB t))).events.mask[k] = decide (mask[k] ≠ 0) := by
      simp [t]
    refine ⟨t.answer 0x78 (.ok (maskB t ++ pendingB t)),
      (request_owner hfree hrole howner : execEventsMask role mask s = _), rfl, fun k => ?_, ?_⟩
    · exact hmask k
    · refine (State.attn_iff _).trans (exists_congr fun k => exists_congr fun e => ?_)
      have hpending (e : Event) : (t.answer 0x78 (.ok (maskB t ++ pendingB t))).eventPending e = s.eventPending e := by
        cases e <;> rfl
      rw [hpending, hmask k]
      simp

end Sys2Proof.Machine
end

section
/-! PROOFS. The completion of a controller reset (O13): in the silence that the blocks' resets leave, the rebuild, the
resumed alert, the placements and the offer come to rest and keep the blocks but for the alert that they carry. -/

namespace Sys2Proof.Machine

open Sys2Proof.Safety

/-! ### What the completion of a reset keeps (R193, step 3) -/

/-- What a reset keeps of an alert's record (R150). -/
def Alert.kept (a : Alert) : IssueFrame × Nat × Nat × Nat × Bool × Nat :=
  (a.frame, a.carried, a.failed, a.rank, a.operatorCarry, a.storedAt)

/-- What the rebuild, the resumed alert, the placements and the offer of a reset leave as it was; of the sequencer's
states they bring PREEMPTED alone. -/
structure ResetFrame (s t : State) : Prop where
  rest : t.clock = s.clock ∧ t.store = s.store ∧ t.port = s.port ∧ t.pending = s.pending ∧ t.bus = s.bus ∧
    t.events.mask = s.events.mask ∧ t.timer.tolerance = s.timer.tolerance
  air : t.air.mode = s.air.mode ∧ t.air.onAir = s.air.onAir ∧ t.air.outgoing = s.air.outgoing ∧
    t.air.players = s.air.players ∧ t.air.fillPlayer = s.air.fillPlayer ∧ t.air.fillPending = s.air.fillPending ∧
    t.air.cueGrace = s.air.cueGrace
  state : t.air.state = s.air.state ∨ t.air.state = .preempted
  callers : ∀ l, t.caller l = s.caller l
  lines : t.lines.queue = s.lines.queue ∧ t.lines.holdLimit = s.lines.holdLimit ∧
    (s.lines.segment = none → t.lines.segment = none)
  receiver : t.receiver.classes = s.receiver.classes ∧ t.receiver.lock = s.receiver.lock ∧
    t.receiver.discards = s.receiver.discards ∧ t.receiver.lastRetirement = s.receiver.lastRetirement
  alerts : ∀ k, (t.alert? k).map Alert.kept = (s.alert? k).map Alert.kept
  site : t.site.link = s.site.link ∧ t.site.report = s.site.report ∧ t.site.readings = s.site.readings ∧
    t.site.discards = s.site.discards ∧ t.site.foldLimit = s.site.foldLimit ∧ t.site.calMain = s.site.calMain ∧
    t.site.calReserve = s.site.calReserve
  params : ∀ p, (t.param p).confirmed = (s.param p).confirmed ∧
    (p ≠ .alertFlag → (t.param p).desired = (s.param p).desired)

/-- Silence as a reset leaves it: no entry on air or outgoing, no fill for POST_WAIT and no caller ON_AIR. -/
structure Silent (s : State) : Prop where
  onAir : s.air.onAir = none
  outgoing : s.air.outgoing = none
  state : s.air.state = .stopped ∨ s.air.state = .preempted
  fill : s.bus.fillPostWait = false
  lines : ∀ l, (s.caller l).state ≠ .onAir

theorem ResetFrame.trans {s t u : State} (h : ResetFrame s t) (k : ResetFrame t u) : ResetFrame s u := by
  obtain ⟨hrest, hair, hstate, hcallers, hlines, hreceiver, halerts, hsite, hparams⟩ := h
  obtain ⟨krest, kair, kstate, kcallers, klines, kreceiver, kalerts, ksite, kparams⟩ := k
  refine ⟨?_, ?_, ?_, fun l => (kcallers l).trans (hcallers l), ?_, ?_,
    fun j => (kalerts j).trans (halerts j), ?_, fun p => ?_⟩
  · simp [krest, hrest]
  · simp [kair, hair]
  · obtain hk | hk := kstate
    · rwa [hk]
    · exact .inr hk
  · simp_all
  · simp [kreceiver, hreceiver]
  · simp [ksite, hsite]
  · simp_all

theorem ResetFrame.silent {s t : State} (h : ResetFrame s t) (hs : Silent s) : Silent t := by
  obtain ⟨⟨-, -, -, -, hbus, -, -⟩, ⟨-, honAir, houtgoing, -, -, -, -⟩, hstate, hcallers, -, -, -, -, -⟩ := h
  obtain ⟨sonAir, soutgoing, sstate, sfill, slines⟩ := hs
  refine ⟨honAir.trans sonAir, houtgoing.trans soutgoing, ?_, by rw [hbus, sfill], fun l => ?_⟩
  · obtain ht | ht := hstate
    · rwa [ht]
    · exact .inr ht
  · rw [hcallers]
    exact slines l

/-- What leaves the lines, the receiver and the site-link unit whole. -/
theorem ResetFrame.of_blocks {s t : State}
    (hrest : t.clock = s.clock ∧ t.store = s.store ∧ t.port = s.port ∧ t.pending = s.pending ∧ t.bus = s.bus ∧
      t.events.mask = s.events.mask ∧ t.timer.tolerance = s.timer.tolerance)
    (hair : t.air.mode = s.air.mode ∧ t.air.onAir = s.air.onAir ∧ t.air.outgoing = s.air.outgoing ∧
      t.air.players = s.air.players ∧ t.air.fillPlayer = s.air.fillPlayer ∧ t.air.fillPending = s.air.fillPending ∧
      t.air.cueGrace = s.air.cueGrace)
    (hstate : t.air.state = s.air.state ∨ t.air.state = .preempted)
    (hblocks : t.lines = s.lines ∧ t.receiver = s.receiver ∧ t.site = s.site) : ResetFrame s t := by
  obtain ⟨hlines, hreceiver, hsite⟩ := hblocks
  exact ⟨hrest, hair, hstate, fun l => State.caller_congr hlines l, by simp [hlines], by simp [hreceiver],
    fun k => congrArg _ (State.alert?_congr hreceiver k), by simp [hsite],
    fun p => by simp [State.param_congr hsite p]⟩

theorem ResetFrame.refl (s : State) : ResetFrame s s := .of_blocks (by simp) (by simp) (.inl rfl) (by simp)

theorem ResetFrame.rebuild (s : State) : ResetFrame s s.rebuild := .of_blocks (by simp) (by simp) (by simp) (by simp)

theorem ResetFrame.putSched (s : State) (k : Fin 8) (e : SchedEntry) : ResetFrame s (s.putSched k e) :=
  .of_blocks (by simp) (by simp) (by simp) (by simp)

theorem ResetFrame.withdrawPlaced (s : State) (k : Fin 8) : ResetFrame s (s.withdrawPlaced k) := by
  unfold State.withdrawPlaced
  split
  · exact .refl s
  · split
    · exact .of_blocks (by simp) (by simp) (by simp) (by simp)
    · exact .refl s

theorem ResetFrame.passDeadline (s : State) (k : Fin 8) : ResetFrame s (s.passDeadline k) :=
  (ResetFrame.putSched s k _).trans (.withdrawPlaced _ k)

/-- A record written in its place that keeps what a reset keeps of it. -/
theorem State.putAlert_kept {s : State} {k : Fin 8} {a b : Alert} (ha : s.alert? k = some a) (hb : b.kept = a.kept)
    (j : Fin 8) : ((s.putAlert k (some b)).alert? j).map Alert.kept = (s.alert? j).map Alert.kept := by
  rw [State.alert?_putAlert]
  split
  · rename_i h
    rw [h, ha, Option.map_some, Option.map_some, hb]
  · rfl

/-- A record that becomes ELIGIBLE keeps what a reset keeps of it. -/
theorem ResetFrame.enterEligible {s : State} {k : Fin 8} {a : Alert} (ha : s.alert? k = some a) (passed : Bool) :
    ResetFrame s (s.enterEligible k a passed) :=
  ⟨by simp, by simp, by simp, fun l => State.caller_congr (by simp) l, by simp, ⟨rfl, rfl, rfl, rfl⟩,
    fun j => State.putAlert_kept
      (b := { a with state := .waiting, waitingSince := some s.clock.mono, nextEligible := none }) ha rfl j, by simp,
    fun p => by simp [State.param_congr (s := s) (t := s.enterEligible k a passed) (by simp) p]⟩

/-- In silence the sequencer waits for nothing, so that a changed head is not taken (R50). -/
theorem settleHead_silent {before s : State} (hs : Silent s) : settleHead before s = some s := by
  have hwait : s.air.state.isWait = false := by
    obtain h | h := hs.state <;> rw [h] <;> rfl
  simp [settleHead, hwait]

theorem ResetFrame.placed (s : State) (k : Fin 8) (p : AlertPart) :
    ResetFrame s ((s.putSched k { s.sched? k with placed := true }).addPlacement p).tryPlace :=
  .of_blocks (by simp) (by simp) (by simp) (by simp)

/-- In silence a place request is a placement alone (R154). -/
theorem State.placeRequest_silent {s : State} (hs : Silent s) (k : Fin 8) :
    ∃ t, s.placeRequest k = some t ∧ ResetFrame s t := by
  unfold State.placeRequest
  split
  · exact ⟨s, rfl, .refl s⟩
  · exact ⟨_, settleHead_silent ((ResetFrame.placed s k _).silent hs), .placed s k _⟩

theorem State.actByWay_silent {s : State} (hs : Silent s) (k : Fin 8) :
    ∃ t, s.actByWay k false = some t ∧ ResetFrame s t := by
  have hdue : ResetFrame s (if s.deadlineDue k then s.passDeadline k else s) := by
    split
    · exact .passDeadline s k
    · exact .refl s
  unfold State.actByWay
  dsimp only
  split
  · exact ⟨_, rfl, hdue⟩
  · obtain ⟨t, ht, hframe⟩ := State.placeRequest_silent (hdue.silent hs) k
    exact ⟨t, ht, hdue.trans hframe⟩
  · exact ⟨_, rfl, hdue⟩
  · exact ⟨_, rfl, hdue⟩

theorem State.resumeAlert_silent {s : State} (hs : Silent s) (was : Option (Fin 8)) (passed : Bool) :
    ∃ t, s.resumeAlert was passed = some t ∧ ResetFrame s t := by
  unfold State.resumeAlert
  split
  · exact ⟨s, rfl, .refl s⟩
  · split
    · exact ⟨s, rfl, .refl s⟩
    · rename_i k _ a ha
      split
      · have hentered := ResetFrame.enterEligible ha (decide (a.rank = 3) && passed)
        obtain ⟨t, ht, hframe⟩ := State.actByWay_silent (hentered.silent hs) k
        exact ⟨t, ht, hentered.trans hframe⟩
      · exact ⟨s, rfl, .refl s⟩

theorem State.placeAgain_silent {s : State} (hs : Silent s) (k : Fin 8) :
    ∃ t, s.placeAgain k = some t ∧ ResetFrame s t := by
  unfold State.placeAgain
  split
  · exact State.placeRequest_silent hs k
  · exact ⟨s, rfl, .refl s⟩

theorem State.placeAgains_silent {s : State} (hs : Silent s) (l : List (Fin 8)) :
    ∃ t, foldSteps State.placeAgain l s = some t ∧ ResetFrame s t := by
  induction l generalizing s with
  | nil => exact ⟨s, rfl, .refl s⟩
  | cons k rest ih =>
    obtain ⟨t, ht, hframe⟩ := State.placeAgain_silent hs k
    obtain ⟨u, hu, hrest⟩ := ih (hframe.silent hs)
    exact ⟨u, by rw [foldSteps, ht, Option.bind_some, hu], hframe.trans hrest⟩

/-- Out of silence a preemption request brings PREEMPTED alone (R157). -/
theorem ResetFrame.preempt {s : State} (hs : Silent s) : ResetFrame s s.preempt := by
  have hyield : s.yieldAir = s := by simp [State.yieldAir, hs.onAir]
  have hdrop : (s.putOnAir none).dropPostWait = s.putOnAir none := by simp [State.dropPostWait, hs.fill]
  unfold State.preempt
  rw [hyield, State.cutOutgoing_none hs.outgoing]
  exact .of_blocks (by simp [State.enterState, hdrop]) (by simp [State.enterState, hs.onAir, State.putOnAir])
    (by simp) (by simp)

theorem State.holdNotice_holdLimit (s : State) : s.holdNotice.lines.holdLimit = s.lines.holdLimit :=
  foldl_frame (fun u => u.lines.holdLimit)
    (fun u l => (rfl : (u.enterHold l true).lines.holdLimit = u.lines.holdLimit)) s.linesOnAir (s.putAlertHold true)

/-- A write by the bus or the scheduler stays within what a filling writes (R171, R173). -/
theorem State.writeDesired_writes (s : State) (p : Param) (v : Nat) : WritesFlight s (s.writeDesired p v) := by
  unfold State.writeDesired
  split
  · exact .refl s
  · exact (WritesFlight.of_params (.newDesired s p v)).trans (State.fillTable_writes _)

/-- It changes no confirmed value, and no desired value but its own. -/
theorem State.writeDesired_params (s : State) (p : Param) (v : Nat) (q : Param) :
    ((s.writeDesired p v).param q).confirmed = (s.param q).confirmed ∧
      (q ≠ p → ((s.writeDesired p v).param q).desired = (s.param q).desired) := by
  unfold State.writeDesired
  split
  · exact ⟨rfl, fun _ => rfl⟩
  · obtain ⟨hvalues, -, -⟩ := (s.newDesired p v).fillTable_sameValues
    obtain ⟨hdesired, hconfirmed⟩ := s.param_newDesired p q v
    obtain ⟨kdesired, kconfirmed⟩ := hvalues q
    exact ⟨kconfirmed.trans hconfirmed, fun hq => kdesired.trans (hdesired.trans (if_neg hq))⟩

/-- What a filling, or a write of the parameter records, leaves of the site-link unit. -/
theorem WritesFlight.kept {s t : State} (h : WritesFlight s t) :
    t.site.link = s.site.link ∧ t.site.report = s.site.report ∧ t.site.readings = s.site.readings ∧
      t.site.discards = s.site.discards ∧ t.site.foldLimit = s.site.foldLimit ∧ t.site.calMain = s.site.calMain ∧
      t.site.calReserve = s.site.calReserve := by
  rw [h.site_eq]
  exact ⟨rfl, rfl, rfl, rfl, rfl, rfl, rfl⟩

@[simp] theorem State.beginCarriage_frame (s : State) (k : Fin 8) (a : Alert) (way : Way) :
    (s.beginCarriage k a way).clock = s.clock ∧ (s.beginCarriage k a way).store = s.store ∧
      (s.beginCarriage k a way).timer = s.timer ∧ (s.beginCarriage k a way).bus = s.bus ∧
      (s.beginCarriage k a way).lines = s.lines ∧ (s.beginCarriage k a way).port = s.port ∧
      (s.beginCarriage k a way).events = s.events ∧ (s.beginCarriage k a way).pending = s.pending :=
  ⟨rfl, rfl, rfl, rfl, rfl, rfl, rfl, rfl⟩

/-- A carriage's start finds no caller ON_AIR to hold (R123, R158). -/
theorem ResetFrame.startCarriage {s : State} (hs : Silent s) (k : Fin 8) (way : Way) :
    ResetFrame s (s.startCarriage k way) := by
  cases ha : s.alert? k with
  | none =>
    have hsame : s.startCarriage k way = s := by simp [State.startCarriage, ha]
    rw [hsame]
    exact .refl s
  | some a =>
    have hair := State.startCarriage_air ha way
    have hreceiver := State.startCarriage_receiver ha way
    obtain ⟨-, hqueue, hsegment, hcallers⟩ := State.startCarriage_lines ha way
    have hlimit : (s.startCarriage k way).lines.holdLimit = s.lines.holdLimit := by
      simp [State.startCarriage_eq ha, State.holdNotice_holdLimit]
    have hsite : (s.startCarriage k way).site = ((s.beginCarriage k a way).writeDesired .alertFlag 1).site := by
      simp [State.startCarriage_eq ha]
    refine ⟨?_, ?_, ?_, fun l => ?_, ⟨hqueue, hlimit, fun h => by rw [hsegment, h, Option.map_none]⟩, ?_, fun j => ?_,
      ?_, fun p => ?_⟩
    · simp [State.startCarriage_eq ha]
    · rw [hair]; simp
    · rw [hair]; simp
    · rw [hcallers, if_neg (hs.lines l)]
    · rw [hreceiver]
      exact ⟨rfl, rfl, rfl, rfl⟩
    · rw [State.startCarriage_alert ha]
      split
      · rename_i h
        rw [h, ha]
        rfl
      · rfl
    · rw [hsite]
      exact (State.writeDesired_writes _ _ _).kept
    · rw [State.param_congr hsite]
      exact State.writeDesired_params _ _ _ p

theorem ResetFrame.offer {s : State} (hs : Silent s) : ResetFrame s s.offer := by
  unfold State.offer
  split
  · exact .refl s
  · split
    · exact .refl s
    · split
      · exact .startCarriage hs _ _
      · exact (ResetFrame.preempt hs).trans (.startCarriage ((ResetFrame.preempt hs).silent hs) _ _)


end Sys2Proof.Machine
end

section
/-! PROOFS. The controller reset (O13): what the reset of each block makes of it, and the alert that is carried
again. -/

namespace Sys2Proof.Machine

open Sys2Proof.Safety

/-! ### One component for one index (R193, step 1) -/

/-- An operation that writes one index of a component, taken over a list without repetition, writes each index of the
list once. -/
theorem foldl_pointwise {α β : Type} [DecidableEq α] (get : State → α → β) (f : State → α → State) (g : β → β)
    (P : State → Prop) (hP : ∀ s a, P s → P (f s a))
    (hget : ∀ s a b, P s → get (f s a) b = if b = a then g (get s b) else get s b) {l : List α} (hl : l.Nodup)
    {s : State} (hs : P s) (b : α) : get (l.foldl f s) b = if b ∈ l then g (get s b) else get s b := by
  induction l generalizing s with
  | nil => simp
  | cons a rest ih =>
    obtain ⟨hnot, hrest⟩ := List.nodup_cons.mp hl
    rw [List.foldl_cons, ih hrest (hP s a hs), hget s a b hs]
    by_cases hb : b = a
    · subst hb
      simp [hnot]
    · simp [hb]

/-! ### The sequencer, the players and the bus at a reset (R67, R104) -/

/-- What a reset makes of a player's record (R67). -/
def Player.atReset : Player → Player
  | .onAir cue _ => .ended cue
  | p => p

theorem Player.atReset_of_not_onAir {p : Player} (h : p.isOnAir = false) : p.atReset = p := by
  cases p with
  | onAir cue fill => cases h
  | _ => rfl

theorem State.player_resetPlayer (s : State) (p q : Fin 4) :
    (s.resetPlayer p).player q = if q = p then (s.player q).atReset else s.player q := by
  unfold State.resetPlayer
  split
  · rename_i cue _ hp
    have hmuted : ((s.putPlayer p (.ended cue)).mutePlayer p).player q = (s.putPlayer p (.ended cue)).player q := rfl
    rw [hmuted, State.player_putPlayer]
    split
    · rename_i h
      rw [h, hp]
      rfl
    · rfl
  all_goals
    rename_i hp
    split
    · rename_i h
      rw [h, hp]
      rfl
    · rfl

/-- What a reset keeps of a source (R104). -/
def SourceRec.kept (r : SourceRec) : Option Int × Option Int × Option Bool := (r.fader, r.trim, r.micOn)

theorem SourceRec.kept_eq_iff {q r : SourceRec} :
    q.kept = r.kept ↔ q.fader = r.fader ∧ q.trim = r.trim ∧ q.micOn = r.micOn := by
  simp [SourceRec.kept]

/-- The gains and laws of the sources alone are written. -/
def GainsWritten (s t : State) : Prop :=
  t.bus = { s.bus with sources := t.bus.sources } ∧ ∀ i, (t.source i).kept = (s.source i).kept

theorem GainsWritten.resetPlayer (s : State) (p : Fin 4) : GainsWritten s (s.resetPlayer p) := by
  unfold State.resetPlayer
  split
  · refine ⟨rfl, fun i => ?_⟩
    rw [State.mutePlayer, State.source_putSource]
    split
    · rename_i h
      rw [h]
      rfl
    · rfl
  all_goals exact ⟨rfl, fun _ => rfl⟩

theorem GainsWritten.trans {s t u : State} (h : GainsWritten s t) (k : GainsWritten t u) : GainsWritten s u := by
  obtain ⟨hbus, hsources⟩ := h
  obtain ⟨kbus, ksources⟩ := k
  exact ⟨by rw [kbus, hbus], fun i => (ksources i).trans (hsources i)⟩

theorem State.resetPlayers_player (s : State) (p : Fin 4) :
    (allPlayers.foldl State.resetPlayer s).player p = (s.player p).atReset := by
  have hall : p ∈ allPlayers := by revert p; decide
  exact (foldl_pointwise State.player State.resetPlayer Player.atReset (fun _ => True) (fun _ _ _ => trivial)
    (fun t q p _ => t.player_resetPlayer q p) (by decide : allPlayers.Nodup) trivial p).trans (if_pos hall)

theorem GainsWritten.resetAir (s : State) : GainsWritten s s.resetAir :=
  foldl_keeps (P := GainsWritten s) (fun p t ht => ht.trans (.resetPlayer t p)) ⟨rfl, fun _ => rfl⟩

/-- A reset of a player writes its record alone. -/
theorem State.resetPlayer_air (s : State) (p : Fin 4) :
    (s.resetPlayer p).air = { s.air with players := (s.resetPlayer p).air.players } := by
  unfold State.resetPlayer
  split <;> rfl

theorem State.resetPlayers_air (s : State) :
    (allPlayers.foldl State.resetPlayer s).air.mode = s.air.mode ∧
      (allPlayers.foldl State.resetPlayer s).air.cueGrace = s.air.cueGrace ∧
      (allPlayers.foldl State.resetPlayer s).air.fillPending = s.air.fillPending ∧
      (allPlayers.foldl State.resetPlayer s).air.fillPlayer = s.air.fillPlayer := by
  have hair : (allPlayers.foldl State.resetPlayer s).air =
      { s.air with players := (allPlayers.foldl State.resetPlayer s).air.players } :=
    foldl_keeps (P := fun t : State => t.air = { s.air with players := t.air.players })
      (fun p t ht => (t.resetPlayer_air p).trans (by rw [ht])) rfl
  rw [hair]
  exact ⟨rfl, rfl, rfl, rfl⟩

/-- The sequencer stops, with nothing on air or outgoing, and a pending fill player takes effect (R67). -/
theorem State.resetAir_air (s : State) :
    s.resetAir.air.state = .stopped ∧ s.resetAir.air.onAir = none ∧ s.resetAir.air.outgoing = none ∧
      s.resetAir.air.mode = s.air.mode ∧ s.resetAir.air.cueGrace = s.air.cueGrace ∧
      s.resetAir.air.fillPlayer = (if s.air.fillPending.isSome then s.air.fillPending else s.air.fillPlayer) ∧
      s.resetAir.air.fillPending = none ∧ ∀ p, s.resetAir.player p = (s.player p).atReset := by
  obtain ⟨hmode, hgrace, hpending, hfill⟩ := s.resetPlayers_air
  have hplayer := s.resetPlayers_player
  unfold State.resetAir
  generalize allPlayers.foldl State.resetPlayer s = t at hmode hgrace hpending hfill hplayer
  refine ⟨rfl, rfl, rfl, hmode, hgrace, ?_, rfl, hplayer⟩
  dsimp only
  rw [hpending, hfill]
  cases s.air.fillPending <;> rfl

/-! ### The callers at a reset (R126) -/

/-- What a reset makes of a caller, at a moment and with a hold limit (R118, R126). -/
def Caller.atReset (now holdLimit : Nat) (c : Caller) : Caller :=
  if c.state = .onAir then
    { c with state := .hold, airTime := c.airTimeAt now, airSince := none
             holdTimer := some (now + holdLimit * 60000), restore := false }
  else { c with restore := false }

theorem State.caller_resetLine (s : State) (l m : Fin 6) :
    (s.resetLine l).caller m =
      if m = l then (s.caller m).atReset s.clock.mono s.lines.holdLimit else s.caller m := by
  unfold State.resetLine Caller.atReset
  split
  · rename_i hl
    rw [State.caller_enterHold]
    split
    · rename_i h
      rw [h, if_pos hl]
    · rfl
  · rename_i hl
    rw [State.caller_putCaller]
    split
    · rename_i h
      rw [h, if_neg hl]
    · rfl

/-- A reset of a line leaves the queue and the hold limit. -/
theorem State.resetLine_lines (s : State) (l : Fin 6) :
    (s.resetLine l).lines.queue = s.lines.queue ∧ (s.resetLine l).lines.holdLimit = s.lines.holdLimit := by
  unfold State.resetLine
  split <;> exact ⟨rfl, rfl⟩

theorem State.resetLines_lines (s : State) :
    s.resetLines.lines.queue = s.lines.queue ∧ s.resetLines.lines.holdLimit = s.lines.holdLimit ∧
      s.resetLines.lines.segment = none ∧
      ∀ l, s.resetLines.caller l = (s.caller l).atReset s.clock.mono s.lines.holdLimit := by
  have hqueue := foldl_frame (fun t : State => t.lines.queue) (fun t l => (t.resetLine_lines l).1) allLines s
  have hlimit := foldl_frame (fun t : State => t.lines.holdLimit) (fun t l => (t.resetLine_lines l).2) allLines s
  have hcaller (l : Fin 6) : (allLines.foldl State.resetLine s).caller l =
      (s.caller l).atReset s.clock.mono s.lines.holdLimit := by
    have hall : l ∈ allLines := by revert l; decide
    exact (foldl_pointwise State.caller State.resetLine (Caller.atReset s.clock.mono s.lines.holdLimit)
      (fun t => t.clock = s.clock ∧ t.lines.holdLimit = s.lines.holdLimit)
      (fun t l ⟨hclock, hlimit⟩ => ⟨by simp [hclock], (t.resetLine_lines l).2.trans hlimit⟩)
      (fun t l m ⟨hclock, hlimit⟩ => by rw [State.caller_resetLine, hclock, hlimit])
      (by decide : allLines.Nodup) ⟨rfl, rfl⟩ l).trans (if_pos hall)
  unfold State.resetLines
  generalize allLines.foldl State.resetLine s = t at hqueue hlimit hcaller
  exact ⟨hqueue, hlimit, rfl, hcaller⟩

/-! ### The alerts at a reset (R150) -/

/-- What a reset makes of an alert's record at a station time (R150). -/
def Alert.atReset (station : Nat) (a : Alert) : Alert :=
  if a.state = .onAir then
    { a with state := if station < a.frame.validFrom then .pending else .waiting, revisionOnAir := none }
  else a

theorem Alert.atReset_kept (station : Nat) (a : Alert) : (a.atReset station).kept = a.kept := by
  unfold Alert.atReset
  split <;> rfl

theorem State.alert?_resetAlert (s : State) (k j : Fin 8) :
    (s.resetAlert k).alert? j =
      if j = k then (s.alert? j).map (Alert.atReset s.clock.station) else s.alert? j := by
  unfold State.resetAlert
  split
  · rename_i hk
    split
    · rename_i h
      rw [h, hk]
      rfl
    · rfl
  · rename_i a hk
    split
    · rename_i hstate
      rw [State.alert?_putAlert]
      split
      · rename_i h
        simp [h, hk, Alert.atReset, hstate]
      · rfl
    · rename_i hstate
      split
      · rename_i h
        simp [h, hk, Alert.atReset, hstate]
      · rfl

theorem State.resetAlert_lastRetirement (s : State) (k : Fin 8) :
    (s.resetAlert k).receiver.lastRetirement = s.receiver.lastRetirement := by
  unfold State.resetAlert
  split
  · rfl
  · split <;> rfl

theorem State.resetAlerts_alerts (s : State) :
    (allSlots.foldl State.resetAlert s).receiver.lastRetirement = s.receiver.lastRetirement ∧
      ∀ k, (allSlots.foldl State.resetAlert s).alert? k = (s.alert? k).map (Alert.atReset s.clock.station) := by
  refine ⟨foldl_frame (fun t : State => t.receiver.lastRetirement) State.resetAlert_lastRetirement _ s, fun k => ?_⟩
  have hall : k ∈ allSlots := by revert k; decide
  exact (foldl_pointwise State.alert? State.resetAlert (Option.map (Alert.atReset s.clock.station))
    (fun t => t.clock = s.clock) (fun t k ht => by simp [ht])
    (fun t k j ht => by rw [State.alert?_resetAlert, ht]) (by decide : allSlots.Nodup) rfl k).trans (if_pos hall)

theorem State.resetReceiver_alerts (s : State) :
    s.resetReceiver.receiver.lastRetirement = s.receiver.lastRetirement ∧
      ∀ k, s.resetReceiver.alert? k = (s.alert? k).map (Alert.atReset s.clock.station) := by
  have hsent : (if s.alertOnAir then s.sendAlert .stop else s).clock = s.clock ∧
      (∀ k, (if s.alertOnAir then s.sendAlert .stop else s).alert? k = s.alert? k) ∧
      (if s.alertOnAir then s.sendAlert .stop else s).receiver.lastRetirement = s.receiver.lastRetirement := by
    split <;> exact ⟨rfl, fun _ => rfl, rfl⟩
  unfold State.resetReceiver
  dsimp only
  generalize (if s.alertOnAir then s.sendAlert .stop else s) = u at hsent
  obtain ⟨hclock, halerts, hnote⟩ := hsent
  obtain ⟨hreset, hfold⟩ := u.resetAlerts_alerts
  simp only [halerts, hclock] at hfold
  generalize allSlots.foldl State.resetAlert u = t at hreset hfold
  exact ⟨hreset.trans hnote, hfold⟩

/-! ### The blocks after a reset (R193, steps 1 and 2) -/

/-- The blocks after their own resets, before ALERT_FLAG takes its desired value. -/
def State.blocksReset (s : State) : State :=
  s.clearOccurrences.resetInterp.resetAir.resetTimer.resetBus.resetLines.resetReceiver.resetSched.resetSite

theorem State.resetBlocks_writes (s : State) : WritesFlight s.blocksReset s.resetBlocks :=
  (WritesFlight.of_params (.newDesired _ _ _)).trans (State.fillTable_writes _)

theorem State.resetBlocks_eq (s : State) : s.resetBlocks = { s.blocksReset with site := s.resetBlocks.site } :=
  s.resetBlocks_writes.site

theorem State.resetBlocks_air (s : State) : s.resetBlocks.air = s.clearOccurrences.resetInterp.resetAir.air := by
  rw [s.resetBlocks_eq]
  simp [State.blocksReset]

theorem State.resetBlocks_bus (s : State) : s.resetBlocks.bus =
    { s.clearOccurrences.resetInterp.resetAir.bus with fillDeadAir := false, fillPostWait := false } := by
  rw [s.resetBlocks_eq]
  simp [State.blocksReset, State.resetBus]

theorem State.resetBlocks_lines (s : State) : s.resetBlocks.lines =
    s.clearOccurrences.resetInterp.resetAir.resetTimer.resetBus.resetLines.lines := by
  rw [s.resetBlocks_eq]
  simp [State.blocksReset]

theorem State.resetBlocks_receiver (s : State) : s.resetBlocks.receiver =
    s.clearOccurrences.resetInterp.resetAir.resetTimer.resetBus.resetLines.resetReceiver.receiver := by
  rw [s.resetBlocks_eq]
  simp [State.blocksReset]

theorem State.resetBlocks_sched (s : State) : s.resetBlocks.sched = s.resetSched.sched := by
  rw [s.resetBlocks_eq]
  simp [State.blocksReset, State.resetSched]

theorem ParamRec.resent_values (r : ParamRec) : r.resent.desired = r.desired ∧ r.resent.confirmed = r.confirmed := by
  unfold ParamRec.resent
  split <;> exact ⟨rfl, rfl⟩

theorem State.blocksReset_param (s : State) (p : Param) : s.blocksReset.param p = (s.param p).resent := by
  simp [State.blocksReset, State.resetSite, State.param]

theorem State.resetBlocks_params (s : State) (p : Param) :
    (s.resetBlocks.param p).confirmed = (s.param p).confirmed ∧
      (p ≠ .alertFlag → (s.resetBlocks.param p).desired = (s.param p).desired) := by
  obtain ⟨hvalues, -, -⟩ := (s.blocksReset.newDesired .alertFlag 0).fillTable_sameValues
  obtain ⟨hdesired, hconfirmed⟩ := s.blocksReset.param_newDesired .alertFlag p 0
  obtain ⟨kdesired, kconfirmed⟩ := hvalues p
  obtain ⟨rdesired, rconfirmed⟩ := (s.param p).resent_values
  rw [s.blocksReset_param] at hdesired hconfirmed
  exact ⟨kconfirmed.trans (hconfirmed.trans rconfirmed),
    fun hp => kdesired.trans ((hdesired.trans (if_neg hp)).trans rdesired)⟩

theorem State.resetBlocks_site (s : State) :
    s.resetBlocks.site.link = s.site.link ∧ s.resetBlocks.site.report = s.site.report ∧
      s.resetBlocks.site.readings = s.site.readings ∧ s.resetBlocks.site.discards = s.site.discards ∧
      s.resetBlocks.site.foldLimit = s.site.foldLimit ∧ s.resetBlocks.site.calMain = s.site.calMain ∧
      s.resetBlocks.site.calReserve = s.site.calReserve := by
  have hreset : s.blocksReset.site.link = s.site.link ∧ s.blocksReset.site.report = s.site.report ∧
      s.blocksReset.site.readings = s.site.readings ∧ s.blocksReset.site.discards = s.site.discards ∧
      s.blocksReset.site.foldLimit = s.site.foldLimit ∧ s.blocksReset.site.calMain = s.site.calMain ∧
      s.blocksReset.site.calReserve = s.site.calReserve := by
    simp [State.blocksReset, State.resetSite]
  simpa only [hreset] using s.resetBlocks_writes.kept

theorem State.resetBlocks_alert (s : State) (k : Fin 8) :
    s.resetBlocks.alert? k = (s.alert? k).map (Alert.atReset s.clock.station) := by
  let t := s.clearOccurrences.resetInterp.resetAir.resetTimer.resetBus.resetLines
  have hclock : t.clock = s.clock := by simp [t]
  have halert : t.alert? k = s.alert? k := State.alert?_congr (by simp [t]) k
  obtain ⟨-, hreset⟩ := t.resetReceiver_alerts
  rw [State.alert?_congr s.resetBlocks_receiver k, hreset k, hclock, halert]

theorem State.resetBlocks_caller (s : State) (l : Fin 6) :
    s.resetBlocks.caller l = (s.caller l).atReset s.clock.mono s.lines.holdLimit := by
  let t := s.clearOccurrences.resetInterp.resetAir.resetTimer.resetBus
  have hlines : t.lines = s.lines := by simp [t]
  have hclock : t.clock = s.clock := by simp [t]
  obtain ⟨-, -, -, hreset⟩ := t.resetLines_lines
  rw [State.caller_congr s.resetBlocks_lines l, hreset l, hclock, hlines, State.caller_congr hlines l]

theorem Caller.atReset_state (now holdLimit : Nat) (c : Caller) : (c.atReset now holdLimit).state ≠ .onAir := by
  unfold Caller.atReset
  split
  · simp
  · assumption

theorem State.resetBlocks_silent (s : State) : Silent s.resetBlocks := by
  obtain ⟨hstate, honAir, houtgoing, -, -, -, -, -⟩ := s.clearOccurrences.resetInterp.resetAir_air
  refine ⟨?_, ?_, .inl ?_, ?_, fun l => ?_⟩
  · rw [s.resetBlocks_air, honAir]
  · rw [s.resetBlocks_air, houtgoing]
  · rw [s.resetBlocks_air, hstate]
  · rw [s.resetBlocks_bus]
  · rw [s.resetBlocks_caller]
    exact Caller.atReset_state _ _ _

/-- What the blocks' resets leave of the sequencer's record (R67). -/
theorem State.resetBlocks_airKept (s : State) :
    s.resetBlocks.air.mode = s.air.mode ∧ s.resetBlocks.air.cueGrace = s.air.cueGrace ∧
      s.resetBlocks.air.fillPlayer = (if s.air.fillPending.isSome then s.air.fillPending else s.air.fillPlayer) ∧
      s.resetBlocks.air.fillPending = none := by
  obtain ⟨-, -, -, hmode, hgrace, hfill, hpending, -⟩ := s.clearOccurrences.resetInterp.resetAir_air
  rw [s.resetBlocks_air]
  exact ⟨hmode, hgrace, hfill, hpending⟩

theorem State.resetBlocks_player (s : State) (p : Fin 4) : s.resetBlocks.player p = (s.player p).atReset := by
  obtain ⟨-, -, -, -, -, -, -, hplayer⟩ := s.clearOccurrences.resetInterp.resetAir_air
  rw [State.player, s.resetBlocks_air]
  exact hplayer p

/-- What the blocks' resets leave of the bus (R104). -/
theorem State.resetBlocks_busKept (s : State) :
    s.resetBlocks.bus.threshold = s.bus.threshold ∧ s.resetBlocks.bus.deadAirLimit = s.bus.deadAirLimit ∧
      s.resetBlocks.bus.duckDepth = s.bus.duckDepth ∧ s.resetBlocks.bus.monitor = s.bus.monitor ∧
      s.resetBlocks.bus.escalationFlag = s.bus.escalationFlag := by
  obtain ⟨hbus, -⟩ := GainsWritten.resetAir s.clearOccurrences.resetInterp
  rw [s.resetBlocks_bus, hbus]
  exact ⟨rfl, rfl, rfl, rfl, rfl⟩

theorem State.source_congr {s t : State} (h : t.bus.sources = s.bus.sources) (i : Fin 14) :
    t.source i = s.source i := by
  rw [State.source, h]
  rfl

theorem State.resetBlocks_source (s : State) (i : Fin 14) : (s.resetBlocks.source i).kept = (s.source i).kept := by
  obtain ⟨-, hsources⟩ := GainsWritten.resetAir s.clearOccurrences.resetInterp
  have hreset : s.resetBlocks.source i = s.clearOccurrences.resetInterp.resetAir.source i :=
    State.source_congr (by rw [s.resetBlocks_bus]) i
  rw [hreset, hsources i]
  rfl

/-- What the blocks' resets leave of the caller-line unit (R126). -/
theorem State.resetBlocks_linesKept (s : State) :
    s.resetBlocks.lines.queue = s.lines.queue ∧ s.resetBlocks.lines.holdLimit = s.lines.holdLimit ∧
      s.resetBlocks.lines.segment = none := by
  have hlines : s.clearOccurrences.resetInterp.resetAir.resetTimer.resetBus.lines = s.lines := by simp
  obtain ⟨hqueue, hlimit, hsegment, -⟩ := s.clearOccurrences.resetInterp.resetAir.resetTimer.resetBus.resetLines_lines
  rw [s.resetBlocks_lines, hqueue, hlimit, hsegment, hlines]
  exact ⟨rfl, rfl, rfl⟩

/-- What the blocks' resets leave of the receiver (R150). -/
theorem State.resetBlocks_receiverKept (s : State) :
    s.resetBlocks.receiver.classes = s.receiver.classes ∧ s.resetBlocks.receiver.lock = s.receiver.lock ∧
      s.resetBlocks.receiver.discards = s.receiver.discards ∧
      s.resetBlocks.receiver.lastRetirement = s.receiver.lastRetirement := by
  let t := s.clearOccurrences.resetInterp.resetAir.resetTimer.resetBus.resetLines
  have hreceiver : t.receiver = s.receiver := by simp [t]
  obtain ⟨hclasses, hlock⟩ := State.policy_eq_iff.mp s.resetBlocks_policy
  obtain ⟨hnote, -⟩ := t.resetReceiver_alerts
  have hdiscards := t.resetReceiver_discards
  rw [hreceiver] at hnote hdiscards
  refine ⟨hclasses, hlock, ?_, ?_⟩
  · rw [s.resetBlocks_receiver, hdiscards]
  · rw [s.resetBlocks_receiver, hnote]

theorem State.resetBlocks_rest (s : State) :
    s.resetBlocks.events.mask = s.events.mask ∧ s.resetBlocks.timer.tolerance = s.timer.tolerance := by
  rw [s.resetBlocks_eq]
  simp [State.blocksReset, State.resetTimer, State.clearOccurrences]

/-- A controller reset comes to rest, and its completion keeps what the blocks' resets left (R193). -/
theorem State.controllerReset_frame (s : State) : ∃ t, s.controllerReset = some t ∧ ResetFrame s.resetBlocks t := by
  have hrebuilt := ResetFrame.rebuild s.resetBlocks
  have hsilent := hrebuilt.silent s.resetBlocks_silent
  obtain ⟨t, ht, hresumed⟩ := State.resumeAlert_silent hsilent s.onAirSlot s.carriedPassed
  obtain ⟨u, hu, hplaced⟩ := State.placeAgains_silent (hresumed.silent hsilent) allSlots
  have hoffered := ResetFrame.offer (hplaced.silent (hresumed.silent hsilent))
  exact ⟨u.offer, by rw [State.controllerReset, ht, Option.bind_some, hu, Option.map_some],
    ((hrebuilt.trans hresumed).trans hplaced).trans hoffered⟩

/-! ### The alert that is carried again (R167) -/

theorem State.state_of_onAirSlot {s : State} {k : Fin 8} {a : Alert} (h : s.onAirSlot = some k)
    (ha : s.alert? k = some a) : a.state = .onAir := by
  have hfound := List.find?_some h
  simpa [ha] using hfound

/-- An ELIGIBLE record of way IMMEDIATE has no deadline left to come (R155). -/
theorem State.deadlineDue_immediate {s : State} {k : Fin 8} (h : s.way? k = some .immediate) :
    s.deadlineDue k = false := by
  unfold State.way? at h
  split at h
  · obtain ⟨a, ha, hway⟩ := Option.map_eq_some_iff.mp h
    have hpassed : ¬(a.rank = 3 ∧ (s.sched? k).passed = false) := by
      rintro ⟨hrank, hnot⟩
      simp [wayOf, hrank, hnot] at hway
    have hnone : s.deadlineOf k = none := by
      simp only [State.deadlineOf, ha]
      exact if_neg fun ⟨_, hrest⟩ => hpassed hrest
    simp [State.deadlineDue, hnone]
  · cases h

/-- The record that was on air is IMMEDIATE again: it is of rank 4, or its deadline passed is set again (log entry
59). -/
theorem wayOf_resumed {rank : Nat} {passed : Bool} (h : rank = 4 ∨ (rank = 3 ∧ passed = true)) :
    wayOf rank (decide (rank = 3) && passed) = .immediate := by
  obtain rfl | ⟨rfl, rfl⟩ := h <;> rfl

/-- Out of silence, the only ELIGIBLE record is carried at once where its way is IMMEDIATE (R156, R158). -/
theorem State.offer_silent {s : State} {k : Fin 8} {a : Alert} (hs : Silent s) (hstopped : s.air.state = .stopped)
    (hcarriage : s.sched.carriage = none) (ha : s.alert? k = some a) (hway : s.way? k = some .immediate)
    (hothers : ∀ j, j ≠ k → (s.sched? j).eligibility ≠ .eligible) :
    s.offer.air.state = .preempted ∧
      s.offer.sched.carriage.map (fun c => (c.slot, c.way, c.startMono, c.revision)) =
        some (k, .immediate, s.clock.mono, a.frame.revision) := by
  have hpreempt := State.preempt_silent hs.onAir hs.outgoing
  obtain ⟨hstate, -, -, -, -, -, -, hclock, hreceiver, -, -, -, -, -, -⟩ := hpreempt
  have hk : s.preempt.alert? k = some a := (State.alert?_congr hreceiver k).trans ha
  rw [State.offer_only hcarriage (State.candidates_eq_singleton hway hothers) (by simp [hstopped])]
  refine ⟨?_, ?_⟩
  · rw [State.startCarriage_air hk]
    exact hstate
  · rw [State.startCarriage_sched hk, State.beginCarriage_sched, ← hclock]
    rfl

/-- The schedule entries after a reset and its rebuild: none is ELIGIBLE that was not, and no carriage is in progress
(R167). -/
theorem State.rebuilt_sched (s : State) : s.resetBlocks.rebuild.sched.carriage = none ∧
    ∀ j, (s.resetBlocks.rebuild.sched? j).eligibility = (s.sched? j).eligibility := by
  have hsched : s.resetBlocks.rebuild.sched = s.resetSched.sched := by
    rw [← s.resetBlocks_sched]
    simp
  refine ⟨by rw [hsched]; rfl, fun j => ?_⟩
  rw [State.sched?_congr hsched j]
  simp [State.resetSched, State.sched?]

/-- Where no other alert is ELIGIBLE, the alert that was on air is carried again (R167, log entry 59). -/
theorem State.controllerReset_carries {s t : State} {k : Fin 8} {a : Alert} (ht : s.controllerReset = some t)
    (hslot : s.onAirSlot = some k) (ha : s.alert? k = some a) (hfrom : a.frame.validFrom ≤ s.clock.station)
    (hrank : a.rank = 4 ∨ (a.rank = 3 ∧ s.carriedPassed = true))
    (hnone : ∀ j, (s.sched? j).eligibility ≠ .eligible) :
    t.air.state = .preempted ∧ t.sched.carriage.map (fun c => (c.slot, c.way, c.startMono, c.revision)) =
      some (k, .immediate, s.clock.mono, a.frame.revision) := by
  let u := s.resetBlocks.rebuild
  let b : Alert := { a with state := .waiting, revisionOnAir := none }
  let v := u.enterEligible k b (decide (a.rank = 3) && s.carriedPassed)
  obtain ⟨hcarriage, heligibility⟩ := s.rebuilt_sched
  have hb : u.alert? k = some b := by
    have hkept : u.alert? k = s.resetBlocks.alert? k := State.alert?_congr (by simp [u]) k
    have hwaiting : a.atReset s.clock.station = b := by
      simp [Alert.atReset, State.state_of_onAirSlot hslot ha, Nat.not_lt.mpr hfrom, b]
    rw [hkept, s.resetBlocks_alert, ha, Option.map_some, hwaiting]
  have hframe : ResetFrame s.resetBlocks v := (ResetFrame.rebuild _).trans (.enterEligible hb _)
  have hsilent := hframe.silent s.resetBlocks_silent
  have hway : v.way? k = some .immediate := by
    rw [State.way?_enterEligible, wayOf_resumed hrank]
  have hothers (j : Fin 8) (hj : j ≠ k) : (v.sched? j).eligibility ≠ .eligible := by
    rw [State.sched?_enterEligible, if_neg hj, heligibility j]
    exact hnone j
  have hresumed : u.resumeAlert s.onAirSlot s.carriedPassed = some v := by
    have hacted : v.actByWay k false = some v := by
      simp [State.actByWay, State.deadlineDue_immediate hway, hway]
    rw [hslot]
    simp only [State.resumeAlert, hb]
    exact (if_pos rfl).trans hacted
  have hplaced : foldSteps State.placeAgain allSlots v = some v := by
    refine foldSteps_same (fun j => ?_) allSlots
    have hnot : v.way? j ≠ some .break := by
      by_cases hj : j = k
      · rw [hj, hway]; simp
      · rw [State.way?_not_eligible (hothers j hj)]; simp
    simp [State.placeAgain, hnot]
  have hresult : t = v.offer := by
    rw [State.controllerReset, hresumed, Option.bind_some, hplaced, Option.map_some] at ht
    exact (Option.some.inj ht).symm
  have hstopped : v.air.state = .stopped := by
    have hair : v.air.state = s.resetBlocks.air.state := by simp [v, u]
    obtain ⟨hstate, -⟩ := s.clearOccurrences.resetInterp.resetAir_air
    rw [hair, s.resetBlocks_air, hstate]
  have hv : v.alert? k =
      some { b with state := .waiting, waitingSince := some u.clock.mono, nextEligible := none } := by
    simp [v]
  have hidle : v.sched.carriage = none := (State.enterEligible_carriage u k b _).1.trans hcarriage
  have hclock : v.clock = s.clock := by simp [v, u]
  rw [hresult, ← hclock]
  have hoffered := State.offer_silent hsilent hstopped hidle hv hway hothers
  exact hoffered

/-! ### The request (R193) -/

/-- Settles O13: the blocks' resets leave the air silent, in which the completion comes to rest and keeps what R193's
blocks keep. -/
theorem controllerResetCompletes : Obligations.ControllerResetCompletes := by
  intro s hfree
  obtain ⟨t, ht, hframe⟩ := s.controllerReset_frame
  have howner : accepted s.controllerReset (fun _ => []) = some (t, .ok []) := by rw [ht]; rfl
  have hsilent := hframe.silent s.resetBlocks_silent
  obtain ⟨⟨hclock, hstore, -, hpending, hbus, hmask, htolerance⟩,
    ⟨hmode, -, -, hplayers, hfill, hfillPending, hgrace⟩, -, hcallers, ⟨hqueue, hlimit, hsegment⟩,
    ⟨hclasses, hlock, hdiscards, hnote⟩, halerts, ⟨hlink, hreport, hreadings, hsiteDiscards, hfold, hmain, hreserve⟩,
    hparams⟩ := hframe
  obtain ⟨rmask, rtolerance⟩ := s.resetBlocks_rest
  obtain ⟨rmode, rgrace, rfill, rfillPending⟩ := s.resetBlocks_airKept
  obtain ⟨rthreshold, rdeadAirLimit, rduckDepth, rmonitor, rescalation⟩ := s.resetBlocks_busKept
  obtain ⟨rqueue, rlimit, rsegment⟩ := s.resetBlocks_linesKept
  obtain ⟨rclasses, rlock, rdiscards, rnote⟩ := s.resetBlocks_receiverKept
  obtain ⟨rlink, rreport, rreadings, rsiteDiscards, rfold, rmain, rreserve⟩ := s.resetBlocks_site
  have hplayer (p : Fin 4) : t.player p = (s.player p).atReset := by
    rw [← s.resetBlocks_player, State.player, hplayers]
    rfl
  have hsource (i : Fin 14) : (t.source i).kept = (s.source i).kept := by
    rw [← s.resetBlocks_source, State.source, hbus]
    rfl
  have hcaller (l : Fin 6) : t.caller l = (s.caller l).atReset s.clock.mono s.lines.holdLimit :=
    (hcallers l).trans (s.resetBlocks_caller l)
  have halert (k : Fin 8) : (t.alert? k).map Alert.kept = (s.alert? k).map Alert.kept := by
    have hkept : Alert.kept ∘ Alert.atReset s.clock.station = Alert.kept := funext (Alert.atReset_kept _)
    rw [halerts k, s.resetBlocks_alert, Option.map_map, hkept]
  have hparam (p : Param) : (t.param p).confirmed = (s.param p).confirmed ∧
      (p ≠ .alertFlag → (t.param p).desired = (s.param p).desired) := by
    obtain ⟨hconfirmed, hdesired⟩ := hparams p
    obtain ⟨rconfirmed, rdesired⟩ := s.resetBlocks_params p
    exact ⟨hconfirmed.trans rconfirmed, fun hp => (hdesired hp).trans (rdesired hp)⟩
  have hcarries (k : Fin 8) (a : Alert) (hslot : s.onAirSlot = some k) (ha : s.alert? k = some a)
      (hfrom : a.frame.validFrom ≤ s.clock.station) (hrank : a.rank = 4 ∨ (a.rank = 3 ∧ s.carriedPassed = true))
      (hnone : ∀ j, (s.sched? j).eligibility ≠ .eligible) :=
    State.controllerReset_carries ht hslot ha hfrom hrank hnone
  rw [← hbus] at rthreshold rdeadAirLimit rduckDepth rmonitor rescalation
  refine ⟨t.answer 0x75 (.ok []), (request_owner hfree rfl howner : execControllerReset .engineer s = _), ?_⟩
  exact ⟨hstore.trans (by simp), hclock.trans (by simp), hmode.trans rmode, hsilent.onAir, hsilent.outgoing,
    hsilent.state, State.linesOnAir_eq_nil.mpr hsilent.lines, hmask.trans rmask, hclasses.trans rclasses,
    hlock.trans rlock, rfl, hpending.trans (by simp), htolerance.trans rtolerance, hgrace.trans rgrace, rthreshold,
    rdeadAirLimit, rduckDepth, hlimit.trans rlimit, hfold.trans rfold, hmain.trans rmain, hreserve.trans rreserve,
    hfill.trans rfill, hfillPending.trans rfillPending, fun i => SourceRec.kept_eq_iff.mp (hsource i), rmonitor,
    rescalation, fun p cue fill hp => (hplayer p).trans (by rw [hp]; rfl),
    fun p hp => (hplayer p).trans (Player.atReset_of_not_onAir hp), hcaller, hqueue.trans rqueue, hsegment rsegment,
    halert, hdiscards.trans rdiscards, hlink.trans rlink, hreport.trans rreport, hreadings.trans rreadings,
    hsiteDiscards.trans rsiteDiscards, hparam, hnote.trans rnote, hcarries⟩

end Sys2Proof.Machine
end

section
/-! PROOFS. The step and the queue (O1), and the request frames (O14). -/

namespace Sys2Proof.Machine

/-! ### What a tick does -/

/-- With no timed event due, time passes (5.2). -/
theorem State.tick_idle {s : State} (h : s.dueCommands = []) : s.tick = s.advance := by
  simp only [State.tick, h]

/-- With a timed event due, one that is due joins the queue, and at most a free value is used (log entries 1 and 3). -/
theorem State.tick_due {s : State} (h : s.dueCommands ≠ []) :
    ∃ i ∈ s.dueCommands, ∃ n, s.tick = { s with pending := [i], freeUsed := n } := by
  unfold State.tick
  cases hdue : s.dueCommands with
  | nil => exact absurd hdue h
  | cons i rest =>
    cases rest with
    | nil => exact ⟨i, List.mem_singleton_self i, s.freeUsed, rfl⟩
    | cons j rest =>
      let all := i :: j :: rest
      let k := Config.tieChoice s.freeUsed % all.length
      have hk : k < all.length := Nat.mod_lt _ (Nat.succ_pos _)
      have hchosen : all.getD k i ∈ all := by
        rw [List.getD_eq_getElem _ _ hk]
        exact List.getElem_mem hk
      exact ⟨all.getD k i, hchosen, s.freeUsed + 1, rfl⟩

theorem step_idle {s : State} (h : s.pending = []) : step s = .next s.tick := by simp only [step, h]

/-- Settles O1: a step is the front command's meaning, and with none waiting a tick, which is read off the list of due
events. -/
theorem stepTakesFrontOfQueue : Obligations.StepTakesFrontOfQueue := by
  unfold Obligations.StepTakesFrontOfQueue
  refine ⟨fun c s => rfl, fun s hempty hnone => ?_, fun s hempty hdue => ?_⟩
  · rw [step_idle hempty, State.tick_idle hnone]
    rfl
  · obtain ⟨i, hi, n, htick⟩ := State.tick_due hdue
    exact ⟨i, hi, n, by rw [step_idle hempty, htick]⟩

/-- Settles O14: the fields of each request are read back under its code, and the frame's other parts by `be`. -/
theorem decodeOfEncodedRequest : Obligations.DecodeOfEncodedRequest := fun _ _ hwf hbytes =>
  decodeRequest_of_encode hwf hbytes

end Sys2Proof.Machine
end

section
/-! PROOFS. The canonical form of the two sparse tables (O7). The store is written by the edits of the running order
and, at an ending, by the retirement of a one-shot entry; each writes slots by `Store.putSlot` alone. So the operations that
report an ending keep the canonical form and every other operation leaves the store. Then, in the order in which they
call one another, the operations that may not come to rest keep it of the state they come to (`CanonicalAfter`), and so
the owners of requests (`CanonicalAnswer`) and the commands (`CanonicalNext`). What a command does to the class table is
known from O8 (`PolicyStep`). -/

namespace Sys2Proof.Machine

open Sys2Proof.Safety

/-! ### The store's edits (R3, R11 to R15) -/

/-- The table of slots is in its canonical form. -/
def Store.canonical (st : Store) : Prop := tableWf Slot.fresh st.slots = true

section

variable {st : Store}

theorem Store.canonical_putSlot (h : st.canonical) (n : Nat) (sl : Slot) : (st.putSlot n sl).canonical :=
  st.putSlot_wf n sl h

/-- A list's order is no part of the table of slots. -/
theorem Store.canonical_putOrder (h : st.canonical) (l : ListId) (hs : List Nat) : (st.putOrder l hs).canonical := h

theorem Store.canonical_insert (h : st.canonical) {l : ListId} {anchor n : Nat} {b : Body} {st' : Store}
    (hi : st.insert l anchor b = some (st', n)) : st'.canonical := by
  obtain ⟨k, -, heq⟩ := Option.map_eq_some_iff.mp hi
  obtain ⟨rfl, -⟩ := Prod.mk.inj heq
  exact Store.canonical_putOrder (Store.canonical_putSlot h k _) _ _

@[simp] theorem Store.canonical_remove (h : st.canonical) (n : Nat) : (st.remove n).canonical := by
  unfold Store.remove
  split
  · exact h
  · exact Store.canonical_putOrder (Store.canonical_putSlot h _ _) _ _

theorem Store.canonical_putEntry (h : st.canonical) (n : Nat) (e : Entry) : (st.putEntry n e).canonical :=
  Store.canonical_putSlot h _ _

theorem Store.canonical_move (h : st.canonical) (n : Nat) (e : Entry) (l : ListId) (anchor : Nat) :
    (st.move n e l anchor).canonical := by
  unfold Store.move
  exact Store.canonical_putEntry (Store.canonical_putOrder (Store.canonical_putOrder h _ _) _ _) _ _

theorem Store.canonical_removeAll (h : st.canonical) (hs : List Nat) : (hs.foldl Store.remove st).canonical := by
  induction hs generalizing st with
  | nil => exact h
  | cons n rest ih => exact ih (Store.canonical_remove h n)

end

/-! ### The operations that report an ending (R18) -/

section

variable {s : State}

/-- An ending retires a one-shot entry from the store, or leaves the store (R18). -/
@[simp] theorem State.reportEnding_canonical (h : s.store.canonical) (n : Nat) (e : Ending) :
    (s.reportEnding n e).store.canonical := by
  unfold State.reportEnding
  split
  · exact h
  · split
    · simpa using Store.canonical_remove h n
    · exact h

@[simp] theorem State.releaseWith_canonical (h : s.store.canonical) (e : Option Ending) (mayPlace : Bool) :
    (s.releaseWith e mayPlace).store.canonical := by
  unfold State.releaseWith
  split
  · exact h
  · cases e with
    | none => simpa using h
    | some x =>
      dsimp only
      split <;> simp [h]

@[simp] theorem State.endRecord_canonical (h : s.store.canonical) (e : Ending) :
    (s.endRecord e).store.canonical := State.releaseWith_canonical h _ _

@[simp] theorem State.missed_canonical (h : s.store.canonical) : s.missed.store.canonical := by
  simp [State.missed, h]

@[simp] theorem State.cutOutgoing_canonical (h : s.store.canonical) : s.cutOutgoing.store.canonical := by
  unfold State.cutOutgoing
  split <;> simp [h]

@[simp] theorem State.cutOnAir_canonical (h : s.store.canonical) (mayPlace : Bool) :
    (s.cutOnAir mayPlace).store.canonical := by
  unfold State.cutOnAir
  split <;> simp [h]

@[simp] theorem State.releaseBefore_canonical (n : Nat) (w : Watch) (h : s.store.canonical) :
    (State.releaseBefore n w s).store.canonical := by
  induction n generalizing s with
  | zero => exact h
  | succ n ih =>
    unfold State.releaseBefore
    split
    · exact h
    · split
      · split
        · exact h
        · exact ih (State.releaseWith_canonical h _ _)
      · exact ih (State.releaseWith_canonical h _ _)
      · exact ih (State.releaseWith_canonical (s := s.unplace _) h _ _)
      · exact h

@[simp] theorem State.yieldAir_canonical (h : s.store.canonical) : s.yieldAir.store.canonical := by
  unfold State.yieldAir
  split
  · exact h
  · split <;> simp [h]

@[simp] theorem State.preempt_canonical (h : s.store.canonical) : s.preempt.store.canonical := by
  simp [State.preempt, h]

@[simp] theorem State.offer_canonical (h : s.store.canonical) : s.offer.store.canonical := by
  unfold State.offer
  split
  · exact h
  · split
    · exact h
    · split <;> simp [h]

@[simp] theorem State.expireDeadline_canonical (h : s.store.canonical) (k : Fin 8) :
    (s.expireDeadline k).store.canonical := by simp [State.expireDeadline, h]

@[simp] theorem State.expireMoved_canonical (h : s.store.canonical) (c : Nat) :
    (State.expireMoved c s).store.canonical :=
  foldl_keeps (P := fun t => t.store.canonical) (fun k t ht => by split <;> simp [ht]) h

@[simp] theorem State.stopEntry_canonical (h : s.store.canonical) : s.stopEntry.store.canonical := by
  unfold State.stopEntry
  split
  · exact h
  · split <;> simp [h]

@[simp] theorem State.stopAll_canonical (h : s.store.canonical) : s.stopAll.store.canonical := by
  have hcut := State.cutOutgoing_canonical (s := (s.stopEntry.putOnAir none).unhold) (by simp [h])
  simpa [State.stopAll] using hcut

/-- A start takes the head from the lookahead: the entry stays in the store. -/
@[simp] theorem State.startItem_store (s : State) (r : Resolved) (b : Body) : (s.startItem r b).1.store = s.store := by
  cases b with
  | audio kind cart segue item =>
    simp only [State.startItem]
    split
    · simp
    · split <;> simp
  | _ => simp [State.startItem]

theorem State.goGiven_store {t : State} {m : TakeMode} {b : Body} (h : s.goGiven m b = some t) :
    t.store = s.store := by
  unfold State.goGiven at h
  split at h
  · cases h; rfl
  · split at h
    · cases h; rfl
    · cases h; rfl
    all_goals
      split at h
      · cases h; rfl
      · cases h

end

/-! ### Operations that may not come to rest -/

/-- Where an operation comes to rest, the table of slots is in its canonical form. -/
def CanonicalAfter (r : Option State) : Prop := ∀ t, r = some t → t.store.canonical

@[simp] theorem canonicalAfter_some {t : State} : CanonicalAfter (some t) ↔ t.store.canonical := by
  simp [CanonicalAfter]

@[simp] theorem canonicalAfter_none : CanonicalAfter none := fun _ ht => by cases ht

theorem CanonicalAfter.ite {c : Prop} [Decidable c] {a b : Option State} (ha : CanonicalAfter a)
    (hb : CanonicalAfter b) : CanonicalAfter (if c then a else b) := by split <;> assumption

theorem CanonicalAfter.bind {r : Option State} (h : CanonicalAfter r) {f : State → Option State}
    (hf : ∀ u, u.store.canonical → CanonicalAfter (f u)) : CanonicalAfter (r.bind f) := fun t ht => by
  obtain ⟨u, hu, hfu⟩ := Option.bind_eq_some_iff.mp ht
  exact hf u (h u hu) t hfu

theorem CanonicalAfter.map {r : Option State} (h : CanonicalAfter r) {f : State → State}
    (hf : ∀ u, u.store.canonical → (f u).store.canonical) : CanonicalAfter (r.map f) := fun t ht => by
  obtain ⟨u, hu, rfl⟩ := Option.map_eq_some_iff.mp ht
  exact hf u (h u hu)

theorem CanonicalAfter.foldSteps {α : Type} {f : α → State → Option State} {s : State} (h : s.store.canonical)
    (hf : ∀ a u, u.store.canonical → CanonicalAfter (f a u)) (l : List α) : CanonicalAfter (foldSteps f l s) :=
  fun _ ht => foldSteps_keeps (P := fun u => u.store.canonical) (fun a u v hu hv => hf a u hu v hv) h ht

section

variable {s : State} (h : s.store.canonical)

include h

theorem CanonicalAfter.same : CanonicalAfter (some s) := canonicalAfter_some.mpr h

/-! ### The sequencer (chapter 3) -/

theorem canonicalAfter_takeLoop (fuel : Nat) (m : TakeMode) : CanonicalAfter (takeLoop fuel m s) := by
  induction fuel generalizing m s with
  | zero => exact canonicalAfter_none
  | succ fuel ih =>
    unfold takeLoop
    split
    · simpa using h
    · rename_i r _
      dsimp only
      split
      · exact ih (by simpa using h) m
      · split
        · simpa using h
        · split
          · simp [h]
          · exact ih (by simp [h]) m
        · split
          · simpa using h
          · exact ih (by simp [h]) m
        · rename_i b _
          refine .ite ?dropped (.ite ?held (.ite ?post ?go))
          case dropped => exact ih (by simp [h]) m
          case held => simpa using h
          case post => simpa using h
          case go =>
            split
            · simpa using h
            · rename_i t hgo
              have hstarted : (t.startItem r b).1.store.canonical := by simpa [State.goGiven_store hgo] using h
              exact .ite (canonicalAfter_some.mpr hstarted) (ih (State.missed_canonical hstarted) _)

theorem canonicalAfter_takeHead (m : TakeMode) : CanonicalAfter (s.takeHead m) :=
  canonicalAfter_takeLoop h takeFuel m

theorem canonicalAfter_startHead : CanonicalAfter s.startHead := by
  unfold State.startHead
  split
  · rename_i r _
    split
    · rename_i b _
      have hstarted : (s.startItem r b).1.store.canonical := by simpa using h
      exact .ite (canonicalAfter_some.mpr hstarted) (canonicalAfter_takeHead (State.missed_canonical hstarted) _)
    all_goals exact canonicalAfter_takeHead h _
  · exact canonicalAfter_takeHead h _

theorem canonicalAfter_takeFromGo : CanonicalAfter s.takeFromGo := by
  unfold State.takeFromGo
  split
  · split
    · split
      · rename_i t hgo
        exact canonicalAfter_startHead (by simpa [State.goGiven_store hgo] using h)
      · simpa using h
    all_goals exact canonicalAfter_takeHead h _
  · exact canonicalAfter_takeHead h _

theorem canonicalAfter_endOnAir (e : Ending) : CanonicalAfter (s.endOnAir e) := by
  unfold State.endOnAir
  split
  · simpa using h
  · exact canonicalAfter_takeHead (by simp [h]) _

theorem canonicalAfter_settleHead (before : State) : CanonicalAfter (settleHead before s) := by
  unfold settleHead
  exact .ite (.ite (.same h) (canonicalAfter_takeHead (by simpa using h) _)) (.same h)

theorem canonicalAfter_testLastCaller : CanonicalAfter s.testLastCaller := by
  unfold State.testLastCaller
  split
  · unfold State.reportLastCaller
    split
    · exact .same h
    · split
      · exact .ite (canonicalAfter_endOnAir h _) (.same h)
      · exact .same h
  · exact .same h

theorem canonicalAfter_postCut (w : Watch) : CanonicalAfter (s.postCut w) := by
  have hcut : (s.cutOnAir false).cutOutgoing.dropPostWait.store.canonical := by simp [h]
  have hreleased := State.releaseBefore_canonical (s.cutOnAir false).cutOutgoing.dropPostWait.interp.look.length w hcut
  exact (canonicalAfter_startHead (by simpa using hreleased)).map fun t ht => by simpa using ht

theorem canonicalAfter_endOutgoing : CanonicalAfter s.endOutgoing := by
  unfold State.endOutgoing
  split
  · simpa using h
  · exact canonicalAfter_settleHead (by simp [h]) s

theorem canonicalAfter_takePost : CanonicalAfter s.takePost := canonicalAfter_takeFromGo (by simpa using h)

theorem canonicalAfter_takeCut (w : Watch) : CanonicalAfter (s.takeCut w) := by
  have hput (x : PostWatch) : CanonicalAfter (some (s.putWatch x)) := by simpa using h
  have hcut := canonicalAfter_postCut h w
  unfold State.takeCut
  split
  · exact .ite (hput _) (.ite hcut (hput _))
  · exact .ite hcut (hput _)
  · exact .ite hcut (hput _)
  all_goals exact hput _

/-! ### Carriages (chapter 8) -/

theorem canonicalAfter_placeRequest (k : Fin 8) : CanonicalAfter (s.placeRequest k) := by
  unfold State.placeRequest
  split
  · simpa using h
  · exact canonicalAfter_settleHead (by simpa using h) s

theorem canonicalAfter_actByWay (k : Fin 8) (mayOffer : Bool) : CanonicalAfter (s.actByWay k mayOffer) := by
  have hdue : (if s.deadlineDue k then s.passDeadline k else s).store.canonical := by split <;> simpa using h
  unfold State.actByWay
  dsimp only
  split
  · cases mayOffer with
    | true => simpa using State.offer_canonical hdue
    | false => simpa using hdue
  · exact canonicalAfter_placeRequest hdue k
  · simpa using hdue
  · simpa using hdue

theorem canonicalAfter_makeEligible (k : Fin 8) (mayOffer : Bool) : CanonicalAfter (s.makeEligible k mayOffer) := by
  unfold State.makeEligible
  split
  · simpa using h
  · exact canonicalAfter_actByWay (by simpa using h) k mayOffer

theorem canonicalAfter_linkUp : CanonicalAfter s.linkUp :=
  .foldSteps h (fun k _ hu => .ite (canonicalAfter_makeEligible hu k true) (by simpa using hu)) allSlots

theorem canonicalAfter_rankNotice (k : Fin 8) : CanonicalAfter (s.rankNotice k) := by
  unfold State.rankNotice
  split
  · exact .same h
  · exact .ite (.same h) (.ite (canonicalAfter_actByWay (by simpa using h) k true) (.same h))

theorem canonicalAfter_rerank (k : Fin 8) : CanonicalAfter (s.rerank k) := by
  unfold State.rerank
  split
  · exact .same h
  · exact .ite (.same h) (canonicalAfter_rankNotice (by simpa using h) k)

theorem canonicalAfter_giveBack (p : Preemption) : CanonicalAfter (s.giveBack p) := by
  unfold State.giveBack
  split
  · simpa using h
  · split
    · simpa using h
    · simpa using h
    all_goals exact canonicalAfter_takeHead h _

theorem canonicalAfter_restoreByCut (p : Preemption) (w : Watch) : CanonicalAfter (s.restoreByCut p w) := by
  unfold State.restoreByCut
  refine canonicalAfter_postCut ?_ w
  split <;> simpa using h

theorem canonicalAfter_restoreAir : CanonicalAfter s.restoreAir := by
  unfold State.restoreAir
  split
  · simpa using h
  · rename_i p _
    refine CanonicalAfter.map ?_ fun t ht => by simpa using ht
    split
    · exact .ite (canonicalAfter_restoreByCut (by exact h) p _) (canonicalAfter_giveBack (by exact h) p)
    · exact canonicalAfter_giveBack (by exact h) p

theorem canonicalAfter_eligibleAgain (k : Fin 8) (a : Alert) : CanonicalAfter (s.eligibleAgain k a) :=
  .ite (by simpa using h) (canonicalAfter_makeEligible (by simpa using h) k false)

theorem canonicalAfter_judge (c : Carriage) (reason : EndReason) : CanonicalAfter (s.judge c reason) := by
  have hwait (k : Fin 8) (a : Alert) (e : Eligibility) (next : Option Nat) :
      CanonicalAfter (some (s.waitAgain k a e next)) := by simpa using h
  unfold State.judge
  split
  · simpa using h
  · refine .ite (canonicalAfter_eligibleAgain h _ _) ?_
    dsimp only
    split
    · exact .ite (.ite (canonicalAfter_eligibleAgain h _ _) (hwait _ _ _ _)) (.ite (by simpa using h) (hwait _ _ _ _))
    · exact .ite (by simpa using h) (hwait _ _ _ _)
    · exact .ite (by simpa using h) (hwait _ _ _ _)
    · simpa using h

theorem canonicalAfter_breakEnd : CanonicalAfter s.breakEnd := by
  have hended := State.endRecord_canonical h .complete
  unfold State.breakEnd
  split
  · simpa using h
  · split
    · exact canonicalAfter_endOnAir h _
    · dsimp only
      split
      · exact .ite (canonicalAfter_postCut hended _) (canonicalAfter_takeHead (by simpa using hended) _)
      · exact canonicalAfter_takeHead hended _

theorem canonicalAfter_afterRun : CanonicalAfter s.afterRun := by
  have hrestore : CanonicalAfter s.giveRestore := .ite (canonicalAfter_testLastCaller (by simpa using h)) (.same h)
  exact .ite (.same h) (hrestore.map fun t ht => by split <;> simpa using ht)

theorem canonicalAfter_followCarriage (way : Way) : CanonicalAfter (s.followCarriage way) := by
  unfold State.followCarriage
  refine .ite (.bind ?_ fun _ hu => canonicalAfter_afterRun hu) (by simp [h])
  split
  · exact canonicalAfter_restoreAir h
  · exact canonicalAfter_breakEnd h
  · exact canonicalAfter_breakEnd h

theorem canonicalAfter_endCarriage (reason : EndReason) : CanonicalAfter (s.endCarriage reason) := by
  unfold State.endCarriage
  split
  · simpa using h
  · rename_i c _
    refine .bind ?_ fun u hu => canonicalAfter_followCarriage (by simpa using hu) c.way
    have hclosed (n : Option CarriageNote) : ({ s.stopSent reason with
        sched := { (s.stopSent reason).sched with lastNote := n, carriage := none } } : State).store.canonical := by
      unfold State.stopSent
      split <;> simpa using h
    exact .ite (canonicalAfter_some.mpr (hclosed _)) (canonicalAfter_judge (hclosed _) c reason)

theorem canonicalAfter_retire (k : Fin 8) (reason : Retirement) : CanonicalAfter (s.retire k reason) := by
  unfold State.retire
  split
  · simpa using h
  · exact .map (.ite (canonicalAfter_endCarriage h _) (by simpa using h)) fun t ht => by simpa using ht

/-! ### The alert receiver (chapter 7) -/

theorem canonicalAfter_storeAlert (k : Fin 8) (f : IssueFrame) : CanonicalAfter (s.storeAlert k f) :=
  .ite (canonicalAfter_makeEligible (by simpa using h) k true) (by simpa using h)

theorem canonicalAfter_newAlert (f : IssueFrame) : CanonicalAfter (s.newAlert f) := by
  unfold State.newAlert
  refine .ite (by simpa using h) (.ite (by simpa using h) ?_)
  split
  · exact canonicalAfter_storeAlert h _ f
  · split
    · exact (canonicalAfter_retire h _ _).bind fun _ hu => canonicalAfter_storeAlert hu _ f
    · simpa using h

theorem canonicalAfter_revise (k : Fin 8) (a : Alert) (f : IssueFrame) : CanonicalAfter (s.revise k a f) :=
  .ite (by simpa using h) (.ite (canonicalAfter_makeEligible (by simpa using h) k true) (by simpa using h))

theorem canonicalAfter_knownAlert (k : Fin 8) (a : Alert) (f : IssueFrame) : CanonicalAfter (s.knownAlert k a f) :=
  .ite (by simpa using h) (.ite (by simpa using h)
    (.ite ((canonicalAfter_retire h k _).map fun t ht => by simpa using ht) (canonicalAfter_revise h k a f)))

theorem canonicalAfter_takeIssue (f : IssueFrame) : CanonicalAfter (s.takeIssue f) := by
  unfold State.takeIssue
  refine .ite (by simpa using h) ?_
  split
  · exact canonicalAfter_newAlert h f
  · split
    · exact canonicalAfter_knownAlert h _ _ f
    · exact canonicalAfter_newAlert h f

theorem canonicalAfter_takeCancel (origin number : Nat) : CanonicalAfter (s.takeCancel origin number) := by
  unfold State.takeCancel
  refine .ite (by simpa using h) ?_
  split
  · simpa using h
  · split
    · exact (canonicalAfter_retire h _ _).map fun t ht => by simpa using ht
    · simpa using h

theorem canonicalAfter_takeAudio (reason : EndReason) : CanonicalAfter (s.takeAudio reason) := by
  unfold State.takeAudio
  split
  · exact .ite (canonicalAfter_endCarriage h reason) (.same h)
  · exact .same h

theorem canonicalAfter_alertByte (b : Byte) : CanonicalAfter (s.alertByte b) := by
  unfold State.alertByte
  split
  · simpa using h
  · refine .ite (by simpa using h) ?_
    split
    · simpa using h
    · simpa using h
    · have hclosed : (s.putAlertOpen none).store.canonical := by simpa using h
      unfold State.takeAlertFrame
      split
      · exact canonicalAfter_takeIssue hclosed _
      · exact canonicalAfter_takeCancel hclosed _ _
      · exact canonicalAfter_takeAudio hclosed _
      · exact canonicalAfter_takeAudio hclosed _
      · simpa using hclosed
    · simpa using h

theorem canonicalAfter_writeClass (c : Nat) (e : ClassEntry) : CanonicalAfter (s.writeClass c e) := by
  have hput : (s.putClass c e).store.canonical := by simpa using h
  have hranked : CanonicalAfter
      (if (s.classEntry c).action = e.action then some (s.putClass c e) else (s.putClass c e).rerankClass c) :=
    .ite (by simpa using hput)
      (.foldSteps hput (fun k _ hu => .ite (canonicalAfter_rerank hu k) (by simpa using hu)) allSlots)
  unfold State.writeClass
  exact .ite (by simpa using h) (.ite hranked (hranked.map fun t ht => State.expireMoved_canonical ht c))

/-! ### The site link (chapter 9) -/

theorem canonicalAfter_validFrame {handle : State → State} (hh : ∀ t, (handle t).store = t.store) :
    CanonicalAfter (s.validFrame handle) := by
  unfold State.validFrame
  refine CanonicalAfter.map ?_ fun t ht => by simpa using ht
  split
  · simpa [hh] using h
  · exact canonicalAfter_linkUp (by simpa [hh] using h)
  · exact canonicalAfter_linkUp (by simpa [hh] using h)

theorem canonicalAfter_siteByte (b : Byte) : CanonicalAfter (s.siteByte b) := by
  unfold State.siteByte
  split
  · simpa using h
  · refine .ite (by simpa using h) ?_
    split
    · simpa using h
    · simpa using h
    · have hclosed : (s.putSiteOpen none).store.canonical := by simpa using h
      unfold State.takeSiteFrame
      split
      · exact canonicalAfter_validFrame hclosed (by simp)
      · exact canonicalAfter_validFrame hclosed (by simp)
      · exact canonicalAfter_validFrame hclosed (by simp)
      · exact canonicalAfter_validFrame hclosed (by simp)
      · simpa using hclosed
    · simpa using h

/-! ### The clock and the controller reset -/

theorem canonicalAfter_watchClock : CanonicalAfter s.watchClock := by
  unfold State.watchClock
  split
  · exact .same h
  · exact .ite (canonicalAfter_takeCut h _) (.ite (canonicalAfter_takePost h) (.same h))

theorem canonicalAfter_alertClock (k : Fin 8) : CanonicalAfter (s.alertClock k) := by
  unfold State.alertClock
  split
  · exact .same h
  · exact .ite (canonicalAfter_retire h k _) (.ite (canonicalAfter_makeEligible h k true) (.same h))

theorem canonicalAfter_setClock (time : Nat) : CanonicalAfter (s.setClock time) := by
  have hwatch : CanonicalAfter
      (State.watchClock { s with clock := { s.clock with station := time, unset := false } }) :=
    canonicalAfter_watchClock (by exact h)
  have hcomputed := hwatch.map (f := State.compute) fun t ht => by simpa using ht
  have halerts := hcomputed.bind fun _ hu => .foldSteps hu (fun k _ hv => canonicalAfter_alertClock hv k) allSlots
  exact halerts.bind fun _ hu =>
    .foldSteps hu (fun k _ hv => .ite (canonicalAfter_makeEligible hv k true) (by simpa using hv)) allSlots

theorem canonicalAfter_resumeAlert (was : Option (Fin 8)) (passed : Bool) :
    CanonicalAfter (s.resumeAlert was passed) := by
  unfold State.resumeAlert
  split
  · exact .same h
  · split
    · exact .same h
    · exact .ite (canonicalAfter_actByWay (by simpa using h) _ false) (.same h)

theorem canonicalAfter_controllerReset : CanonicalAfter s.controllerReset := by
  have hrebuilt : s.resetBlocks.rebuild.store.canonical := by simpa using h
  have hplaced := (canonicalAfter_resumeAlert hrebuilt s.onAirSlot s.carriedPassed).bind fun _ hu =>
    .foldSteps (f := State.placeAgain) hu
      (fun k _ hv => .ite (canonicalAfter_placeRequest hv k) (by simpa using hv)) allSlots
  exact hplaced.map fun t ht => State.offer_canonical ht

end

/-! ### Commands and owners -/

/-- Where an owner answers, the table of slots is in its canonical form. -/
def CanonicalAnswer (r : Option (State × Reply)) : Prop := ∀ t y, r = some (t, y) → t.store.canonical

/-- Where a command has a next state, the table of slots is in its canonical form. -/
def CanonicalNext (r : Result) : Prop := ∀ t, r = .next t → t.store.canonical

@[simp] theorem canonicalAnswer_accepted_some {t : State} {f : State → List Byte} :
    CanonicalAnswer (accepted (some t) f) ↔ t.store.canonical := by simp [CanonicalAnswer, accepted]

@[simp] theorem canonicalAnswer_refused {s : State} {st : Status} :
    CanonicalAnswer (refused s st) ↔ s.store.canonical := by simp [CanonicalAnswer, refused]

@[simp] theorem canonicalAnswer_ite {c : Prop} [Decidable c] {a b : Option (State × Reply)} :
    CanonicalAnswer (if c then a else b) ↔ if c then CanonicalAnswer a else CanonicalAnswer b := by split <;> rfl

theorem CanonicalAnswer.accepted {r : Option State} (h : CanonicalAfter r) (f : State → List Byte) :
    CanonicalAnswer (accepted r f) := fun t _ ht => h t (accepted_some ht).1

theorem CanonicalAnswer.ite {c : Prop} [Decidable c] {a b : Option (State × Reply)} (ha : CanonicalAnswer a)
    (hb : CanonicalAnswer b) : CanonicalAnswer (if c then a else b) := by split <;> assumption

@[simp] theorem canonicalNext_next {t : State} : CanonicalNext (.next t) ↔ t.store.canonical := by
  simp [CanonicalNext]

theorem CanonicalNext.finish {r : Option State} (h : CanonicalAfter r) : CanonicalNext (finish r) := fun t ht =>
  h t (finish_next.mp ht)

theorem CanonicalNext.ite {c : Prop} [Decidable c] {a b : Result} (ha : CanonicalNext a) (hb : CanonicalNext b) :
    CanonicalNext (if c then a else b) := by split <;> assumption

section

variable {s : State} (h : s.store.canonical)

include h

theorem CanonicalAnswer.refused (st : Status) : CanonicalAnswer (refused s st) := canonicalAnswer_refused.mpr h

theorem CanonicalAnswer.onLine {f : Fin 6 → Option (State × Reply)} (hf : ∀ l, CanonicalAnswer (f l)) (line : Nat) :
    CanonicalAnswer (onLine line s f) := by
  unfold Machine.onLine
  split
  · exact .refused h _
  · exact hf _

/-- Every answer but the owner's leaves the store (R188, R189). -/
theorem CanonicalNext.request {owner : State → Option (State × Reply)} (ho : CanonicalAnswer (owner s)) (code : Nat)
    (role : Role) (permitted : List Role) : CanonicalNext (request code role permitted s owner) := fun t ht => by
  obtain ⟨-, rfl⟩ | ⟨-, -, rfl⟩ | ⟨-, -, u, r, hu, rfl⟩ := request_cases ht
  · simpa using h
  · simpa using h
  · simpa using ho u r hu

theorem CanonicalNext.readRequest (owner : State → Reply) (code : Nat) (role : Role) (permitted : List Role) :
    CanonicalNext (readRequest code role permitted s owner) :=
  .request h (fun t y ht => by cases ht; exact h) code role permitted

/-! ### The owners of the running-order requests (R8 to R15) -/

omit h in
/-- An edit writes the store and gives its notice, which leaves the store. -/
theorem canonicalAfter_edited {st : Store} (hst : st.canonical) (n : Notice) : CanonicalAfter (s.edited st n) :=
  canonicalAfter_settleHead (by simpa using hst) s

theorem canonicalAnswer_insertEntry (anchor : Nat) (e : RawEntry) : CanonicalAnswer (insertEntry anchor e s) := by
  unfold insertEntry
  split
  · refine .ite (.refused h _) (.ite (.refused h _) (.ite (.refused h _) ?_))
    split
    · exact .refused h _
    · rename_i hinserted
      exact .accepted (canonicalAfter_edited (Store.canonical_insert h hinserted) _) _
  · exact .refused h _

theorem canonicalAnswer_changeEntry (n : Nat) (e : RawEntry) : CanonicalAnswer (changeEntry n e s) := by
  unfold changeEntry
  split
  · exact .refused h _
  · split
    · exact .refused h _
    · exact .refused h _
    · exact .ite (.refused h _)
        (.ite (.refused h _) (.accepted (canonicalAfter_edited (Store.canonical_putEntry h _ _) _) _))

theorem canonicalAnswer_moveEntry (n list anchor : Nat) : CanonicalAnswer (moveEntry n list anchor s) := by
  have hlive (e : Entry) (l : ListId) : CanonicalAnswer (moveLive n e l anchor s) :=
    .ite (by simpa using h) (.accepted (canonicalAfter_edited (Store.canonical_move h _ _ _ _) _) _)
  unfold moveEntry
  split
  · exact .refused h _
  · refine .ite (.refused h _) ?_
    split
    · exact .refused h _
    · exact .refused h _
    · exact .ite (.refused h _) (.ite (.refused h _) (.ite (.refused h _) (hlive _ _)))

theorem canonicalAnswer_deleteEntry (n : Nat) : CanonicalAnswer (deleteEntry n s) := by
  unfold deleteEntry
  split
  · exact .refused h _
  · exact .refused h _
  · exact .ite (.refused h _) (.accepted (canonicalAfter_edited (Store.canonical_remove h _) _) _)

theorem canonicalAnswer_clearBreak (b : Nat) : CanonicalAnswer (clearBreak b s) := by
  unfold clearBreak
  split
  · simpa using h
  · exact .ite (by simpa using h)
      (.ite (by simpa using h) (.accepted (canonicalAfter_edited (Store.canonical_removeAll h _) _) _))

/-! ### The owners of the air and bus requests (chapters 3 and 5) -/

theorem canonicalAnswer_setMode (mode : Nat) : CanonicalAnswer (setMode mode s) := by
  unfold setMode
  split <;> simpa using h

theorem State.takeGo_canonical {t : State} {acted : Bool} (ht : s.takeGo = some (t, acted)) : t.store.canonical := by
  have hstart {u : State} (hu : u.store.canonical) (hs : u.startHead.map (·, true) = some (t, acted)) :
      t.store.canonical := by
    obtain ⟨v, hv, heq⟩ := Option.map_eq_some_iff.mp hs
    obtain ⟨rfl, -⟩ := Prod.mk.inj heq
    exact canonicalAfter_startHead hu v hv
  unfold State.takeGo at ht
  split at ht
  · split at ht
    · cases ht; exact h
    · exact hstart h ht
  · exact hstart (by simpa using h) ht
  all_goals cases ht; exact h

theorem canonicalAnswer_giveGo : CanonicalAnswer (giveGo s) := fun t y ht => by
  obtain ⟨⟨u, acted⟩, hu, heq⟩ := Option.map_eq_some_iff.mp ht
  cases heq
  exact State.takeGo_canonical h hu

theorem canonicalAnswer_endAirSegment : CanonicalAnswer (endAirSegment s) :=
  .ite (.accepted (canonicalAfter_endOnAir h _) _) (by simpa using h)

theorem canonicalAnswer_holdAir : CanonicalAnswer (holdAir s) := by
  unfold holdAir
  split <;> simpa using h

theorem canonicalAnswer_resumeAir : CanonicalAnswer (resumeAir s) := by
  unfold resumeAir
  split
  · simpa using h
  · exact .accepted (canonicalAfter_takeHead h _) _
  all_goals simpa using h

theorem canonicalAnswer_stepAir : CanonicalAnswer (stepAir s) := by
  unfold stepAir
  split
  · exact .accepted (canonicalAfter_takeHead (by simpa using h) _) _
  all_goals simpa using h

theorem canonicalAnswer_setHoldAtPoint (value : Nat) : CanonicalAnswer (setHoldAtPoint value s) := by
  unfold setHoldAtPoint
  split <;> simpa using h

theorem canonicalAnswer_stopAir : CanonicalAnswer (stopAir s) :=
  .ite (by simpa using h) (.ite (by simpa using h) (by simp [h]))

theorem canonicalAnswer_startAir : CanonicalAnswer (startAir s) :=
  .ite (by simpa using h)
    (.ite (by simpa using h) (.ite (.accepted (canonicalAfter_takeHead h _) _) (by simpa using h)))

theorem canonicalAnswer_cueAirTo (n : Nat) : CanonicalAnswer (cueAirTo n s) := by
  unfold cueAirTo
  split
  · simpa using h
  · simpa using h
  all_goals
    split
    · simpa using h
    · simpa using h
    · exact .accepted (canonicalAfter_settleHead (by simpa using h) s) _

theorem canonicalAnswer_cuePlayer (player cart length : Nat) : CanonicalAnswer (cuePlayer player cart length s) := by
  unfold cuePlayer
  split <;> simpa using h

theorem canonicalAnswer_clearPlayer (player : Nat) : CanonicalAnswer (clearPlayer player s) := by
  unfold clearPlayer
  split <;> simpa using h

theorem canonicalAnswer_setFader (source : Nat) (value : Int) : CanonicalAnswer (setFader source value s) := by
  unfold setFader
  split <;> simpa using h

theorem canonicalAnswer_setTrim (source : Nat) (value : Int) : CanonicalAnswer (setTrim source value s) := by
  unfold setTrim
  split <;> simpa using h

theorem canonicalAnswer_switchMic (source value : Nat) : CanonicalAnswer (switchMic source value s) := by
  unfold switchMic
  split <;> simpa using h

/-! ### The owners of the line requests (R109 to R118) -/

theorem canonicalAnswer_acceptCaller (line : Nat) (name : List Byte) (topic priority : Nat) :
    CanonicalAnswer (acceptCaller line name topic priority s) := by
  refine .onLine h (fun l => ?_) line
  split <;> simpa using h

theorem canonicalAnswer_rejectCaller (line : Nat) : CanonicalAnswer (rejectCaller line s) := by
  refine .onLine h (fun l => ?_) line
  split <;> simpa using h

theorem canonicalAfter_clearCall (l : Fin 6) (e : LastEnd) : CanonicalAfter (s.clearCall l e) :=
  .ite (canonicalAfter_testLastCaller (by simpa using h)) (by simpa using h)

theorem canonicalAnswer_releaseCaller (role : Role) (line : Nat) : CanonicalAnswer (releaseCaller role line s) := by
  have hclear (l : Fin 6) : CanonicalAnswer (accepted (s.clearCall l .released) fun _ => []) :=
    .accepted (canonicalAfter_clearCall h l _) _
  refine .onLine h (fun l => ?_) line
  split
  · exact hclear l
  · exact hclear l
  · exact hclear l
  · exact .ite (by simpa using h) (hclear l)
  all_goals simpa using h

theorem canonicalAnswer_takeCaller (line : Nat) : CanonicalAnswer (takeCaller line s) := by
  refine .onLine h (fun l => ?_) line
  split <;> simpa using h

theorem canonicalAnswer_dropCaller (line : Nat) : CanonicalAnswer (dropCaller line s) :=
  .onLine h (fun _ => .ite (.accepted (canonicalAfter_testLastCaller (by simpa using h)) _) (by simpa using h)) line

theorem canonicalAnswer_serviceLine (line value : Nat) : CanonicalAnswer (serviceLine line value s) := by
  refine .onLine h (fun l => ?_) line
  split <;> simpa using h

theorem canonicalAnswer_moveInQueue (line position : Nat) : CanonicalAnswer (moveInQueue line position s) :=
  .onLine h (fun _ => by simpa using h) line

theorem canonicalAnswer_pinLine (line : Nat) : CanonicalAnswer (pinLine line s) :=
  .onLine h (fun _ => by simpa using h) line

theorem canonicalAnswer_noteCaller (line : Nat) (name : List Byte) (topic : Nat) :
    CanonicalAnswer (noteCaller line name topic s) := by
  refine .onLine h (fun l => ?_) line
  split
  · simpa using h
  · refine .ite (by simpa using h) ?_
    split <;> simpa using h

/-! ### The owners of the alert, site and part requests (chapters 7, 9 and 10) -/

theorem canonicalAnswer_writeClassEntry (c action deadline required : Nat) :
    CanonicalAnswer (writeClassEntry c action deadline required s) :=
  .ite (.accepted (canonicalAfter_writeClass h c _) _) (by simpa using h)

theorem canonicalAnswer_lockCompliance : CanonicalAnswer (lockCompliance s) :=
  .ite (by simpa using h) (by simpa using h)

theorem canonicalAnswer_carryNamed (origin number : Nat) : CanonicalAnswer (carryNamed origin number s) := by
  unfold carryNamed
  split
  · simpa using h
  · exact .accepted (.ite (canonicalAfter_rankNotice (by simpa using h) _) (by simpa using h)) _

theorem canonicalAnswer_dismissNamed (origin number : Nat) : CanonicalAnswer (dismissNamed origin number s) := by
  unfold dismissNamed
  split
  · simpa using h
  · exact .ite (by simpa using h) (.ite (by simpa using h) (.accepted (canonicalAfter_retire h _ _) _))

theorem canonicalAnswer_setSite (param value : Nat) : CanonicalAnswer (setSite param value s) := by
  unfold setSite
  split
  · simpa using h
  · split <;> simpa using h

theorem canonicalAnswer_setStationTime (time : Nat) : CanonicalAnswer (setStationTime time s) :=
  .ite (by simpa using h) (.accepted (canonicalAfter_setClock h time) _)

theorem canonicalAnswer_maskEvents (mask : Vector Byte 24) : CanonicalAnswer (maskEvents mask s) :=
  canonicalAnswer_accepted_some.mpr (by exact h)

theorem canonicalAnswer_clearEvents (pairs : List (Nat × Nat)) : CanonicalAnswer (clearEvents pairs s) :=
  .ite (by simpa using h) (by simpa using h)

/-! ### The requests -/

/-- Every request that a WRITE brings keeps the canonical form. -/
theorem canonicalNext_runRequest (i : Instr) : CanonicalNext (runRequest i s) := by
  cases i with
  | roInsert role anchor body => exact .request h (canonicalAnswer_insertEntry h anchor body) _ _ _
  | roChange role handle body => exact .request h (canonicalAnswer_changeEntry h handle body) _ _ _
  | roMove role handle list anchor => exact .request h (canonicalAnswer_moveEntry h handle list anchor) _ _ _
  | roDelete role handle => exact .request h (canonicalAnswer_deleteEntry h handle) _ _ _
  | breakClear role brk => exact .request h (canonicalAnswer_clearBreak h brk) _ _ _
  | airMode role mode => exact .request h (canonicalAnswer_setMode h mode) _ _ _
  | airGo role => exact .request h (canonicalAnswer_giveGo h) _ _ _
  | airEndSegment role => exact .request h (canonicalAnswer_endAirSegment h) _ _ _
  | airHold role => exact .request h (canonicalAnswer_holdAir h) _ _ _
  | airResume role => exact .request h (canonicalAnswer_resumeAir h) _ _ _
  | airStep role => exact .request h (canonicalAnswer_stepAir h) _ _ _
  | airHoldAtPoint role value => exact .request h (canonicalAnswer_setHoldAtPoint h value) _ _ _
  | airStop role => exact .request h (canonicalAnswer_stopAir h) _ _ _
  | airStart role => exact .request h (canonicalAnswer_startAir h) _ _ _
  | airCueTo role handle => exact .request h (canonicalAnswer_cueAirTo h handle) _ _ _
  | playerCue role player cart length => exact .request h (canonicalAnswer_cuePlayer h player cart length) _ _ _
  | playerClear role player => exact .request h (canonicalAnswer_clearPlayer h player) _ _ _
  | busFader role source value => exact .request h (canonicalAnswer_setFader h source value) _ _ _
  | busTrim role source value => exact .request h (canonicalAnswer_setTrim h source value) _ _ _
  | micSwitch role source value => exact .request h (canonicalAnswer_switchMic h source value) _ _ _
  | lineAnswer role line =>
    simp only [runRequest, execLineAnswer]
    exact .request h (.onLine h (fun _ => by simpa using h) line) _ _ _
  | lineAccept role line name topic priority =>
    exact .request h (canonicalAnswer_acceptCaller h line name topic priority) _ _ _
  | lineReject role line => exact .request h (canonicalAnswer_rejectCaller h line) _ _ _
  | lineRelease role line => exact .request h (canonicalAnswer_releaseCaller h role line) _ _ _
  | lineTake role line => exact .request h (canonicalAnswer_takeCaller h line) _ _ _
  | lineDrop role line => exact .request h (canonicalAnswer_dropCaller h line) _ _ _
  | lineService role line value => exact .request h (canonicalAnswer_serviceLine h line value) _ _ _
  | queueMove role line position => exact .request h (canonicalAnswer_moveInQueue h line position) _ _ _
  | linePin role line => exact .request h (canonicalAnswer_pinLine h line) _ _ _
  | lineNotes role line name topic => exact .request h (canonicalAnswer_noteCaller h line name topic) _ _ _
  | classWrite role cls action deadline required =>
    exact .request h (canonicalAnswer_writeClassEntry h cls action deadline required) _ _ _
  | complianceLock role => exact .request h (canonicalAnswer_lockCompliance h) _ _ _
  | alertCarry role origin number => exact .request h (canonicalAnswer_carryNamed h origin number) _ _ _
  | alertDismiss role origin number => exact .request h (canonicalAnswer_dismissNamed h origin number) _ _ _
  | siteSet role param value => exact .request h (canonicalAnswer_setSite h param value) _ _ _
  | configWriteTolerance role value | configWriteCueGrace role value | configWriteThreshold role value
  | configWriteDeadAirLimit role value | configWriteDuckDepth role value | configWriteHoldLimit role value
  | configWriteFoldBackLimit role value =>
    simp only [runRequest, execConfigWriteTolerance, execConfigWriteCueGrace, execConfigWriteThreshold,
      execConfigWriteDeadAirLimit, execConfigWriteDuckDepth, execConfigWriteHoldLimit, execConfigWriteFoldBackLimit]
    exact .request h (by simpa using h) _ _ _
  | configWriteFillPlayer role value =>
    simp only [runRequest, execConfigWriteFillPlayer]
    refine .request h ?_ _ _ _
    split <;> simpa using h
  | configWriteCalibration role item value =>
    simp only [runRequest, execConfigWriteCalibration]
    refine .request h ?_ _ _ _
    split <;> simpa using h
  | clockSet role time => exact .request h (canonicalAnswer_setStationTime h time) _ _ _
  | controllerReset role =>
    simp only [runRequest, execControllerReset]
    exact .request h (.accepted (canonicalAfter_controllerReset h) _) _ _ _
  | eventsClear role pairs => exact .request h (canonicalAnswer_clearEvents h pairs) _ _ _
  | eventsMask role mask => exact .request h (canonicalAnswer_maskEvents h mask) _ _ _
  | roRead _ _ | roList _ _ _ | airStatus _ | playerRead _ _ | lookaheadRead _ _ | timingRead _ | busRead _
  | callerRead _ _ | queueRead _ | classRead _ _ | classProbe _ _ _ _ _ | alertRead _ _ _ | alertList _
  | carriageRead _ | siteRead _ | configRead _ | clockRead _ | ident _ | eventsRead _ =>
    simp only [runRequest, execRoRead, execRoList, execAirStatus, execPlayerRead, execLookaheadRead, execTimingRead,
      execBusRead, execCallerRead, execQueueRead, execClassRead, execClassProbe, execAlertRead, execAlertList,
      execCarriageRead, execSiteRead, execConfigRead, execClockRead, execIdent, execEventsRead]
    exact .readRequest h _ _ _ _
  | _ => exact canonicalNext_next.mpr h

theorem canonicalNext_portWrite (bytes : List Byte) : CanonicalNext (portWrite bytes s) := by
  have hbad (st : Status) : CanonicalNext (.next (s.answerBad bytes st)) := by
    unfold State.answerBad
    split <;> simpa using h
  unfold portWrite
  refine .ite (by simpa using h) ?_
  split
  · exact hbad _
  · exact hbad _
  · exact canonicalNext_runRequest h _

omit h in
@[simp] theorem portRead_store (clocked : Nat) (s : State) : (portRead clocked s).store = s.store := by
  unfold portRead
  split <;> rfl

/-! ### Edges and timers -/

theorem canonicalAfter_segue (o : OnAir) (p : Fin 4) (k : AudioKind) : CanonicalAfter (s.segue o p k) :=
  canonicalAfter_takeHead (State.releaseWith_canonical (by simp [h]) _ _) _

theorem canonicalAfter_takeSegue : CanonicalAfter s.takeSegue := by
  unfold State.takeSegue
  split
  · simpa using h
  · dsimp only
    split
    · exact .ite (canonicalAfter_segue (by simpa using h) _ _ _) (by simpa using h)
    · simpa using h

theorem canonicalAfter_takeCutInstant : CanonicalAfter s.takeCutInstant := by
  unfold State.takeCutInstant
  split
  · exact canonicalAfter_takeCut h _
  · simpa using h

theorem canonicalAfter_goEdge : CanonicalAfter (s.takeGo.map Prod.fst) := fun t ht => by
  obtain ⟨⟨u, acted⟩, hu, rfl⟩ := Option.map_eq_some_iff.mp ht
  exact State.takeGo_canonical h hu

theorem canonicalAfter_netA : CanonicalAfter s.netA := .ite (canonicalAfter_startHead h) (by simpa using h)

theorem canonicalAfter_takeEnd (p : Fin 4) : CanonicalAfter (s.takeEnd p) :=
  .ite (canonicalAfter_endOnAir h _)
    (.ite (canonicalAfter_endOutgoing h) (.ite (by simpa using h) (by simpa using h)))

theorem canonicalAfter_loopDrop (l : Fin 6) : CanonicalAfter (s.loopDrop l) :=
  .ite (canonicalAfter_clearCall (by simpa using h) l _) (by simpa using h)

/-! ### Every command, and the step -/

/-- Every command keeps the canonical form of the table of slots. -/
theorem canonicalNext_exec (i : Instr) : CanonicalNext (exec i s) := by
  have hsame : CanonicalNext (.next s) := canonicalNext_next.mpr h
  by_cases hreq : i.request?.isSome = true
  · exact exec_of_request hreq s ▸ canonicalNext_runRequest h i
  cases i with
  | writeTransactionBad first bytes =>
    exact .ite (canonicalNext_portWrite h bytes) (.ite (by simpa using h) hsame)
  | portOverrun bytes => exact canonicalNext_portWrite h bytes
  | read clocked => exact canonicalNext_next.mpr (by simpa using h)
  | powerOnReset levels => exact powerOnResetLeavesResetState levels s ▸ canonicalNext_next.mpr rfl
  | goEdge => exact .ite hsame (.finish (canonicalAfter_goEdge (by exact h)))
  | netAEdge => exact .ite hsame (.finish (canonicalAfter_netA (by exact h)))
  | netBEdge => exact .ite hsame (.finish (.ite (canonicalAfter_endOnAir (by exact h) _) (by simpa using h)))
  | endInput player => exact .finish (canonicalAfter_takeEnd h player)
  | endTimer => exact .ite (.finish (canonicalAfter_endOnAir h _)) hsame
  | seguePoint => exact .ite (.finish (canonicalAfter_takeSegue h)) hsame
  | outgoingEnd => exact .ite (.finish (canonicalAfter_endOutgoing h)) hsame
  | graceDeadline => exact .ite (.finish (canonicalAfter_takeHead (State.missed_canonical h) _)) hsame
  | postInstant => exact .ite (.finish (canonicalAfter_takePost h)) hsame
  | cutInstant => exact .ite (.finish (canonicalAfter_takeCutInstant h)) hsame
  | cutCompletion player => exact .ite (by simpa using h) hsame
  | fillWithdrawalEnd player => exact .ite (by simpa using h) hsame
  | gainUpdate => exact .ite (by simpa using h) hsame
  | deadAirWindow => exact .ite (by simpa using h) hsame
  | periodicTimer => exact .ite (by simpa using h) hsame
  | samplePeriod lanes talkback => exact canonicalNext_next.mpr (by simpa using h)
  | cueInputFall input => cases input <;> exact canonicalNext_next.mpr h
  | ringEvent line => exact .ite hsame (by simpa using h)
  | ringFall line => exact canonicalNext_next.mpr (by simpa using h)
  | loopEdge line level => exact canonicalNext_next.mpr (by simpa using h)
  | loopDrop line => exact .ite (.finish (canonicalAfter_loopDrop h line)) hsame
  | ringTimer line => exact .ite (by simpa using h) hsame
  | clearingTimer line => exact .ite (by simpa using h) hsame
  | holdTimer line => exact .ite (by simpa using h) hsame
  | issue frame => exact .finish (canonicalAfter_takeIssue (by simpa using h) frame)
  | cancel origin number => exact .finish (canonicalAfter_takeCancel (by simpa using h) origin number)
  | audioEnd => exact .finish (canonicalAfter_takeAudio (by simpa using h) _)
  | audioFail => exact .finish (canonicalAfter_takeAudio (by simpa using h) _)
  | alertFrameAbandoned bytes => exact .finish (.foldSteps h (fun b _ hu => canonicalAfter_alertByte hu b) bytes)
  | alertFrameGap => exact .ite (by simpa using h) hsame
  | alertFrameSent => exact canonicalNext_next.mpr (by simpa using h)
  | validFrom slot => exact .ite (.finish (canonicalAfter_makeEligible h slot _)) hsame
  | expiry slot => exact .ite (.finish (canonicalAfter_retire h slot _)) hsame
  | nextEligible slot => exact .ite (.finish (canonicalAfter_makeEligible h slot _)) hsame
  | deadlineExpiry slot => exact .ite (by simp [h]) hsame
  | guardExpiry => exact .ite (.finish (canonicalAfter_endCarriage h _)) hsame
  | ack sequence param value => exact .finish (canonicalAfter_validFrame (by simpa using h) (by simp))
  | nak sequence reason => exact .finish (canonicalAfter_validFrame (by simpa using h) (by simp))
  | reading sequence channel code => exact .finish (canonicalAfter_validFrame (by simpa using h) (by simp))
  | siteState active carrier audio fallback =>
    exact .finish (canonicalAfter_validFrame (by simpa using h) (by simp))
  | siteFrameAbandoned bytes => exact .finish (.foldSteps h (fun b _ hu => canonicalAfter_siteByte hu b) bytes)
  | siteFrameGap => exact .ite (by simpa using h) hsame
  | siteFrameSent => exact canonicalNext_next.mpr (by simpa using h)
  | keepTimer => exact .ite (by simpa using h) hsame
  | pollTimer => exact .ite (by simpa using h) hsame
  | ackTimeout sequence =>
    change CanonicalNext (execAckTimeout sequence s)
    unfold execAckTimeout
    split <;> simpa using h
  | retryTimer param => exact .ite (by simpa using h) hsame
  | silenceTimerDegrade => exact .ite (by simpa using h) hsame
  | silenceTimerLoss => exact .ite (by simpa using h) hsame
  | changeoverTimer =>
    change CanonicalNext (execChangeoverTimer s)
    unfold execChangeoverTimer
    split <;> simpa using h
  | readingStale channel => exact .ite (by simpa using h) hsame
  | _ => exact absurd rfl hreq

end

theorem State.tick_store (s : State) : s.tick.store = s.store := by
  unfold State.tick
  split <;> rfl

/-- Every step keeps the canonical form of the table of slots. -/
theorem step_keeps_slots {s t : State} (h : s.store.canonical) (ht : step s = .next t) : t.store.canonical := by
  unfold step at ht
  split at ht
  · obtain rfl := Host.Outcome.next.inj ht
    exact s.tick_store ▸ h
  · exact canonicalNext_exec (by exact h) _ t ht

/-! ### The class table (R139, R141) -/

/-- The lock's sweep takes the entries one by one, each at its own class number (R141). -/
theorem lockClasses_cons (c : Nat) (e : ClassEntry) (rest : List (Nat × ClassEntry)) :
    lockClasses ((c, e) :: rest) =
      (c, if e.required then { e with ceiling := some e.deadline } else e) :: lockClasses rest := by
  simp only [lockClasses, List.map_cons]
  split <;> rfl

theorem tableAbove_lockClasses (n : Nat) (t : List (Nat × ClassEntry)) :
    tableAbove n (lockClasses t) = tableAbove n t := by
  induction t generalizing n with
  | nil => rfl
  | cons p rest ih => rw [lockClasses_cons, tableAbove, tableAbove, ih]

theorem tableRising_lockClasses (t : List (Nat × ClassEntry)) : tableRising (lockClasses t) = tableRising t := by
  cases t with
  | nil => rfl
  | cons p rest => rw [lockClasses_cons, tableRising_cons, tableRising_cons, tableAbove_lockClasses]

/-- The sweep leaves no entry at its power-on value: one that takes a ceiling is required, which a fresh one is not. -/
theorem tableWf_lockClasses {t : List (Nat × ClassEntry)} (h : tableWf ClassEntry.fresh t = true) :
    tableWf ClassEntry.fresh (lockClasses t) = true := by
  simp only [tableWf, Bool.and_eq_true, List.all_eq_true, decide_eq_true_eq] at h ⊢
  obtain ⟨hrising, hlisted⟩ := h
  refine ⟨(tableRising_lockClasses t).trans hrising, fun p hp hfresh => ?_⟩
  obtain ⟨q, hq, rfl⟩ := List.mem_map.mp hp
  split at hfresh
  · have hceiling : some q.2.deadline = none := congrArg ClassEntry.ceiling hfresh
    cases hceiling
  · exact hlisted q hq hfresh

theorem PolicyStep.classesCanonical {s t : State} (h : PolicyStep s t)
    (hs : tableWf ClassEntry.fresh s.receiver.classes = true) :
    tableWf ClassEntry.fresh t.receiver.classes = true := by
  cases h with
  | kept h => rwa [(State.policy_eq_iff.mp h).1]
  | written c action deadline required h =>
    rw [(State.policy_eq_iff.mp h).1]
    exact State.putClass_wf s c _ hs
  | locked h =>
    have hclasses : t.receiver.classes = lockClasses s.receiver.classes := congrArg Prod.fst h
    exact hclasses ▸ tableWf_lockClasses hs

/-- Every step keeps the canonical form of the class table. -/
theorem step_keeps_classes {s t : State} (hs : tableWf ClassEntry.fresh s.receiver.classes = true)
    (ht : step s = .next t) : tableWf ClassEntry.fresh t.receiver.classes = true := by
  unfold step at ht
  split at ht
  · obtain rfl := Host.Outcome.next.inj ht
    exact s.tick_receiver ▸ hs
  · rename_i i rest _
    by_cases hreset : ∃ l, i = .powerOnReset l
    · obtain ⟨l, rfl⟩ := hreset
      rw [powerOnResetLeavesResetState] at ht
      obtain rfl := Host.Outcome.next.inj ht
      rfl
    · exact (policyNext_exec i (fun l hl => hreset ⟨l, hl⟩) { s with pending := rest } t ht).classesCanonical hs

/-- Settles O7: the store is written by its edits and the class table by CLASS_WRITE and the lock's sweep, each of which
keeps its table's form; every other operation leaves both. -/
theorem stepKeepsTablesCanonical : Obligations.StepKeepsTablesCanonical := by
  unfold Obligations.StepKeepsTablesCanonical
  rintro s t ⟨hslots, hclasses⟩ ht
  exact ⟨step_keeps_slots hslots ht, step_keeps_classes hclasses ht⟩

end Sys2Proof.Machine
end
